-- ==== Sys2Proof/Word.lean ====
section
/-! DEFINITION. The word types of the Zadrit 2404: the widths in which the spec carries its fields. -/

namespace Sys2Proof

/-- One byte of a frame, a cell or a carried field. -/
abbrev Byte := BitVec 8
/-- A two-byte field: a tag, an ethertype, a 16-bit saturating count. -/
abbrev Word16 := BitVec 16
/-- A four-byte field: the millisecond counter, a sequence, the value of a pacing header. -/
abbrev Word32 := BitVec 32
/-- The 64-bit grant clock (R153). -/
abbrev Word64 := BitVec 64
/-- A 48-bit LAN or host-link address. -/
abbrev MacAddr := BitVec 48
/-- A bay set: bit n stands for bay n (R188). -/
abbrev BaySet := BitVec 4
/-- A drive bay, 0 to 3. -/
abbrev Bay := Fin 4
/-- A session slot, 0 to 3. -/
abbrev Slot := Fin 4

end Sys2Proof
end

