-- ==== Sys2Proof/Syntax.lean ====
section
/-! DEFINITION. The commands of the block: one constructor for each row of spec/opcode_table.json. A row that takes
what stands first in one of the part's own queues (a question, a handed-over pacing frame, a management request)
carries no operand; a row whose event comes from outside carries what the outside supplies (assumption log 1). -/

namespace Sys2Proof

/-- The two edges of the front button, in the order of R50. -/
inductive ButtonEdge where
  | press
  | release
  deriving DecidableEq, Repr

/-- The direction of an edge on a drive activity line (R104). -/
inductive LineEdge where
  | rising
  | falling
  deriving DecidableEq, Repr

/-- The commands: events of the control lines, the LAN, the host link and the timers, and the taking of each kind of
management request. Frames are given whole, from the first byte of the destination address to the last byte of the
frame check sequence, in the order they are received (R1, R166). -/
inductive Instr where
  /-- POWER_ON (R185); `presence` and `activity` are the levels of BAY_PRESn and BAY_ACTn read at the reset. -/
  | powerOn (presence activity : BaySet)
  /-- PANEL_RESET (R186); PANEL_RST stays asserted for `heldMs` ms, through which the set clock runs on. -/
  | panelReset (presence activity : BaySet) (heldMs : Nat)
  /-- LAN_FRAME_TAKEN (R1): the next received LAN frame. -/
  | lanFrameTaken (frame : List Byte)
  /-- QUESTION_TAKEN (R84): the head of the question queue. -/
  | questionTaken
  /-- HOLDOFF_EXPIRY (R85) of one answer record. -/
  | holdoffExpiry (record : Fin 16)
  /-- OFFER (R115): the head of the handed-over pacing frames is a well-formed OFFER. -/
  | offer
  /-- BLOCK (R123): the head of the handed-over pacing frames is a well-formed BLOCK. -/
  | block
  /-- WITHDRAW (R118): the head of the handed-over pacing frames is a WITHDRAW. -/
  | withdraw
  /-- PACING_FRAME_MALFORMED (R111): the head of the handed-over pacing frames is malformed. -/
  | pacingFrameMalformed
  /-- GRANT_ISSUE (R119, R120). -/
  | grantIssue
  /-- SEQ_EXHAUSTED (R121) of the session in one slot. -/
  | seqExhausted (slot : Slot)
  /-- GRANT_EXPIRY (R125) of the grant of one sequence of the session in one slot. -/
  | grantExpiry (slot : Slot) (seq : Nat)
  /-- STALL_EXPIRY (R122) of the session in one slot. -/
  | stallExpiry (slot : Slot)
  /-- SHARE_WINDOW_EXPIRY (R157). -/
  | shareWindowExpiry
  /-- RECORD_STALE (R67) of the held record at one position of the list, the head being position 0. -/
  | recordStale (position : Nat)
  /-- HOST_DOWN_ASSERTED (R38): HOST_DOWN changes from withdrawn to asserted. -/
  | hostDownAsserted
  /-- ENTRY_DEADLINE_EXPIRY (R38). -/
  | entryDeadlineExpiry
  /-- STABILIZATION_EXPIRY (R40). -/
  | stabilizationExpiry
  /-- BOOT_DEADLINE_EXPIRY (R43). -/
  | bootDeadlineExpiry
  /-- RETRY_OFF_EXPIRY (R43). -/
  | retryOffExpiry
  /-- HEARTBEAT_LAPSE (R57). -/
  | heartbeatLapse
  /-- BUTTON_EVENT (R50): an edge of the front button. -/
  | buttonEvent (edge : ButtonEdge)
  /-- MINUTE_ENTERED (R53): the minute-of-week clock enters its next minute. -/
  | minuteEntered
  /-- BAY_INSERTION (R93). -/
  | bayInsertion (bay : Bay)
  /-- BAY_REMOVAL (R94). -/
  | bayRemoval (bay : Bay)
  /-- SPIN_EXPIRY (R101). -/
  | spinExpiry (bay : Bay)
  /-- IDLE_EXPIRY (R103). -/
  | idleExpiry (bay : Bay)
  /-- ACTIVITY_EDGE (R104): an edge of BAY_ACTn. -/
  | activityEdge (bay : Bay) (edge : LineEdge)
  /-- LAN_LINK_DOWN (R170). -/
  | lanLinkDown
  /-- LAN_LINK_UP (R170). -/
  | lanLinkUp
  /-- LAN_FRAME_SENT (R171): the last byte of the frame being sent leaves on the LAN. -/
  | lanFrameSent
  /-- HOST_FRAME_RECEIVED (R166): a frame received from the host. -/
  | hostFrameReceived (frame : List Byte)
  /-- H_PORT_UP (R164): the host brings its end of the host link up. -/
  | hPortUp
  /-- H_PORT_DOWN (R169): the host stops its end of the host link. -/
  | hPortDown
  /-- HOST_LINK_FRAME_SENT (R167): the last byte of the frame being sent leaves on the host link. -/
  | hostLinkFrameSent
  /-- NOTICE_BUILD (R178). -/
  | noticeBuild
  /-- PROGRAMMING_COMPLETE (R183). -/
  | programmingComplete
  /-- PROGRAM_RESPONSE_BUILT (R176). -/
  | programResponseBuilt
  /-- UNKNOWN_REQUEST (R174): the head of the request queue is of no kind of Table 10.5. -/
  | unknownRequest
  /-- MGMT_FRAME_TOO_SHORT (R174): the head of the request queue carries no tag or no request kind. -/
  | mgmtFrameTooShort
  /-- LOAD_FLOWS (R14), the head of the request queue, as all the rows below. -/
  | loadFlows
  /-- CONTINUE_FLOWS (R15). -/
  | continueFlows
  /-- SETTLE_FLOWS (R16). -/
  | settleFlows
  /-- UNSETTLE_FLOWS (R16). -/
  | unsettleFlows
  /-- READ_FLOW (R18). -/
  | readFlow
  /-- READ_FLOW_STATUS (R18). -/
  | readFlowStatus
  /-- SET_DEFAULT_ACTION (R19). -/
  | setDefaultAction
  /-- SET_PARTITION (R24). -/
  | setPartition
  /-- READ_PARTITION (R25). -/
  | readPartition
  /-- LOAD_ANSWER (R82). -/
  | loadAnswer
  /-- CLEAR_ANSWER (R83). -/
  | clearAnswer
  /-- READ_ANSWER (R88). -/
  | readAnswer
  /-- SLEEP (R37). -/
  | sleep
  /-- READY (R42). -/
  | ready
  /-- HEARTBEAT (R56). -/
  | heartbeat
  /-- SET_WAKE (R59). -/
  | setWake
  /-- READ_WAKE (R60). -/
  | readWake
  /-- SET_CLOCK (R54). -/
  | setClock
  /-- SET_ALARMS (R55). -/
  | setAlarms
  /-- SET_TIMING (R58). -/
  | setTiming
  /-- READ_HOLD (R77). -/
  | readHold
  /-- CLEAR_HOLD (R76). -/
  | clearHold
  /-- SPIN_UP (R107). -/
  | spinUp
  /-- SPIN_DOWN (R108). -/
  | spinDown
  /-- SET_BAYS (R109). -/
  | setBays
  /-- READ_BAYS (R110). -/
  | readBays
  /-- SET_PROFILE (R134). -/
  | setProfile
  /-- READ_SESSION (R135). -/
  | readSession
  /-- HALT_SESSION (R132). -/
  | haltSession
  /-- SET_SHARE (R163). -/
  | setShare
  /-- SET_NOTICES (R180). -/
  | setNotices
  /-- READ_NOTICES (R181). -/
  | readNotices
  /-- PROGRAM_RETAINED (R183). -/
  | programRetained
  /-- READ_RETAINED (R184). -/
  | readRetained
  deriving DecidableEq, Repr

end Sys2Proof
end

