-- ==== Sys2Proof/Config.lean ====
section
/-! DEFINITION. What the spec leaves to each part: the free choices, constants without a body, so that nothing in
Lean can prove a value of one. -/

namespace Sys2Proof

/-- The free choices of the machine, one for each value of the counter `State.choices`: true and false stand for the
two orders of two effects of one event that the spec leaves without an order although the outcome depends on it. They are
used where one frame raises both the LAN and the SIGNATURE wake source in SLEEP (R12, R39a), where READY finds a STALE
head and a notice to build (R44), where a drive's insertion or removal both starts a wake and acts on a needed bay (R93,
R94), and for what the H-port's coming UP starts in RUN (R70, R126, R178): assumption log 4. -/
opaque Config.freeChoice : Nat → Bool

end Sys2Proof
end

