-- ==== Sys2Proof/Machine/State.lean ====
section
/-! DEFINITION. The state of the Zadrit 2404, block by block (Table 0.1), with its reset value. -/

namespace Sys2Proof.Machine

/-! ## Frame keys and the flow table (chapter 1) -/

/-- dst kind of a frame key (Table 1.1). -/
inductive DstKind where
  | box
  | broadcast
  | multicast
  | other
  deriving DecidableEq, Repr

/-- The frame key (Table 1.1). An absent field is `none`. -/
structure FrameKey where
  dstKind : DstKind
  src : MacAddr
  vlan : Option (BitVec 12)
  ethertype : Word16
  ipProto : Option Byte
  dstPort : Option Word16
  syn : Option Bool
  pacingType : Option Byte
  wakeSig : Bool
  length : Nat
  deriving DecidableEq, Repr

/-- The class of a flow entry with the index it holds: a profile index for BACKUP, an answer index for PROXY (R5). -/
inductive Action where
  | pass
  | share
  | backup (profile : Fin 4)
  | proxy (answer : Fin 16)
  | drop
  deriving DecidableEq, Repr

/-- A dst port range lo to hi (R5). -/
structure PortRange where
  lo : Word16
  hi : Word16
  deriving DecidableEq, Repr

/-- A flow entry (R5, Table 1.2). A condition of ANY is `none`. -/
structure FlowEntry where
  valid : Bool
  dstKind : Option DstKind
  src : Option MacAddr
  vlan : Option (BitVec 12)
  ethertype : Option Word16
  ipProto : Option Byte
  dstPort : Option PortRange
  syn : Option Bool
  pacingType : Option Byte
  wakeSig : Option Bool
  action : Action
  wake : Bool
  bays : BaySet
  hits : Word16
  deriving DecidableEq, Repr

/-- The flow entry of R20: invalid, all conditions ANY, class PASS, wake NO, empty bay set, hit count 0. -/
def FlowEntry.blank : FlowEntry :=
  { valid := false, dstKind := none, src := none, vlan := none, ethertype := none, ipProto := none, dstPort := none,
    syn := none, pacingType := none, wakeSig := none, action := .pass, wake := false, bays := 0, hits := 0 }

/-- The two banks of the flow table. -/
inductive Bank where
  | a
  | b
  deriving DecidableEq, Repr

/-- The shadow state (R16). -/
inductive ShadowState where
  | loading
  | primed
  deriving DecidableEq, Repr

/-- The window mode (R13). -/
inductive WindowMode where
  | stop
  | wrap
  deriving DecidableEq, Repr

/-- The loader record (R13): window, mode and load pointer (0 to 64). -/
structure Loader where
  first : Fin 64
  last : Fin 64
  mode : WindowMode
  pointer : Nat
  deriving DecidableEq, Repr

/-- The default class (R6, R19). -/
inductive DefaultClass where
  | pass
  | drop
  deriving DecidableEq, Repr

/-- The frame in hand of the classifier with its arrival time (R1). -/
structure FrameInHand where
  frame : List Byte
  key : FrameKey
  arrival : Word32
  deriving DecidableEq, Repr

/-- The classifier (R1, R13, R16, R19, R20). -/
structure Classifier where
  bankA : Vector FlowEntry 64
  bankB : Vector FlowEntry 64
  active : Bank
  shadow : ShadowState
  loader : Loader
  defaultClass : DefaultClass
  defaultCount : Word16
  inHand : Option FrameInHand
  deriving DecidableEq, Repr

/-! ## The cell store (chapter 2) -/

/-- Where the partition applied at the last reset came from (R21). -/
inductive PartitionSource where
  | retained
  | factory
  deriving DecidableEq, Repr

/-- The partition record (R21), in cells. -/
structure Partition where
  answer : Nat
  hold : Nat
  stage : Nat
  source : PartitionSource
  deriving DecidableEq, Repr

/-- The HOLD ring (R28): relative cell indices and the used count. -/
structure Ring where
  head : Nat
  tail : Nat
  used : Nat
  deriving DecidableEq, Repr

/-- The bytes of the cells: address 256 × cell + offset, strictly rising, no byte 00h listed. -/
abbrev Memory := List Host.Cell

/-- The cell store (R21, R28). `atReset` is the partition applied at the last reset, which R24 compares with. -/
structure CellStore where
  mem : Memory
  part : Partition
  atReset : Partition
  ring : Ring
  deriving DecidableEq, Repr

/-! ## Box power states and waking (chapter 3) -/

/-- The WAKING substates (R35). -/
inductive Substate where
  | railSettle
  | hostBoot
  | retryOff
  deriving DecidableEq, Repr

/-- The box state, with the substate in WAKING (R35). -/
inductive BoxState where
  | run
  | sleepEntry
  | sleep
  | waking (sub : Substate)
  deriving DecidableEq, Repr

/-- The five wake sources (R48), in the order of R188. -/
inductive WakeName where
  | lan
  | signature
  | button
  | alarm
  | bay
  deriving DecidableEq, Repr

/-- A cause set (R39): a subset of the five sources, or {HOST_LOST}, or {POWER_ON}. -/
inductive CauseSet where
  | sources (lan signature button alarm bay : Bool)
  | hostLost
  | powerOn
  deriving DecidableEq, Repr

/-- The wake record (R39). -/
structure WakeRecord where
  causes : CauseSet
  attempts : Nat
  fault : Bool
  demanded : BaySet
  deriving DecidableEq, Repr

/-- The arm mode of a wake source (R48). -/
inductive ArmMode where
  | oneShot
  | continuous
  deriving DecidableEq, Repr

/-- A wake source (R48). `bays` is the LAN source's accumulated set, the other sources' configured set. -/
structure WakeSource where
  enable : Bool
  pending : Bool
  arm : ArmMode
  bays : BaySet
  deriving DecidableEq, Repr

/-- Insertion or removal: the edge select of the BAY source (R51) and a detail of BAY_CHANGE (R93, R94). -/
inductive PresenceEdge where
  | insert
  | remove
  deriving DecidableEq, Repr

/-- The minute-of-week clock (R52). `due` is the model's own: the tick that ends the minute has come, and its event
MINUTE_ENTERED has not yet been taken (assumption log 15). -/
structure Clock where
  minute : Nat
  count : Nat
  set : Bool
  due : Bool
  deriving DecidableEq, Repr

/-- One alarm entry (R53). -/
structure Alarm where
  on : Bool
  minute : Nat
  deriving DecidableEq, Repr

/-- The four timing settings (R58): stabilization in ms, the others in seconds. -/
structure Timing where
  stabilization : Nat
  boot : Nat
  heartbeat : Nat
  entry : Nat
  deriving DecidableEq, Repr

/-- The power controller (R35). A timer is `none` when stopped, else the milliseconds left; `pwrEn` and `rst` are the
lines HOST_PWR_EN and HOST_RST, true for asserted. `held` is present while a reset is held, with the milliseconds for
which PANEL_RST stays asserted (R185, R186). -/
structure Power where
  box : BoxState
  attempts : Nat
  latch : Bool
  record : WakeRecord
  entryTimer : Option Nat
  stabTimer : Option Nat
  bootTimer : Option Nat
  retryTimer : Option Nat
  heartbeatTimer : Option Nat
  pwrEn : Bool
  rst : Bool
  timing : Timing
  lan : WakeSource
  signature : WakeSource
  button : WakeSource
  alarm : WakeSource
  bay : WakeSource
  buttonEdge : ButtonEdge
  bayEdge : PresenceEdge
  clock : Clock
  alarms : Vector Alarm 8
  held : Option Nat
  deriving DecidableEq, Repr

/-! ## The hold queue (chapter 4) -/

/-- The class of a held frame (Table 4.1). -/
inductive HeldClass where
  | pass
  | share
  | backup
  | proxy
  deriving DecidableEq, Repr

/-- A held-frame record (Table 4.1); `entry` is `none` for NONE. -/
structure HeldRecord where
  firstCell : Nat
  cells : Nat
  length : Nat
  cls : HeldClass
  entry : Option (Fin 64)
  arrival : Word32
  stale : Bool
  deriving DecidableEq, Repr

/-- The hold queue (R61). `sending` says that the head record holds the release position. -/
structure HoldQueue where
  records : List HeldRecord
  overflow : Bool
  drops : Word16
  stales : Word16
  limit : Nat
  sending : Bool
  deriving DecidableEq, Repr

/-! ## Presence answers (chapter 5) -/

/-- A check of an answer record (Table 5.1). -/
structure Check where
  offset : Nat
  expected : List Byte
  deriving DecidableEq, Repr

/-- A substitution of an answer record (Table 5.1). -/
structure Subst where
  offset : Nat
  count : Nat
  target : Nat
  deriving DecidableEq, Repr

/-- An answer record (Table 5.1). -/
structure AnswerRecord where
  valid : Bool
  offset : Nat
  length : Nat
  checks : List Check
  substs : List Subst
  holdoff : Nat
  timer : Option Nat
  last : Option Word32
  answered : Word16
  suppressed : Word16
  declined : Word16
  deriving DecidableEq, Repr

/-- The answer record after a reset (Table 5.1, third column). -/
def AnswerRecord.blank : AnswerRecord :=
  { valid := false, offset := 0, length := 0, checks := [], substs := [], holdoff := 0, timer := none, last := none,
    answered := 0, suppressed := 0, declined := 0 }

/-- A question handed over by the classifier (R11): the answer index, the frame data and the frame's length. -/
structure Question where
  index : Fin 16
  data : List Byte
  length : Nat
  deriving DecidableEq, Repr

/-- A built answer (R86). -/
structure BuiltAnswer where
  record : Fin 16
  data : List Byte
  deriving DecidableEq, Repr

/-- The answer unit (R78). -/
structure AnswerUnit where
  records : Vector AnswerRecord 16
  questions : List Question
  answers : List BuiltAnswer
  sending : Option BuiltAnswer
  invalid : Word16
  deriving DecidableEq, Repr

/-! ## Drive bays (chapter 6) -/

/-- The bay states, in the order of Table 6.1. -/
inductive BayState where
  | absent
  | off
  | queued
  | spinning
  | ready
  deriving DecidableEq, Repr

/-- The activity edge setting of a bay (Table 6.1). -/
inductive ActivityEdge where
  | rising
  | falling
  | both
  deriving DecidableEq, Repr

/-- The settings of one bay (R91): the spin interval in seconds, the idle interval in minutes with 0 for NEVER. -/
structure BaySettings where
  cost : Nat
  spin : Nat
  idle : Nat
  edge : ActivityEdge
  deriving DecidableEq, Repr

/-- A bay record (Table 6.1) with its lines: `pwr` is BAY_PWRn, `present` and `active` the levels of BAY_PRESn and
BAY_ACTn as last taken. -/
structure BayRecord where
  state : BayState
  settings : BaySettings
  spinTimer : Option Nat
  idleTimer : Option Nat
  needed : Nat
  pwr : Bool
  present : Bool
  active : Bool
  deriving DecidableEq, Repr

/-- The bay controller (R90): the records, the spin-up queue head first, the spin budget. -/
structure BayControl where
  bays : Vector BayRecord 4
  queue : List Bay
  budget : Nat
  deriving DecidableEq, Repr

/-! ## Backup sessions and the grant profile (chapters 7 and 8) -/

/-- The eight messages of Table 7.1. -/
inductive MsgKind where
  | offer
  | accept
  | decline
  | grant
  | block
  | tally
  | halt
  | withdraw
  deriving DecidableEq, Repr

/-- The reasons of a DECLINE (Table 7.1). -/
inductive DeclineReason where
  | noSlot
  | noStage
  | peerBusy
  | wakeFault
  | badOffer
  deriving DecidableEq, Repr

/-- The causes of a HALT (Table 7.5). -/
inductive HaltCause where
  | hostHalt
  | withdrawn
  | senderSilent
  | stalled
  | bayLost
  | wakeFault
  | seqExhausted
  | linkDown
  deriving DecidableEq, Repr

/-- A message of the pacing-message queue (R112): to whom, its kind and the fields of its header. -/
structure PacingMsg where
  peer : MacAddr
  kind : MsgKind
  tag : Word16
  seq : Word32
  value : Word32
  deriving DecidableEq, Repr

/-- A pacing frame handed over by the classifier and not yet taken (R10, R111). `payload` is the frame data that
follow the ethertype. -/
structure Handover where
  peer : MacAddr
  ptype : Option Byte
  payload : List Byte
  length : Nat
  profile : Fin 4
  bays : BaySet
  deriving DecidableEq, Repr

/-- The taper mode of a profile (Table 7.3). -/
inductive TaperMode where
  | auto
  | manual
  deriving DecidableEq, Repr

/-- The parameters of a profile (Table 7.3), in the order of the table. -/
structure Profile where
  floor : Nat
  peak : Nat
  rise : Nat
  fall : Nat
  margin : Nat
  taper : TaperMode
  revision : Bool
  manualPoint : Nat
  ceiling : Nat
  window : Nat
  deadline : Nat
  expiryLimit : Nat
  stallLimit : Nat
  followOn : Bool
  deriving DecidableEq, Repr

/-- The default profile (Table 7.3). -/
def Profile.default : Profile :=
  { floor := 500, peak := 8000, rise := 250, fall := 500, margin := 4, taper := .auto, revision := true,
    manualPoint := 0, ceiling := 2000, window := 8, deadline := 250, expiryLimit := 4, stallLimit := 120,
    followOn := true }

/-- The phases of the grant profile (Figure 8.1). -/
inductive Phase where
  | floor
  | rise
  | cruise
  | yield
  | taper
  | tail
  deriving DecidableEq, Repr

/-- A grant record of an outstanding list (Table 7.2). -/
structure Grant where
  seq : Nat
  stage : Nat
  deadline : Word32
  deriving DecidableEq, Repr

/-- A follow-on offer (R117). -/
structure FollowOn where
  tag : Word16
  nb : Nat
  profile : Fin 4
  bays : BaySet
  deriving DecidableEq, Repr

/-- A session that is RUNNING or DRAINING (Table 7.2, R137). `todo` is T; `stallAcc` is the time accumulated on the
stall timer, in ms: whether that timer runs follows from R122. -/
structure Session where
  draining : Bool
  peer : MacAddr
  tag : Word16
  nb : Nat
  received : Nat
  outstanding : List Grant
  nextSeq : Nat
  todo : Nat
  undelivered : Nat
  expiries : Nat
  strays : Byte
  stallAcc : Nat
  profile : Profile
  phase : Phase
  rate : Nat
  peak : Nat
  taperPoint : Nat
  nextDue : Word64
  bays : BaySet
  followOn : Option FollowOn
  deriving DecidableEq, Repr

/-- A session slot (R113): IDLE when it holds no session. -/
structure SessionSlot where
  session : Option Session
  leftBehind : Nat
  deriving DecidableEq, Repr

/-- The session slot, session tag and grant sequence a stage slot was reserved for (Table 2.2). -/
structure StageOwner where
  slot : Slot
  tag : Word16
  seq : Nat
  deriving DecidableEq, Repr

/-- A stage slot record (Table 2.2). -/
inductive StageSlot where
  | free
  | reserved (owner : StageOwner)
  | filled (owner : StageOwner) (length : Nat)
  | sending (owner : StageOwner) (length : Nat)
  deriving DecidableEq, Repr

/-- The pacing engine (R34, R111 to R114, R148). `incoming` holds the pacing frames handed over and not yet taken,
oldest first; `delivery` is the delivery position. -/
structure Pacing where
  slots : Vector SessionSlot 4
  profiles : Vector Profile 4
  stage : List StageSlot
  fifo : List Nat
  delivery : Option Nat
  incoming : List Handover
  queue : List PacingMsg
  replyLost : Word16
  protocolErrors : Word16
  blocksTaken : Word32
  readySet : BaySet
  deriving DecidableEq, Repr

/-! ## Sharing (chapter 9) -/

/-- The share monitor (R154): the flag, the timer in ms and the window in seconds. -/
structure Share where
  active : Bool
  timer : Option Nat
  window : Nat
  deriving DecidableEq, Repr

/-! ## Host link, LAN egress and management (chapter 10) -/

/-- A frame of the L path (Table 10.1): its frame data, and whether it is the released held frame. -/
structure LPathFrame where
  released : Bool
  data : List Byte
  deriving DecidableEq, Repr

/-- The frame being sent on the host link, by its source (R167), with its bytes through the frame check sequence. -/
inductive HostSending where
  | response (wire : List Byte)
  | direct (wire : List Byte)
  | held (wire : List Byte)
  | deliver (wire : List Byte)
  deriving DecidableEq, Repr

/-- The host link unit (R164 to R167): H-port state, host address, response queue, L path, frame being sent, request
queue. The delivery queue is the delivery position of the pacing engine. Queued frames are frame data. -/
structure HostLink where
  up : Bool
  hostAddr : MacAddr
  responses : List (List Byte)
  lpath : List LPathFrame
  sending : Option HostSending
  requests : List (List Byte)
  deriving DecidableEq, Repr

/-- The frame being sent on the LAN, by its source (R171), with its bytes through the frame check sequence. -/
inductive LanSending where
  | pacing (wire : List Byte)
  | answer (wire : List Byte)
  | host (wire : List Byte)
  deriving DecidableEq, Repr

/-- The LAN port unit (R170, R171): link state, host-frame queue (frame data), frame being sent. -/
structure LanPort where
  up : Bool
  hostFrames : List (List Byte)
  sending : Option LanSending
  deriving DecidableEq, Repr

/-- The deferred response of an accepted PROGRAM_RETAINED (R176): who asked, with which tag, what is answered. -/
structure DeferredResponse where
  dst : MacAddr
  tag : Word16
  index : Fin 8
  count : Nat
  deriving DecidableEq, Repr

/-- The management unit (R172, R176): the request in hand and the completed programmings whose responses wait for a
place in the response queue. -/
structure Management where
  inHand : Option (List Byte)
  deferred : List DeferredResponse
  deriving DecidableEq, Repr

/-! ## Notices and the retained store (chapter 11) -/

/-- The nine notice kinds, in the order of Table 11.1. -/
inductive NoticeKind where
  | button
  | alarm
  | bayChange
  | sessionEnd
  | holdOverflow
  | staleDropped
  | entryForced
  | hostRecovered
  | linkChange
  deriving DecidableEq, Repr

/-- Which limit a held frame met (R64). -/
inductive HoldLimit where
  | records
  | cells
  deriving DecidableEq, Repr

/-- Which link changed (Table 11.1). -/
inductive LinkName where
  | lan
  | host
  deriving DecidableEq, Repr

/-- The detail kept with a notice kind (Table 11.1). The detail of SESSION_END is the outcome list itself. -/
inductive Detail where
  | button (edge : ButtonEdge)
  | alarm (index : Fin 8) (minute : Nat)
  | bayChange (bay : Bay) (edge : PresenceEdge) (state : BayState)
  | sessionEnd
  | holdOverflow (limit : HoldLimit) (cls : HeldClass) (entry : Option (Fin 64)) (length records used : Nat)
  | staleDropped (cls : HeldClass) (entry : Option (Fin 64)) (age : Nat)
  | entryForced (seconds : Nat)
  | hostRecovered (attempts : Nat)
  | linkChange (link : LinkName) (up : Bool)
  deriving DecidableEq, Repr

/-- The state of one notice kind (R177). -/
structure NoticeState where
  pending : Bool
  enable : Bool
  count : Byte
  detail : Option Detail
  deriving DecidableEq, Repr

/-- The outcome of a session (R179). -/
inductive SessionOutcome where
  | done
  | halted (cause : HaltCause)
  deriving DecidableEq, Repr

/-- The notice unit (R177, R179): the nine kinds, the session outcome list oldest first, the lost count. -/
structure Notices where
  kinds : Vector NoticeState 9
  outcomes : List (Word16 × SessionOutcome)
  lost : Word16
  deriving DecidableEq, Repr

/-- A programming in flight (R183) with the request it answers. -/
structure Programming where
  index : Fin 8
  contents : List Byte
  dst : MacAddr
  tag : Word16
  deriving DecidableEq, Repr

/-- The retained store (R182, R183). `copies` holds each record's programmed copies, oldest first, in their carried
form: the program count is their number. `loaded` is the contents each record gave at the last reset, and `factory`
the factory address. -/
structure Retained where
  copies : Vector (List (List Byte)) 8
  inFlight : Option Programming
  loaded : Vector (List Byte) 8
  factory : MacAddr
  deriving DecidableEq, Repr

/-- The addresses and EtherTypes of retained records 0 to 2 in force since the last reset (R182). -/
structure InForce where
  boxAddr : MacAddr
  linkAddr : MacAddr
  mgmtType : Word16
  pacingType : Word16
  deriving DecidableEq, Repr

/-- The two timebases: the millisecond counter and the grant clock (R153). -/
structure Timebases where
  ms : Word32
  us : Word64
  deriving DecidableEq, Repr

/-! ## The whole state -/

/-- The state of the part. `choices` (how many free choices have been made) and `pending` (the commands waiting, first
in, first out) are the model's own. -/
structure State where
  time : Timebases
  lan : LanPort
  cls : Classifier
  cells : CellStore
  pow : Power
  hold : HoldQueue
  ans : AnswerUnit
  bay : BayControl
  pac : Pacing
  share : Share
  host : HostLink
  mgmt : Management
  note : Notices
  ret : Retained
  cfg : InForce
  choices : Nat
  pending : List Instr
  deriving DecidableEq, Repr

/-- The reasons for which the part stops. There are none: no rule of the spec stops the part, and every command ends
in a next state. -/
inductive Fault where
  deriving DecidableEq, Repr

/-- The reasons for which a command has no meaning. -/
inductive Refusal where
  /-- Raised by an arm of `exec` whose command has no meaning yet. Safe: nothing can be proved of it. -/
  | notModelled (mnemonic : String)
  deriving DecidableEq, Repr

/-! ## Reset -/

/-- The factory settings of a bay (Table 6.2). -/
def BaySettings.factory : BaySettings := { cost := 1, spin := 8, idle := 20, edge := .rising }

/-- The partition of the factory default (R26). -/
def Partition.factory : Partition := { answer := 64, hold := 2048, stage := 1984, source := .factory }

/-- A wake source with factory settings (Table 3.2). -/
def WakeSource.factory (enable : Bool) : WakeSource :=
  { enable := enable, pending := false, arm := .continuous, bays := 0 }

/-- The factory contents of the eight retained records in carried form (Table 11.2, R188), for a factory address of 0
(assumption log 5). The fields of record 5 to which Table 3.2 gives no value, LAN's bay set and the edge selects of LAN,
SIGNATURE and ALARM, are carried as 00h (assumption log 3). -/
def factoryContents : Vector (List Byte) 8 :=
  #v[[0, 0, 0, 0, 0, 0],
     [0, 0, 0, 0, 0, 1],
     [0x88, 0xB6, 0x88, 0xB5],
     [0, 64, 0x07, 0xC0],
     [0],
     [1, 1, 0, 0, 1, 1, 0, 0, 1, 1, 0, 0, 1, 1, 0, 0, 0, 1, 0, 0],
     [32, 30, 0, 10, 10, 5],
     [1, 8, 20, 0, 1, 8, 20, 0, 1, 8, 20, 0, 1, 8, 20, 0, 2]]

/-- The part right after power-on, the reset no longer held, with an unprogrammed retained store, no drive present and
every activity line withdrawn (R185; assumption logs 5 and 6): WAKING in RAIL_SETTLE with cause set {POWER_ON}. -/
def State.reset : State where
  time := { ms := 0, us := 0 }
  lan := { up := false, hostFrames := [], sending := none }
  cls :=
    { bankA := Vector.replicate 64 .blank, bankB := Vector.replicate 64 .blank, active := .a, shadow := .loading,
      loader := { first := 0, last := 63, mode := .stop, pointer := 0 }, defaultClass := .pass, defaultCount := 0,
      inHand := none }
  cells :=
    { mem := [], part := .factory, atReset := .factory, ring := { head := 0, tail := 0, used := 0 } }
  pow :=
    { box := .waking .railSettle, attempts := 1, latch := false,
      record := { causes := .powerOn, attempts := 1, fault := false, demanded := 0 },
      entryTimer := none, stabTimer := some 32, bootTimer := none, retryTimer := none, heartbeatTimer := none,
      pwrEn := true, rst := true,
      timing := { stabilization := 32, boot := 30, heartbeat := 0, entry := 10 },
      lan := .factory true, signature := .factory true, button := .factory true, alarm := .factory true,
      bay := .factory false, buttonEdge := .press, bayEdge := .insert,
      clock := { minute := 0, count := 0, set := false, due := false },
      alarms := Vector.replicate 8 { on := false, minute := 0 },
      held := none }
  hold := { records := [], overflow := false, drops := 0, stales := 0, limit := 10, sending := false }
  ans :=
    { records := Vector.replicate 16 .blank, questions := [], answers := [], sending := none, invalid := 0 }
  bay :=
    { bays := Vector.replicate 4
        { state := .absent, settings := .factory, spinTimer := none, idleTimer := none, needed := 0, pwr := false,
          present := false, active := false },
      queue := [], budget := 2 }
  pac :=
    { slots := Vector.replicate 4 { session := none, leftBehind := 0 },
      profiles := Vector.replicate 4 .default, stage := List.replicate 62 .free, fifo := [], delivery := none,
      incoming := [], queue := [], replyLost := 0, protocolErrors := 0, blocksTaken := 0, readySet := 0 }
  share := { active := false, timer := none, window := 5 }
  host :=
    { up := false, hostAddr := 0xFFFFFFFFFFFF, responses := [], lpath := [], sending := none, requests := [] }
  mgmt := { inHand := none, deferred := [] }
  note :=
    { kinds := Vector.replicate 9 { pending := false, enable := true, count := 0, detail := none },
      outcomes := [], lost := 0 }
  ret :=
    { copies := Vector.replicate 8 [], inFlight := none, loaded := factoryContents, factory := 0 }
  cfg := { boxAddr := 0, linkAddr := 1, mgmtType := 0x88B6, pacingType := 0x88B5 }
  choices := 0
  pending := []

end Sys2Proof.Machine
end

