-- ==== Sys2Proof/Machine/Bytes.lean ====
section
/-! DEFINITION. Bytes, carried fields, the frame check sequence, and the small operations over vectors and counters
that every block uses. -/

namespace Sys2Proof.Machine

/-! ## Counters and tables -/

/-- A saturating counter of `w` bits raised by `n`: it stops at its maximum (00_scope.md, "Counters"). -/
def satAdd {w : Nat} (c : BitVec w) (n : Nat) : BitVec w :=
  BitVec.ofNat w (min (c.toNat + n) (2 ^ w - 1))

/-- The element at `i` changed by `f`. -/
def vecMod {α : Type} {n : Nat} (v : Vector α n) (i : Fin n) (f : α → α) : Vector α n :=
  v.set i (f v[i])

/-- Every element changed by `f`. -/
def vecMap {α β : Type} {n : Nat} (f : α → β) (v : Vector α n) : Vector β n :=
  Vector.ofFn fun i => f v[i]

/-- The number `n` brought to the nearest value of lo to hi (R175). -/
def clamp (lo hi n : Nat) : Nat :=
  max lo (min hi n)

/-- The number of 256-byte cells that `n` bytes need (R29). -/
def cellsFor (n : Nat) : Nat :=
  (n + 255) / 256

/-! ## Free choices -/

/-- Two effects of one event that the spec leaves without an order, in the order of a free choice (assumption
log 4). -/
def inEitherOrder (f g : State → State) (s : State) : State :=
  let t : State := { s with choices := s.choices + 1 }
  if Config.freeChoice s.choices then g (f t) else f (g t)

/-! ## Bay sets -/

/-- The four bays in ascending order. -/
def allBays : List Bay := [0, 1, 2, 3]

/-- The four session slots in ascending order. -/
def allSlots : List Slot := [0, 1, 2, 3]

/-- Whether a bay set contains a bay. -/
def hasBay (set : BaySet) (bay : Bay) : Bool :=
  set.getLsbD bay.val

/-- The bay set of one bay. -/
def oneBay (bay : Bay) : BaySet :=
  BitVec.ofNat 4 (2 ^ bay.val)

/-- The bay set of the bays for which `p` holds. -/
def baysWhere (p : Bay → Bool) : BaySet :=
  allBays.foldl (fun set bay => if p bay then set ||| oneBay bay else set) 0

/-! ## Carried fields -/

/-- A number carried in `width` bytes, most significant byte first (00_scope.md, "Numbers"; R188). -/
def num : Nat → Nat → List Byte
  | 0, _ => []
  | width + 1, n => BitVec.ofNat 8 (n / 256 ^ width) :: num width n

/-- The number that bytes carry, most significant byte first. -/
def beNat (bytes : List Byte) : Nat :=
  bytes.foldl (fun n b => n * 256 + b.toNat) 0

/-- The `n` bytes at an offset. -/
def slice (bytes : List Byte) (offset n : Nat) : List Byte :=
  (bytes.drop offset).take n

/-- The byte at an offset. -/
def byteAt (bytes : List Byte) (offset : Nat) : Byte :=
  bytes.getD offset 0

/-- The number carried in the `n` bytes at an offset. -/
def natAt (bytes : List Byte) (offset n : Nat) : Nat :=
  beNat (slice bytes offset n)

/-- A value of two choices in its carried form: 01h for on, yes, set, true (R188). -/
def flag (b : Bool) : List Byte :=
  [if b then 1 else 0]

/-- A field that can be absent: 01h and the field, or 00h and zero bytes of its width (R188). -/
def optField (width : Nat) : Option (List Byte) → List Byte
  | none => 0 :: List.replicate width 0
  | some bytes => 1 :: bytes

/-- The time left on a timer that may be stopped: 4 bytes in milliseconds (R188). -/
def timeLeft (timer : Option Nat) : List Byte :=
  optField 4 (timer.map (num 4))

/-- A bay set in its carried form (R188). -/
def baySetByte (set : BaySet) : List Byte :=
  num 1 set.toNat

/-! ## Frames -/

/-- The remainder after one bit of the Ethernet cyclic redundancy check, least significant bit first: EDB88320h is the
generator 04C11DB7h of R1 with its bits reversed (assumption log 7). -/
def crcBit (c : Word32) : Word32 :=
  if c.getLsbD 0 then (c >>> 1) ^^^ 0xEDB88320 else c >>> 1

/-- The remainder after one byte. -/
def crcByte (c : Word32) (b : Byte) : Word32 :=
  crcBit (crcBit (crcBit (crcBit (crcBit (crcBit (crcBit (crcBit (c ^^^ b.setWidth 32))))))))

/-- The 32-bit cyclic redundancy check of Ethernet over the frame data (R1). -/
def crc32 (data : List Byte) : Word32 :=
  ~~~ data.foldl crcByte 0xFFFFFFFF

/-- The frame check sequence as its four bytes are sent (assumption log 7). -/
def fcs (data : List Byte) : List Byte :=
  (num 4 (crc32 data).toNat).reverse

/-- A frame as it is sent: the frame data and a fresh frame check sequence (R31, R165, R171). -/
def withFcs (data : List Byte) : List Byte :=
  data ++ fcs data

/-- The frame data of a received frame: the bytes before the frame check sequence (R1). -/
def frameData (frame : List Byte) : List Byte :=
  frame.take (frame.length - 4)

/-- Whether a received frame is not discarded: 64 to 9,216 bytes and a right frame check sequence (R1, R166). -/
def frameGood (frame : List Byte) : Bool :=
  decide (64 ≤ frame.length) && decide (frame.length ≤ 9216) &&
    decide (frame.drop (frame.length - 4) = fcs (frameData frame))

/-- Frame data brought to 60 bytes with zero bytes (R189). -/
def pad60 (data : List Byte) : List Byte :=
  data ++ List.replicate (60 - data.length) 0

/-- The frame data of a frame the part builds: the Ethernet header and what follows it (chapter 12, R189). -/
def etherFrame (dst src : MacAddr) (ethertype : Word16) (payload : List Byte) : List Byte :=
  pad60 (num 6 dst.toNat ++ num 6 src.toNat ++ num 2 ethertype.toNat ++ payload)

/-- The ethertype of frame data received from the host: the two bytes after the source address (R166). -/
def etherTypeOf (data : List Byte) : Word16 :=
  BitVec.ofNat 16 (natAt data 12 2)

end Sys2Proof.Machine
end

