-- ==== Sys2Proof/Machine/Memory.lean ====
section
/-! DEFINITION. The bytes of the cell store as a list in canonical form (R21), and the addresses of its regions. -/

namespace Sys2Proof.Machine

/-- The number of bytes of the cell store: 4096 cells of 256 bytes (R21). -/
def storeBytes : Nat := 4096 * 256

/-- The byte at an address. A byte that nothing has written reads as 00h (assumption log 8). -/
def Memory.read (m : Memory) (address : Nat) : Byte :=
  match m.find? (fun c => c.1 == address) with
  | some c => c.2
  | none => 0

/-- The `n` bytes from an address on. -/
def Memory.readRun (m : Memory) (address : Nat) : Nat → List Byte
  | 0 => []
  | n + 1 => m.read address :: Memory.readRun m (address + 1) n

/-- The entries for bytes stored from an address on: a byte 00h, or one beyond the store, has no entry. -/
def entriesFor (address : Nat) : List Byte → Memory
  | [] => []
  | b :: bs =>
    if b = 0 ∨ storeBytes ≤ address then entriesFor (address + 1) bs
    else (address, b) :: entriesFor (address + 1) bs

/-- Bytes stored from an address on. -/
def Memory.writeRun (m : Memory) (address : Nat) (bytes : List Byte) : Memory :=
  m.filter (fun c => decide (c.1 < address)) ++ entriesFor address bytes ++
    m.filter (fun c => decide (address + bytes.length ≤ c.1))

/-- Entries at strictly rising addresses from `lowest` on, within the store, none of them 00h. -/
def Memory.risingFrom : Nat → Memory → Bool
  | _, [] => true
  | lowest, c :: cs =>
    decide (lowest ≤ c.1) && decide (c.1 < storeBytes) && decide (c.2 ≠ 0) && Memory.risingFrom (c.1 + 1) cs

/-- The canonical form of the cells' contents. -/
def Memory.wf (m : Memory) : Bool :=
  Memory.risingFrom 0 m

/-! ## Regions -/

/-- The address of relative cell `r` of the HOLD ring (section 2.3). -/
def holdAddress (p : Partition) (r : Nat) : Nat :=
  256 * (p.answer + r)

/-- The address of stage slot `k` (R32). -/
def stageAddress (p : Partition) (k : Nat) : Nat :=
  256 * (p.answer + p.hold + 32 * k)

/-- The bytes of a frame written from relative cell `t` of the ring on, wrapping after its last cell (R29). -/
def writeRing (m : Memory) (p : Partition) (t : Nat) (bytes : List Byte) : Memory :=
  let room := 256 * (p.hold - t)
  (m.writeRun (holdAddress p t) (bytes.take room)).writeRun (holdAddress p 0) (bytes.drop room)

/-- The `n` bytes read from relative cell `t` of the ring on, wrapping after its last cell (R31). -/
def readRing (m : Memory) (p : Partition) (t n : Nat) : List Byte :=
  let room := 256 * (p.hold - t)
  m.readRun (holdAddress p t) (min n room) ++ m.readRun (holdAddress p 0) (n - room)

end Sys2Proof.Machine
end

