-- ==== Sys2Proof/Machine/Flags.lean ====
section
/-! DEFINITION. The flags and counts the spec derives from other state: which bank is the shadow, the exhausted window,
RELEASING, the free budget, the counts of stage slots, the conditions of a grant. -/

namespace Sys2Proof.Machine

/-! ## Classifier -/

/-- The other bank: the shadow, when `b` is the active bank. -/
def Bank.other : Bank → Bank
  | .a => .b
  | .b => .a

/-- The entries of a bank. -/
def Classifier.bank (c : Classifier) : Bank → Vector FlowEntry 64
  | .a => c.bankA
  | .b => c.bankB

/-- The classifier with the entries of one bank replaced. -/
def Classifier.setBank (c : Classifier) (which : Bank) (entries : Vector FlowEntry 64) : Classifier :=
  match which with
  | .a => { c with bankA := entries }
  | .b => { c with bankB := entries }

/-- Whether the window is exhausted: the pointer has passed its end (R13). -/
def Loader.exhausted (l : Loader) : Bool :=
  decide (l.last.val < l.pointer)

/-! ## Hold queue and cell store -/

/-- RELEASING: in RUN, whether the list holds a record (R67). -/
def State.releasing (s : State) : Bool :=
  decide (s.pow.box = .run) && !s.hold.records.isEmpty

/-- The free count of the HOLD ring (R28). -/
def CellStore.free (c : CellStore) : Nat :=
  c.part.hold - c.ring.used

/-- The number of stage slots of a partition (R21). -/
def Partition.slots (p : Partition) : Nat :=
  p.stage / 32

/-- Whether sizes pass the checks of R22. -/
def partitionAllowed (answer stage : Nat) : Bool :=
  decide (16 ≤ answer) && decide (answer ≤ 256) && decide (stage % 32 = 0) && decide (answer + stage ≤ 3840)

/-! ## Bays -/

/-- The sum of the costs of the bays that are SPINNING (R90). -/
def BayControl.spinningCost (b : BayControl) : Nat :=
  allBays.foldl (fun n i => if b.bays[i].state = .spinning then n + b.bays[i].settings.cost else n) 0

/-- The free budget (R90). -/
def BayControl.freeBudget (b : BayControl) : Nat :=
  b.budget - b.spinningCost

/-! ## Stage slots and sessions -/

/-- Whether a stage slot is FREE. -/
def StageSlot.isFree : StageSlot → Bool
  | .free => true
  | _ => false

/-- Whether a stage slot is RESERVED. -/
def StageSlot.isReserved : StageSlot → Bool
  | .reserved _ => true
  | _ => false

/-- Whether a stage slot is FILLED. -/
def StageSlot.isFilled : StageSlot → Bool
  | .filled _ _ => true
  | _ => false

/-- Whether a stage slot is SENDING. -/
def StageSlot.isSending : StageSlot → Bool
  | .sending _ _ => true
  | _ => false

/-- The number of stage slots FREE, RESERVED, FILLED and SENDING, one byte each (R25, R135). -/
def stageCounts (stage : List StageSlot) : List Byte :=
  num 1 (stage.countP StageSlot.isFree) ++ num 1 (stage.countP StageSlot.isReserved) ++
    num 1 (stage.countP StageSlot.isFilled) ++ num 1 (stage.countP StageSlot.isSending)

/-- The lowest-numbered FREE stage slot (R120). -/
def lowestFree (stage : List StageSlot) : Option Nat :=
  stage.findIdx? StageSlot.isFree

/-- The slot of a RUNNING or DRAINING session with a peer (R113). -/
def Pacing.slotOf (p : Pacing) (peer : MacAddr) : Option (Slot × Session) :=
  allSlots.findSome? fun i =>
    match p.slots[i].session with
    | some x => if x.peer = peer then some (i, x) else none
    | none => none

/-- The first five conditions of R119: a RUNNING session that meets them is ready. -/
def sessionReady (s : State) (x : Session) : Bool :=
  !x.draining && decide (x.nextDue.toNat ≤ s.time.us.toNat) && decide (0 < x.todo) &&
    decide (x.outstanding.length < x.profile.window) && decide (s.pac.queue.length < 24) &&
    decide (x.nextSeq ≤ 4294967295)

/-- Whether the stall timer of a session runs: the session is ready and no stage slot is FREE (R122). -/
def stallRuns (s : State) (x : Session) : Bool :=
  sessionReady s x && (lowestFree s.pac.stage).isNone

/-- Whether a session of R121 has run out of sequences: RUNNING, T above 0, a grant due, no sequence left. -/
def sequencesOut (s : State) (x : Session) : Bool :=
  !x.draining && decide (0 < x.todo) && decide (x.nextDue.toNat ≤ s.time.us.toNat) && decide (4294967295 < x.nextSeq)

end Sys2Proof.Machine
end

