-- ==== Sys2Proof/Machine/Codes.lean ====
section
/-! DEFINITION. The codes in which enumerated values are carried: the codes of chapter 12, and elsewhere the position
in the list that defines the value, counted from 0 (R188). -/

namespace Sys2Proof.Machine

/-! ## Flow table and partition -/

/-- dst kind (Table 12.4). -/
def DstKind.code : DstKind → Nat
  | .box => 0
  | .broadcast => 1
  | .multicast => 2
  | .other => 3

/-- dst kind of the low 2 bits of its byte (Table 12.4). -/
def dstKindOf (b : Byte) : DstKind :=
  match b.toNat % 4 with
  | 0 => .box
  | 1 => .broadcast
  | 2 => .multicast
  | _ => .other

/-- The class of a flow entry (Table 12.4). -/
def Action.code : Action → Nat
  | .pass => 0
  | .share => 1
  | .backup _ => 2
  | .proxy _ => 3
  | .drop => 4

/-- The default class, coded as in Table 12.4. -/
def DefaultClass.code : DefaultClass → Nat
  | .pass => 0
  | .drop => 4

/-- A bank: A 0, B 1 (Table 12.4, note 2). -/
def Bank.code : Bank → Nat
  | .a => 0
  | .b => 1

/-- The shadow state: LOADING 0, PRIMED 1 (R16). -/
def ShadowState.code : ShadowState → Nat
  | .loading => 0
  | .primed => 1

/-- The window mode: STOP 0, WRAP 1 (R13). -/
def WindowMode.code : WindowMode → Nat
  | .stop => 0
  | .wrap => 1

/-- The window mode a byte names (R13, R14). -/
def windowModeOf (b : Byte) : Option WindowMode :=
  match b.toNat with
  | 0 => some .stop
  | 1 => some .wrap
  | _ => none

/-- The partition source: RETAINED 0, FACTORY 1 (R21). -/
def PartitionSource.code : PartitionSource → Nat
  | .retained => 0
  | .factory => 1

/-! ## Power -/

/-- The box state: RUN, SLEEP_ENTRY, SLEEP, WAKING (R35). -/
def BoxState.code : BoxState → Nat
  | .run => 0
  | .sleepEntry => 1
  | .sleep => 2
  | .waking _ => 3

/-- The substate: RAIL_SETTLE, HOST_BOOT, RETRY_OFF (R35). -/
def Substate.code : Substate → Nat
  | .railSettle => 0
  | .hostBoot => 1
  | .retryOff => 2

/-- The arm mode: ONE_SHOT 0, CONTINUOUS 1 (R48). -/
def ArmMode.code : ArmMode → Nat
  | .oneShot => 0
  | .continuous => 1

/-- The arm mode a byte names (R59). -/
def armModeOf (b : Byte) : Option ArmMode :=
  match b.toNat with
  | 0 => some .oneShot
  | 1 => some .continuous
  | _ => none

/-- The button edge: PRESS 0, RELEASE 1 (R50). -/
def buttonEdgeCode : ButtonEdge → Nat
  | .press => 0
  | .release => 1

/-- The button edge a byte names (R59). -/
def buttonEdgeOf (b : Byte) : Option ButtonEdge :=
  match b.toNat with
  | 0 => some .press
  | 1 => some .release
  | _ => none

/-- The BAY source's edge: INSERT 0, REMOVE 1 (R51). -/
def PresenceEdge.code : PresenceEdge → Nat
  | .insert => 0
  | .remove => 1

/-- The BAY source's edge a byte names (R59). -/
def presenceEdgeOf (b : Byte) : Option PresenceEdge :=
  match b.toNat with
  | 0 => some .insert
  | 1 => some .remove
  | _ => none

/-- The wake source a byte names: LAN, SIGNATURE, BUTTON, ALARM, BAY (R59). -/
def wakeNameOf (b : Byte) : Option WakeName :=
  match b.toNat with
  | 0 => some .lan
  | 1 => some .signature
  | 2 => some .button
  | 3 => some .alarm
  | 4 => some .bay
  | _ => none

/-- The members of a cause set, by their positions in the list of R39: the five sources, HOST_LOST, POWER_ON. -/
def CauseSet.codes : CauseSet → List Nat
  | .sources lan signature button alarm bay =>
    (if lan then [0] else []) ++ (if signature then [1] else []) ++ (if button then [2] else []) ++
      (if alarm then [3] else []) ++ (if bay then [4] else [])
  | .hostLost => [5]
  | .powerOn => [6]

/-! ## Hold queue and bays -/

/-- The class of a held frame, coded as in Table 12.4. -/
def HeldClass.code : HeldClass → Nat
  | .pass => 0
  | .share => 1
  | .backup => 2
  | .proxy => 3

/-- An entry index, FFh for NONE (Table 12.3, note 1). -/
def entryCode : Option (Fin 64) → Nat
  | none => 255
  | some i => i.val

/-- A bay state, by its position in Table 6.1. -/
def BayState.code : BayState → Nat
  | .absent => 0
  | .off => 1
  | .queued => 2
  | .spinning => 3
  | .ready => 4

/-- The activity edge: RISING 0, FALLING 1, BOTH 2 (Table 6.1). -/
def ActivityEdge.code : ActivityEdge → Nat
  | .rising => 0
  | .falling => 1
  | .both => 2

/-- The activity edge a byte names (R109). -/
def activityEdgeOf (b : Byte) : Option ActivityEdge :=
  match b.toNat with
  | 0 => some .rising
  | 1 => some .falling
  | 2 => some .both
  | _ => none

/-! ## Pacing -/

/-- The message type (Table 12.1). -/
def MsgKind.code : MsgKind → Nat
  | .offer => 1
  | .accept => 2
  | .decline => 3
  | .grant => 4
  | .block => 5
  | .tally => 6
  | .halt => 7
  | .withdraw => 8

/-- The message a type byte names (Table 12.1). -/
def msgKindOf (b : Byte) : Option MsgKind :=
  match b.toNat with
  | 1 => some .offer
  | 2 => some .accept
  | 3 => some .decline
  | 4 => some .grant
  | 5 => some .block
  | 6 => some .tally
  | 7 => some .halt
  | 8 => some .withdraw
  | _ => none

/-- A DECLINE reason (Table 12.1, note 3). -/
def DeclineReason.code : DeclineReason → Nat
  | .noSlot => 1
  | .noStage => 2
  | .peerBusy => 3
  | .wakeFault => 4
  | .badOffer => 5

/-- A HALT cause (Table 12.1, note 4). -/
def HaltCause.code : HaltCause → Nat
  | .hostHalt => 1
  | .withdrawn => 2
  | .senderSilent => 3
  | .stalled => 4
  | .bayLost => 5
  | .wakeFault => 6
  | .seqExhausted => 7
  | .linkDown => 8

/-- The outcome of a session: DONE 0 or the cause code (Table 12.3, note 2). -/
def SessionOutcome.code : SessionOutcome → Nat
  | .done => 0
  | .halted cause => cause.code

/-- The taper mode: AUTO 0, MANUAL 1 (Table 7.3). -/
def TaperMode.code : TaperMode → Nat
  | .auto => 0
  | .manual => 1

/-- The taper mode a byte names (R134). -/
def taperModeOf (b : Byte) : Option TaperMode :=
  match b.toNat with
  | 0 => some .auto
  | 1 => some .manual
  | _ => none

/-- The phase, in the order of Figure 8.1. -/
def Phase.code : Phase → Nat
  | .floor => 0
  | .rise => 1
  | .cruise => 2
  | .yield => 3
  | .taper => 4
  | .tail => 5

/-! ## Management and notices -/

/-- The result codes (Table 10.4). -/
inductive ResultCode where
  | ok
  | busy
  | refusedState
  | badArgument
  | notFound
  | worn
  | unknownRequest
  deriving DecidableEq, Repr

/-- A result in the envelope (Table 12.2). -/
def ResultCode.code : ResultCode → Nat
  | .ok => 0
  | .busy => 1
  | .refusedState => 2
  | .badArgument => 3
  | .notFound => 4
  | .worn => 5
  | .unknownRequest => 6

/-- The request kinds (Table 10.5). -/
inductive ReqKind where
  | loadFlows
  | continueFlows
  | settleFlows
  | unsettleFlows
  | readFlow
  | readFlowStatus
  | setDefaultAction
  | setPartition
  | readPartition
  | loadAnswer
  | clearAnswer
  | readAnswer
  | sleep
  | ready
  | heartbeat
  | setWake
  | readWake
  | setClock
  | setAlarms
  | setTiming
  | readHold
  | clearHold
  | spinUp
  | spinDown
  | setBays
  | readBays
  | setProfile
  | readSession
  | haltSession
  | setShare
  | setNotices
  | readNotices
  | programRetained
  | readRetained
  deriving DecidableEq, Repr

/-- The code of a request kind: the family in the high byte, the place in its list in the low byte (R187). -/
def ReqKind.code : ReqKind → Nat
  | .loadFlows => 0x0101
  | .continueFlows => 0x0102
  | .settleFlows => 0x0103
  | .unsettleFlows => 0x0104
  | .readFlow => 0x0105
  | .readFlowStatus => 0x0106
  | .setDefaultAction => 0x0107
  | .setPartition => 0x0201
  | .readPartition => 0x0202
  | .loadAnswer => 0x0301
  | .clearAnswer => 0x0302
  | .readAnswer => 0x0303
  | .sleep => 0x0401
  | .ready => 0x0402
  | .heartbeat => 0x0403
  | .setWake => 0x0404
  | .readWake => 0x0405
  | .setClock => 0x0406
  | .setAlarms => 0x0407
  | .setTiming => 0x0408
  | .readHold => 0x0501
  | .clearHold => 0x0502
  | .spinUp => 0x0601
  | .spinDown => 0x0602
  | .setBays => 0x0603
  | .readBays => 0x0604
  | .setProfile => 0x0701
  | .readSession => 0x0702
  | .haltSession => 0x0703
  | .setShare => 0x0801
  | .setNotices => 0x0901
  | .readNotices => 0x0902
  | .programRetained => 0x0A01
  | .readRetained => 0x0A02

/-- Every request kind, in the order of Table 10.5. -/
def allRequests : List ReqKind :=
  [.loadFlows, .continueFlows, .settleFlows, .unsettleFlows, .readFlow, .readFlowStatus, .setDefaultAction,
    .setPartition, .readPartition, .loadAnswer, .clearAnswer, .readAnswer, .sleep, .ready, .heartbeat, .setWake,
    .readWake, .setClock, .setAlarms, .setTiming, .readHold, .clearHold, .spinUp, .spinDown, .setBays, .readBays,
    .setProfile, .readSession, .haltSession, .setShare, .setNotices, .readNotices, .programRetained, .readRetained]

/-- The request kind a code names (R174). -/
def reqKindOf (code : Nat) : Option ReqKind :=
  allRequests.find? fun k => k.code == code

/-- Whether a kind is a read request (Table 10.3, note 1). -/
def ReqKind.isRead : ReqKind → Bool
  | .readFlow | .readFlowStatus | .readPartition | .readWake | .readHold | .readAnswer | .readBays | .readSession
  | .readNotices | .readRetained => true
  | _ => false

/-- The place of a notice kind in Table 11.1, counted from 0. -/
def NoticeKind.index : NoticeKind → Fin 9
  | .button => 0
  | .alarm => 1
  | .bayChange => 2
  | .sessionEnd => 3
  | .holdOverflow => 4
  | .staleDropped => 5
  | .entryForced => 6
  | .hostRecovered => 7
  | .linkChange => 8

/-- The notice kinds in the order of Table 11.1. -/
def allNotices : List NoticeKind :=
  [.button, .alarm, .bayChange, .sessionEnd, .holdOverflow, .staleDropped, .entryForced, .hostRecovered, .linkChange]

/-- Which limit a held frame met: RECORDS 0, CELLS 1 (R64). -/
def HoldLimit.code : HoldLimit → Nat
  | .records => 0
  | .cells => 1

/-- Which link changed: LAN 0, HOST 1 (Table 11.1). -/
def LinkName.code : LinkName → Nat
  | .lan => 0
  | .host => 1

/-- A link state: UP 0, DOWN 1 (R164, R170). -/
def linkStateCode (up : Bool) : Nat :=
  if up then 0 else 1

end Sys2Proof.Machine
end

