-- ==== Sys2Proof/Machine/Operands.lean ====
section
/-! DEFINITION. The operands of the commands: the frame key of a LAN frame (R2 to R4), the pacing header (R189), the
envelope and parameters of a management request (R174, R190), the carried flow entry (Table 12.4), the retained
records and the parameters of the settings. -/

namespace Sys2Proof.Machine

/-! ## The frame key -/

/-- dst kind of a destination address (R2). Where retained record 0 makes the box LAN address the broadcast address or a
group address, two of R2's conditions hold at once, and the model takes BOX, in the order in which R2 names them
(assumption log 43). -/
def dstKind (box dst : MacAddr) : DstKind :=
  if dst = box then .box
  else if dst = 0xFFFFFFFFFFFF then .broadcast
  else if dst.getLsbD 40 then .multicast
  else .other

/-- The low 12 bits of the VLAN tag when the frame carries one (R2). -/
def vlanId (data : List Byte) : Option (BitVec 12) :=
  if natAt data 12 2 = 0x8100 then some (BitVec.ofNat 12 (natAt data 14 2)) else none

/-- Where the ethertype stands in the frame data: behind at most one VLAN tag (R2). -/
def typeOffset (data : List Byte) : Nat :=
  if natAt data 12 2 = 0x8100 then 16 else 12

/-- The payload: the frame data that follow the ethertype field (R2). -/
def payloadOf (data : List Byte) : List Byte :=
  data.drop (typeOffset data + 2)

/-- The ip protocol (R3). -/
def ipProtocol (ethertype : Word16) (payload : List Byte) : Option Byte :=
  if ethertype = 0x0800 then some (byteAt payload 9)
  else if ethertype = 0x86DD then some (byteAt payload 6)
  else none

/-- Where the transport header starts in the payload, for the first fragment of an IPv4 frame with IHL at least 5 and
for every IPv6 frame (R3). -/
def transportOffset (ethertype : Word16) (payload : List Byte) : Option Nat :=
  if ethertype = 0x0800 then
    let ihl := (byteAt payload 0).toNat % 16
    if 5 ≤ ihl ∧ natAt payload 6 2 % 8192 = 0 then some (4 * ihl) else none
  else if ethertype = 0x86DD then some 40
  else none

/-- The dst port (R3). -/
def dstPortOf (ethertype : Word16) (payload : List Byte) : Option Word16 :=
  match ipProtocol ethertype payload, transportOffset ethertype payload with
  | some proto, some t =>
    if (proto = 6 ∨ proto = 17) ∧ t + 4 ≤ payload.length then some (BitVec.ofNat 16 (natAt payload (t + 2) 2)) else none
  | _, _ => none

/-- The syn field: SYN set and ACK clear in the TCP flags byte (R3). -/
def synOf (ethertype : Word16) (payload : List Byte) : Option Bool :=
  match dstPortOf ethertype payload, ipProtocol ethertype payload, transportOffset ethertype payload with
  | some _, some proto, some t =>
    if proto = 6 ∧ t + 14 ≤ payload.length then
      some ((byteAt payload (t + 13)).getLsbD 1 && !(byteAt payload (t + 13)).getLsbD 4)
    else none
  | _, _, _ => none

/-- The pacing type: the type byte of a full pacing header (R4). Where record 2 makes the pacing EtherType 8100h, a frame
with two tags has one by R4 and none by R2; the model follows R4 (assumption log 41). -/
def pacingTypeOf (pacingType ethertype : Word16) (payload : List Byte) : Option Byte :=
  if ethertype = pacingType ∧ 12 ≤ payload.length then some (byteAt payload 0) else none

/-- The run of 102 bytes of a wake signature (R4). -/
def signatureRun (box : MacAddr) : List Byte :=
  List.replicate 6 255 ++ (List.replicate 16 (num 6 box.toNat)).flatten

/-- Whether the run stands anywhere in the bytes. -/
def hasRun (run : List Byte) : List Byte → Bool
  | [] => run.isEmpty
  | b :: bs => run.isPrefixOf (b :: bs) || hasRun run bs

/-- The frame key of a frame with the given frame data and length (R2 to R4, Table 1.1). -/
def frameKey (cfg : InForce) (data : List Byte) (length : Nat) : FrameKey :=
  let ethertype := BitVec.ofNat 16 (natAt data (typeOffset data) 2)
  let payload := payloadOf data
  { dstKind := dstKind cfg.boxAddr (BitVec.ofNat 48 (natAt data 0 6)),
    src := BitVec.ofNat 48 (natAt data 6 6),
    vlan := vlanId data,
    ethertype := ethertype,
    ipProto := ipProtocol ethertype payload,
    dstPort := dstPortOf ethertype payload,
    syn := synOf ethertype payload,
    pacingType := pacingTypeOf cfg.pacingType ethertype payload,
    wakeSig := hasRun (signatureRun cfg.boxAddr) payload,
    length := length }

/-! ## Matching -/

/-- A condition on a field that is always present: ANY, or equal (Table 1.2). -/
def condMet {α : Type} [DecidableEq α] (cond : Option α) (value : α) : Bool :=
  match cond with
  | none => true
  | some c => decide (c = value)

/-- A condition on a field that may be absent: ANY, or present and equal (R6, Table 1.2). -/
def condMetOpt {α : Type} [DecidableEq α] (cond : Option α) (value : Option α) : Bool :=
  match cond with
  | none => true
  | some c => decide (value = some c)

/-- The dst port condition: ANY, or present and within lo to hi (Table 1.2). -/
def portMet (cond : Option PortRange) (port : Option Word16) : Bool :=
  match cond, port with
  | none, _ => true
  | some _, none => false
  | some r, some p => decide (r.lo.toNat ≤ p.toNat) && decide (p.toNat ≤ r.hi.toNat)

/-- Whether a valid entry's conditions are all met by a key (R6). -/
def FlowEntry.meets (e : FlowEntry) (k : FrameKey) : Bool :=
  e.valid && condMet e.dstKind k.dstKind && condMet e.src k.src && condMetOpt e.vlan k.vlan &&
    condMet e.ethertype k.ethertype && condMetOpt e.ipProto k.ipProto && portMet e.dstPort k.dstPort &&
    condMetOpt e.syn k.syn && condMetOpt e.pacingType k.pacingType && condMet e.wakeSig k.wakeSig

/-- The winning entry: the lowest-numbered valid entry whose conditions are all met (R6). -/
def winner (bank : Vector FlowEntry 64) (k : FrameKey) : Option (Fin 64) :=
  (List.finRange 64).find? fun i => bank[i].meets k

/-- The result of a match (R6): the winning entry's index, or NONE, with class, wake choice and bay set. -/
structure MatchResult where
  entry : Option (Fin 64)
  action : Action
  wake : Bool
  bays : BaySet
  deriving DecidableEq, Repr

/-- The key resolved against the active bank, or by the default action (R6). -/
def resolve (c : Classifier) (k : FrameKey) : MatchResult :=
  match winner (c.bank c.active) k with
  | some i =>
    let e := (c.bank c.active)[i]
    { entry := some i, action := e.action, wake := e.wake, bays := e.bays }
  | none =>
    { entry := none, action := (match c.defaultClass with | .pass => .pass | .drop => .drop), wake := false, bays := 0 }

/-! ## Carried flow entries -/

/-- The class and index bytes of a carried flow entry; none where R14 refuses them. -/
def actionOf (cls index : Byte) : Option Action :=
  match cls.toNat with
  | 0 => some .pass
  | 1 => some .share
  | 2 => if h : index.toNat < 4 then some (.backup ⟨index.toNat, h⟩) else none
  | 3 => if h : index.toNat < 16 then some (.proxy ⟨index.toNat, h⟩) else none
  | 4 => some .drop
  | _ => none

/-- The index byte of a carried flow entry: the held index, or zero where the class holds none (Table 12.4, R188). -/
def Action.indexCode : Action → Nat
  | .backup p => p.val
  | .proxy a => a.val
  | _ => 0

/-- The flow entry that 28 carried bytes give, hit count 0; none where R14 refuses the entry (Table 12.4, R13). -/
def parseEntry (b : List Byte) : Option FlowEntry :=
  let mask := BitVec.ofNat 16 (natAt b 2 2)
  let lo : Word16 := BitVec.ofNat 16 (natAt b 18 2)
  let hi : Word16 := BitVec.ofNat 16 (natAt b 20 2)
  match actionOf (byteAt b 23) (byteAt b 26) with
  | none => none
  | some action =>
    if mask.getLsbD 5 ∧ hi.toNat < lo.toNat then none
    else
      some
        { valid := decide (byteAt b 0 ≠ 0),
          dstKind := if mask.getLsbD 0 then some (dstKindOf (byteAt b 4)) else none,
          src := if mask.getLsbD 1 then some (BitVec.ofNat 48 (natAt b 8 6)) else none,
          vlan := if mask.getLsbD 2 then some (BitVec.ofNat 12 (natAt b 14 2)) else none,
          ethertype := if mask.getLsbD 3 then some (BitVec.ofNat 16 (natAt b 16 2)) else none,
          ipProto := if mask.getLsbD 4 then some (byteAt b 7) else none,
          dstPort := if mask.getLsbD 5 then some { lo := lo, hi := hi } else none,
          syn := if mask.getLsbD 6 then some (decide (byteAt b 5 ≠ 0)) else none,
          pacingType := if mask.getLsbD 7 then some (byteAt b 22) else none,
          wakeSig := if mask.getLsbD 8 then some (decide (byteAt b 6 ≠ 0)) else none,
          action := action,
          wake := decide (byteAt b 24 ≠ 0),
          bays := BitVec.ofNat 4 (byteAt b 25).toNat,
          hits := 0 }

/-- The condition mask of an entry (Table 12.4). -/
def FlowEntry.mask (e : FlowEntry) : Nat :=
  e.dstKind.isSome.toNat + 2 * e.src.isSome.toNat + 4 * e.vlan.isSome.toNat + 8 * e.ethertype.isSome.toNat +
    16 * e.ipProto.isSome.toNat + 32 * e.dstPort.isSome.toNat + 64 * e.syn.isSome.toNat +
    128 * e.pacingType.isSome.toNat + 256 * e.wakeSig.isSome.toNat

/-- An entry in its carried form of 28 bytes (Table 12.4); the field of a condition of ANY is carried as zero bytes
(R188). -/
def FlowEntry.carried (e : FlowEntry) : List Byte :=
  flag e.valid ++ num 1 0 ++ num 2 e.mask ++ num 1 (e.dstKind.elim 0 DstKind.code) ++ flag (e.syn.getD false) ++
    flag (e.wakeSig.getD false) ++ num 1 (e.ipProto.elim 0 BitVec.toNat) ++ num 6 (e.src.elim 0 BitVec.toNat) ++
    num 2 (e.vlan.elim 0 BitVec.toNat) ++ num 2 (e.ethertype.elim 0 BitVec.toNat) ++
    num 2 (e.dstPort.elim 0 fun r => r.lo.toNat) ++ num 2 (e.dstPort.elim 0 fun r => r.hi.toNat) ++
    num 1 (e.pacingType.elim 0 BitVec.toNat) ++ num 1 e.action.code ++ flag e.wake ++ baySetByte e.bays ++
    num 1 e.action.indexCode ++ num 1 0

/-- The first `n` carried entries of the bytes; none where R14 refuses one. -/
def parseEntries : Nat → List Byte → Option (List FlowEntry)
  | 0, _ => some []
  | n + 1, b =>
    match parseEntry (b.take 28), parseEntries n (b.drop 28) with
    | some e, some es => some (e :: es)
    | _, _ => none

/-! ## Pacing frames -/

/-- The session tag of a pacing header (Table 12.1). -/
def Handover.tag (h : Handover) : Word16 := BitVec.ofNat 16 (natAt h.payload 2 2)

/-- The sequence of a pacing header (Table 12.1). -/
def Handover.seq (h : Handover) : Nat := natAt h.payload 4 4

/-- The value of a pacing header (Table 12.1). -/
def Handover.value (h : Handover) : Nat := natAt h.payload 8 4

/-- NB of an OFFER: the low 24 bits of its value (Table 12.1, note 2). -/
def Handover.nb (h : Handover) : Nat := h.value % 16777216

/-- The FOLLOW_ON flag of an OFFER: bit 24 of its value (Table 12.1, note 2). -/
def Handover.followOn (h : Handover) : Bool := decide (h.value / 16777216 % 2 = 1)

/-- The message a handed-over frame is acted on as, or none when it is malformed (R111). -/
def Handover.message (h : Handover) : Option MsgKind :=
  match h.ptype.bind msgKindOf with
  | some .offer => some .offer
  | some .withdraw => some .withdraw
  | some .block =>
    if h.value = 0 ∨ 8128 < h.value ∨ h.payload.length - 12 < h.value then none else some .block
  | _ => none

/-! ## Management requests -/

/-- A management request (Table 12.2). `params` is `none` when the length field names more bytes than the frame data
hold (R190). -/
structure Request where
  src : MacAddr
  tag : Word16
  kind : Nat
  params : Option (List Byte)
  deriving DecidableEq, Repr

/-- The request in frame data, or none when it carries no tag or no kind (R174, R190). -/
def parseRequest (data : List Byte) : Option Request :=
  if data.length < 18 then none
  else
    some
      { src := BitVec.ofNat 48 (natAt data 6 6),
        tag := BitVec.ofNat 16 (natAt data 14 2),
        kind := natAt data 16 2,
        params :=
          if data.length < 22 ∨ data.length - 22 < natAt data 20 2 then none
          else some (slice data 22 (natAt data 20 2)) }

/-- The number of contents bytes of a retained record in its carried form (Table 11.2, R188). -/
def contentsLength (record : Nat) : Nat :=
  match record with
  | 0 => 6
  | 1 => 6
  | 2 => 4
  | 3 => 4
  | 4 => 1
  | 5 => 20
  | 6 => 6
  | 7 => 17
  | _ => 0

/-- The bytes of a kind's fixed parameters (R188, R190). -/
def ReqKind.fixedLength : ReqKind → Nat
  | .loadFlows => 3
  | .continueFlows => 0
  | .readFlow => 2
  | .readFlowStatus => 1
  | .setDefaultAction => 1
  | .setPartition => 4
  | .loadAnswer => 10
  | .clearAnswer => 1
  | .readAnswer => 2
  | .setWake => 5
  | .setClock => 2
  | .setAlarms => 24
  | .setTiming => 4
  | .readHold => 1
  | .spinUp => 1
  | .spinDown => 1
  | .setBays => 17
  | .setProfile => 23
  | .readSession => 2
  | .haltSession => 3
  | .setShare => 1
  | .setNotices => 9
  | .programRetained => 1
  | .readRetained => 1
  | .settleFlows | .unsettleFlows | .readPartition | .sleep | .ready | .heartbeat | .readWake | .clearHold
  | .readBays | .readNotices => 0

/-! ## Settings -/

/-- A value drawn from a list: the nearest, and the larger of two equally near (R58, R91). The list rises. -/
def nearest (allowed : List Nat) (n : Nat) : Nat :=
  allowed.foldl
    (fun best a => if (max a n - min a n) ≤ (max best n - min best n) then a else best) (allowed.headD 0)

/-- The timing settings clamped (R58). -/
def clampTiming (stabilization boot heartbeat entry : Nat) : Timing :=
  { stabilization := nearest [8, 16, 32, 64] stabilization, boot := nearest [2, 5, 10, 30, 60] boot,
    heartbeat := clamp 0 255 heartbeat, entry := clamp 1 60 entry }

/-- The idle interval clamped: 0 is NEVER (R91). -/
def clampIdle (minutes : Nat) : Nat :=
  if minutes = 0 then 0 else nearest [5, 10, 20, 30, 60] minutes

/-- The settings of one bay clamped, the cost against the settled budget too (R91). -/
def clampBay (budget cost spin idle : Nat) (edge : ActivityEdge) : BaySettings :=
  { cost := min (clamp 1 4 cost) budget, spin := clamp 1 30 spin, idle := clampIdle idle, edge := edge }

/-- A minute clamped (R54, R55). -/
def clampMinute (minute : Nat) : Nat :=
  clamp 0 10079 minute

/-- A profile with its numbers clamped, in the order of R136 (R134, R136). -/
def Profile.clamped (p : Profile) : Profile :=
  let floor := clamp 16 16000 p.floor
  { p with
    floor := floor, peak := clamp floor 16000 p.peak, ceiling := clamp floor 16000 p.ceiling,
    rise := clamp 1 4095 p.rise, fall := clamp 1 4095 p.fall, margin := clamp 0 255 p.margin,
    manualPoint := clamp 0 65535 p.manualPoint, window := clamp 1 16 p.window, deadline := clamp 2 2000 p.deadline,
    expiryLimit := clamp 1 15 p.expiryLimit, stallLimit := clamp 1 600 p.stallLimit }

/-- A choice of on and off carried where every value above 01h is refused (R188). -/
def strictFlag (b : Byte) : Option Bool :=
  match b.toNat with
  | 0 => some false
  | 1 => some true
  | _ => none

/-- The profile that SET_PROFILE carries behind its index, unclamped; none where R134 refuses it (Table 7.3). -/
def parseProfile (b : List Byte) : Option Profile :=
  match taperModeOf (byteAt b 9), strictFlag (byteAt b 10), strictFlag (byteAt b 21) with
  | some taper, some revision, some followOn =>
    some
      { floor := natAt b 0 2, peak := natAt b 2 2, rise := natAt b 4 2, fall := natAt b 6 2, margin := natAt b 8 1,
        taper := taper, revision := revision, manualPoint := natAt b 11 2, ceiling := natAt b 13 2,
        window := natAt b 15 1, deadline := natAt b 16 2, expiryLimit := natAt b 18 1, stallLimit := natAt b 19 2,
        followOn := followOn }
  | _, _, _ => none

/-- The bay set of a byte, none when a bit above bit 3 names a bay above 3 (R188). -/
def strictBays (b : Byte) : Option BaySet :=
  if b.toNat < 16 then some (BitVec.ofNat 4 b.toNat) else none

/-- The four groups of bay settings and the budget as carried by SET_BAYS and retained record 7, the edge of each bay
read by `edgeOf`, all clamped by R91. -/
def parseBays (edgeOf : Byte → ActivityEdge) (b : List Byte) : Vector BaySettings 4 × Nat :=
  let budget := clamp 1 8 (natAt b 16 1)
  (Vector.ofFn fun i =>
      clampBay budget (natAt b (4 * i.val) 1) (natAt b (4 * i.val + 1) 1) (natAt b (4 * i.val + 2) 1)
        (edgeOf (byteAt b (4 * i.val + 3))),
    budget)

/-- The checks of LOAD_ANSWER: of 16 expected bytes the first n are stored (Table 12.5, note 1). -/
def parseChecks : Nat → List Byte → List (Check × Nat)
  | 0, _ => []
  | c + 1, b =>
    ({ offset := natAt b 0 1, expected := slice b 2 (natAt b 1 1) }, natAt b 1 1) :: parseChecks c (b.drop 18)

/-- The substitutions of LOAD_ANSWER (Table 12.5). -/
def parseSubsts : Nat → List Byte → List Subst
  | 0, _ => []
  | c + 1, b => { offset := natAt b 0 1, count := natAt b 1 1, target := natAt b 2 2 } :: parseSubsts c (b.drop 4)

end Sys2Proof.Machine
end

