-- ==== Sys2Proof/Machine/Ops.lean ====
section
/-! DEFINITION. The shared operations of the notice unit, the host link unit and the LAN port unit: raising a notice
kind, the two egress arbiters, the queues that feed them. -/

namespace Sys2Proof.Machine

/-! ## Raising notices -/

/-- A kind raised with its detail: pending set, count up by 1, detail replaced (R177). -/
def raise (kind : NoticeKind) (detail : Detail) (s : State) : State :=
  { s with
    note.kinds := vecMod s.note.kinds kind.index fun n =>
      { n with pending := true, count := satAdd n.count 1, detail := some detail } }

/-- An outcome record added to the session outcome list, which raises SESSION_END: at 8 records the oldest is removed
first and the lost count rises by 1 (R179). -/
def addOutcome (tag : Word16) (outcome : SessionOutcome) (s : State) : State :=
  raise .sessionEnd .sessionEnd
    (if s.note.outcomes.length < 8 then { s with note.outcomes := s.note.outcomes ++ [(tag, outcome)] }
     else
       { s with
         note.outcomes := s.note.outcomes.drop 1 ++ [(tag, outcome)], note.lost := satAdd s.note.lost 1 })

/-! ## The H-port egress -/

/-- The frame data of a stage slot's DELIVER frame: the header built in the first 38 bytes of the slot and the
payload from byte 64 on (R32, Table 12.3), padded (R189). -/
def deliverData (s : State) (k length : Nat) : List Byte :=
  pad60 (s.cells.mem.readRun (stageAddress s.cells.part k) 38 ++
    s.cells.mem.readRun (stageAddress s.cells.part k + 64) length)

/-- The payload length of a stage slot (Table 2.2). -/
def StageSlot.length : StageSlot → Nat
  | .filled _ n => n
  | .sending _ n => n
  | _ => 0

/-- The H-port egress arbiter: with the H-port UP and the link free, the head frame of the highest-priority queue that
is not empty starts, with a fresh frame check sequence (R165, R167, Table 10.1). -/
def hostKick (s : State) : State :=
  if s.host.up && s.host.sending.isNone then
    match s.host.responses, s.host.lpath, s.pac.delivery with
    | r :: rs, _, _ => { s with host.responses := rs, host.sending := some (.response (withFcs r)) }
    | [], f :: fs, _ =>
      { s with
        host.lpath := fs,
        host.sending := some (if f.released then .held (withFcs f.data) else .direct (withFcs f.data)) }
    | [], [], some k =>
      { s with
        host.sending := some (.deliver (withFcs (deliverData s k (s.pac.stage.getD k .free).length))) }
    | [], [], none => s
  else s

/-- A response or notice placed at the tail of the response queue, or discarded with the H-port DOWN (R169, R172). -/
def queueResponse (data : List Byte) (s : State) : State :=
  if s.host.up then hostKick { s with host.responses := s.host.responses ++ [data] } else s

/-- A direct frame handed over by the classifier: discarded while the H-port is DOWN or the L path holds 16 frames
(R167, R168). -/
def handDirect (data : List Byte) (s : State) : State :=
  if s.host.up && decide (s.host.lpath.length < 16) then
    hostKick { s with host.lpath := s.host.lpath ++ [{ released := false, data := data }] }
  else s

/-- The frame of the record in the release position handed to the L path (R69). -/
def handReleased (data : List Byte) (s : State) : State :=
  hostKick { s with host.lpath := s.host.lpath ++ [{ released := true, data := data }] }

/-- A management frame the part builds: its source is the part's host-link address (R165, Table 12.2). -/
def mgmtFrame (cfg : InForce) (dst : MacAddr) (tag : Word16) (kind : Nat) (result : ResultCode) (data : List Byte) :
    List Byte :=
  etherFrame dst cfg.linkAddr cfg.mgmtType
    (num 2 tag.toNat ++ num 2 kind ++ num 1 result.code ++ num 1 0 ++ num 2 data.length ++ data)

/-- A response queued to the source address of its request, with the request's tag and kind (R165, R174, R176). -/
def respond (r : Request) (result : ResultCode) (data : List Byte) (s : State) : State :=
  queueResponse (mgmtFrame s.cfg r.src r.tag r.kind result data) s

/-! ## Building notices -/

/-- An age in a detail: 2 bytes, at most 65,535 ms (Table 12.3, note 1). -/
def ageCode (age : Nat) : List Byte :=
  num 2 (min age 65535)

/-- The session outcome list as a detail (Table 12.3, note 2). -/
def outcomeBytes (n : Notices) : List Byte :=
  num 2 n.lost.toNat ++ num 1 n.outcomes.length ++
    (n.outcomes.map fun o => num 2 o.1.toNat ++ num 1 o.2.code).flatten

/-- A detail in the form a notice carries it (Table 11.1, Table 12.3 notes 1 and 2). -/
def detailBytes (n : Notices) : Detail → List Byte
  | .button edge => num 1 (buttonEdgeCode edge)
  | .alarm index minute => num 1 index.val ++ num 2 minute
  | .bayChange bay edge state => num 1 bay.val ++ num 1 edge.code ++ num 1 state.code
  | .sessionEnd => outcomeBytes n
  | .holdOverflow limit cls entry length records used =>
    num 1 limit.code ++ num 1 cls.code ++ num 1 (entryCode entry) ++ num 2 length ++ num 2 records ++ num 2 used
  | .staleDropped cls entry age => num 1 cls.code ++ num 1 (entryCode entry) ++ ageCode age
  | .entryForced seconds => num 1 seconds
  | .hostRecovered attempts => num 1 attempts
  | .linkChange link up => num 1 link.code ++ num 1 (linkStateCode up)

/-- The detail of a kind, empty when none is kept. -/
def keptDetail (n : Notices) (d : Option Detail) : List Byte :=
  d.elim [] (detailBytes n)

/-- The notice frame of a kind: tag 0000h, kind FF01h on, count, detail length, detail (R187, Table 12.3). The
envelope's result byte, which Table 12.2 gives for requests and responses alone, is 0 (assumption log 40). -/
def noticeFrame (s : State) (kind : NoticeKind) : List Byte :=
  let n := s.note.kinds[kind.index]
  let detail := keptDetail s.note n.detail
  mgmtFrame s.cfg s.host.hostAddr 0 (0xFF01 + kind.index.val) .ok
    (num 1 n.count.toNat ++ num 1 detail.length ++ detail)

/-- The pending flag, count and detail of a kind cleared, and for SESSION_END the outcome list emptied (R178, R179). -/
def clearKind (kind : NoticeKind) (n : Notices) : Notices :=
  let m := { n with
    kinds := vecMod n.kinds kind.index fun k => { k with pending := false, count := 0, detail := none } }
  if kind = .sessionEnd then { m with outcomes := [], lost := 0 } else m

/-- Whether a notice can be built for a kind now (R178). -/
def noticeQualifies (s : State) (kind : NoticeKind) : Bool :=
  let n := s.note.kinds[kind.index]
  n.pending && n.enable && decide (s.pow.box = .run) && s.host.up && decide (s.host.responses.length < 16)

/-- The notice of one kind built when the kind qualifies (R178). -/
def buildNotice (kind : NoticeKind) (s : State) : State :=
  if noticeQualifies s kind then queueResponse (noticeFrame s kind) { s with note := clearKind kind s.note } else s

/-- The notices of every kind that qualifies, one after another in the order of Table 11.1 (R178). -/
def buildNotices (s : State) : State :=
  allNotices.foldl (fun t kind => buildNotice kind t) s

/-! ## The L-port egress -/

/-- The frame data of a pacing message, from the box LAN address to the peer (Table 12.1; assumption log 9). -/
def pacingFrame (cfg : InForce) (m : PacingMsg) : List Byte :=
  etherFrame m.peer cfg.boxAddr cfg.pacingType
    (num 1 m.kind.code ++ num 1 0 ++ num 2 m.tag.toNat ++ num 4 m.seq.toNat ++ num 4 m.value.toNat)

/-- The L-port egress arbiter: with the LAN link UP and free, the head of the pacing-message queue, else of the answer
queue, else of the host-frame queue starts (R171). -/
def lanKick (s : State) : State :=
  if s.lan.up && s.lan.sending.isNone then
    match s.pac.queue, s.ans.answers, s.lan.hostFrames with
    | m :: ms, _, _ =>
      { s with pac.queue := ms, lan.sending := some (.pacing (withFcs (pacingFrame s.cfg m))) }
    | [], a :: as, _ =>
      { s with ans.answers := as, ans.sending := some a, lan.sending := some (.answer (withFcs a.data)) }
    | [], [], f :: fs => { s with lan.hostFrames := fs, lan.sending := some (.host (withFcs f)) }
    | [], [], [] => s
  else s

/-- How many messages may stand in the pacing-message queue when one of a kind joins it (R112). -/
def MsgKind.room : MsgKind → Nat
  | .grant => 24
  | .decline => 28
  | _ => 32

/-- A built message joins the pacing-message queue, or is not queued and the reply-lost count rises (R112). -/
def queueMsg (m : PacingMsg) (s : State) : State :=
  if s.pac.queue.length < m.kind.room then lanKick { s with pac.queue := s.pac.queue ++ [m] }
  else { s with pac.replyLost := satAdd s.pac.replyLost 1 }

/-- ACCEPT with NB (Table 7.1). -/
def acceptMsg (peer : MacAddr) (tag : Word16) (nb : Nat) : PacingMsg :=
  { peer := peer, kind := .accept, tag := tag, seq := 0, value := BitVec.ofNat 32 nb }

/-- DECLINE with a reason (Table 7.1). -/
def declineMsg (peer : MacAddr) (tag : Word16) (reason : DeclineReason) : PacingMsg :=
  { peer := peer, kind := .decline, tag := tag, seq := 0, value := BitVec.ofNat 32 reason.code }

/-- GRANT with the session's grant deadline (Table 7.1). -/
def grantMsg (peer : MacAddr) (tag : Word16) (seq deadline : Nat) : PacingMsg :=
  { peer := peer, kind := .grant, tag := tag, seq := BitVec.ofNat 32 seq, value := BitVec.ofNat 32 deadline }

/-- TALLY with the blocks received (Table 7.1). -/
def tallyMsg (peer : MacAddr) (tag : Word16) (nb : Nat) : PacingMsg :=
  { peer := peer, kind := .tally, tag := tag, seq := 0, value := BitVec.ofNat 32 nb }

/-- HALT with the blocks received and the cause (Table 7.1). -/
def haltMsg (peer : MacAddr) (tag : Word16) (received : Nat) (cause : HaltCause) : PacingMsg :=
  { peer := peer, kind := .halt, tag := tag, seq := BitVec.ofNat 32 received, value := BitVec.ofNat 32 cause.code }

end Sys2Proof.Machine
end

