-- ==== Sys2Proof/Machine/BayOps.lean ====
section
/-! DEFINITION. The shared operations of the bay controller (chapter 6) and of the pacing engine's READY set
(R148, R149). -/

namespace Sys2Proof.Machine

/-! ## The READY set and the fall to FLOOR -/

/-- A session brought to FLOOR from RISE, CRUISE or YIELD; one in another phase, or DRAINING, as it is (R149). -/
def Session.fallen (x : Session) : Session :=
  if !x.draining && (decide (x.phase = .rise) || decide (x.phase = .cruise) || decide (x.phase = .yield)) then
    { x with phase := .floor, rate := x.profile.floor }
  else x

/-- The sessions for which `p` holds fall to FLOOR (R149). -/
def fallSessions (p : Session → Bool) (s : State) : State :=
  { s with
    pac.slots := vecMap
      (fun slot => { slot with session := slot.session.map fun x => if p x then x.fallen else x }) s.pac.slots }

/-- The report that a bay has entered READY (R90, R148). -/
def reportReady (bay : Bay) (s : State) : State :=
  { s with pac.readySet := s.pac.readySet ||| oneBay bay }

/-- The report that a bay has left READY: it leaves the READY set and the sessions of the bay fall (R148, R149). -/
def reportUnready (bay : Bay) (s : State) : State :=
  fallSessions (fun x => hasBay x.bays bay)
    { s with pac.readySet := s.pac.readySet &&& ~~~ oneBay bay }

/-! ## Bay records -/

/-- One bay record changed. -/
def onBay (bay : Bay) (f : BayRecord → BayRecord) (s : State) : State :=
  { s with bay.bays := vecMod s.bay.bays bay f }

/-- The idle timer at its full interval, or stopped when the interval is NEVER (R103). -/
def BaySettings.idleStart (b : BaySettings) : Option Nat :=
  if b.idle = 0 then none else some (b.idle * 60000)

/-- The record admitted to SPINNING: power asserted, spin timer started (R100). -/
def BayRecord.admitted (b : BayRecord) : BayRecord :=
  { b with state := .spinning, pwr := true, spinTimer := some (b.settings.spin * 1000) }

/-- The record without power and with its timers stopped, in the given state (R94, R106, R108). -/
def BayRecord.unpowered (state : BayState) (b : BayRecord) : BayRecord :=
  { b with state := state, pwr := false, spinTimer := none, idleTimer := none }

/-- The head admitted, and then each new head, while the free budget covers its cost; at most as many times as the
first argument says (R100). -/
def tryHeads : Nat → State → State
  | 0, s => s
  | n + 1, s =>
    match s.bay.queue with
    | [] => s
    | b :: rest =>
      if s.bay.bays[b].settings.cost ≤ s.bay.freeBudget then
        tryHeads n (onBay b BayRecord.admitted { s with bay.queue := rest })
      else s

/-- The bay controller tries the head of the spin-up queue (R100). -/
def tryHead (s : State) : State :=
  tryHeads s.bay.queue.length s

/-- The effect of a demand on one bay by its state (R97). -/
def demandBay (bay : Bay) (s : State) : State :=
  match s.bay.bays[bay].state with
  | .off => { onBay bay (fun b => { b with state := .queued }) s with bay.queue := s.bay.queue ++ [bay] }
  | .ready =>
    onBay bay (fun b => { b with idleTimer := if b.idleTimer.isSome then b.settings.idleStart else none }) s
  | _ => s

/-- A demand of a bay set: its bays in ascending order, then the head is tried; an empty set changes nothing (R97). -/
def demand (set : BaySet) (s : State) : State :=
  if set = 0 then s
  else tryHead (allBays.foldl (fun t bay => if hasBay set bay then demandBay bay t else t) s)

/-- The record after its needed count has fallen for a give-up and risen for a take reported together: the idle timer
of a READY bay stops when the count rises from 0 and starts when it falls to 0 (R102, R103). -/
def BayRecord.recount (gives takes : Bool) (b : BayRecord) : BayRecord :=
  let needed := b.needed - gives.toNat + takes.toNat
  { b with
    needed := needed,
    idleTimer :=
      if b.state = .ready ∧ b.needed = 0 ∧ 0 < needed then none
      else if b.state = .ready ∧ 0 < b.needed ∧ needed = 0 then b.settings.idleStart
      else b.idleTimer }

/-- A give-up of one bay set and a take of another, reported together (R102). -/
def changeNeeded (gives takes : BaySet) (s : State) : State :=
  { s with
    bay.bays := Vector.ofFn fun i => s.bay.bays[i].recount (hasBay gives i) (hasBay takes i) }

/-- SLEEP has been reached: every bay that is not ABSENT becomes OFF, the spin-up queue empties, and the pacing engine
is told of each bay that was READY (R106). -/
def sleepReached (s : State) : State :=
  allBays.foldl (fun t bay => if s.bay.bays[bay].state = .ready then reportUnready bay t else t)
    { s with
      bay.bays := vecMap (fun b => if b.state = .absent then b else b.unpowered .off) s.bay.bays,
      bay.queue := [] }

end Sys2Proof.Machine
end

