-- ==== Sys2Proof/Machine/ProfileOps.lean ====
section
/-! DEFINITION. The arithmetic of the grant profile (chapter 8): peak and taper point, the grant step, intervals. -/

namespace Sys2Proof.Machine

/-- n / d rounded up; 0 for n = 0 (R139). -/
def ceilDiv (n d : Nat) : Nat :=
  (n + d - 1) / d

/-- n_up(X): the grant steps needed to rise from FLOOR to X (R139). -/
def Profile.stepsUp (p : Profile) (x : Nat) : Nat :=
  ceilDiv (x - p.floor) p.rise

/-- n_dn(X): the grant steps needed to fall from X to FLOOR (R139). -/
def Profile.stepsDown (p : Profile) (x : Nat) : Nat :=
  ceilDiv (x - p.floor) p.fall

/-- The grant steps that a peak of FLOOR + x takes to rise to and fall from (R140). -/
def Profile.climbCost (p : Profile) (x : Nat) : Nat :=
  ceilDiv x p.rise + ceilDiv x p.fall

/-- The trapezoid test (R139). -/
def Profile.trapezoid (p : Profile) (nb : Nat) : Bool :=
  decide (p.stepsUp p.peak + p.stepsDown p.peak + p.margin ≤ nb - 1)

/-- The largest number below 2 ^ bits above `base` that still fits, found bit by bit from the highest: `base` raised
by 2 ^ (bits - 1) where the sum is at most `most` and its climb costs at most `m` (R140). -/
def Profile.climbSearch (p : Profile) (most m : Nat) : Nat → Nat → Nat
  | 0, base => base
  | bits + 1, base =>
    if base + 2 ^ bits ≤ most ∧ p.climbCost (base + 2 ^ bits) ≤ m then p.climbSearch most m bits (base + 2 ^ bits)
    else p.climbSearch most m bits base

/-- x of R140: the largest whole number from 0 to PEAK - FLOOR whose climb costs at most M = NB - 1 - margin. -/
def Profile.revisedClimb (p : Profile) (nb : Nat) : Nat :=
  p.climbSearch (p.peak - p.floor) (nb - 1 - p.margin) 14 0

/-- The peak P of a session (R139 to R142). -/
def Profile.peakFor (p : Profile) (nb : Nat) : Nat :=
  match p.taper with
  | .manual => p.peak
  | .auto => if p.trapezoid nb || !p.revision then p.peak else p.floor + p.revisedClimb nb

/-- The taper point TP of a session (R139, R142). -/
def Profile.taperFor (p : Profile) (nb : Nat) : Nat :=
  match p.taper with
  | .manual => p.manualPoint
  | .auto => p.stepsDown (p.peakFor nb) + p.margin

/-- The interval that follows a grant at a current rate, in microseconds (R152). -/
def interval (rate : Nat) : Nat :=
  1000000 / rate

/-- The ceiling E of a session (R147). -/
def ceilingOf (shareActive : Bool) (x : Session) : Nat :=
  if shareActive then min x.peak x.profile.ceiling else x.peak

/-- The tracking step toward the ceiling E (R145). -/
def Session.track (e : Nat) (x : Session) : Session :=
  if x.rate < e then
    let rate := min (x.rate + x.profile.rise) e
    { x with rate := rate, phase := if rate = e then .cruise else .rise }
  else if x.rate = e then { x with phase := .cruise }
  else
    let rate := max (x.rate - x.profile.fall) e
    { x with rate := rate, phase := if rate = e then .cruise else .yield }

/-- The TAPER step (R146). -/
def Session.taperStep (x : Session) : Session :=
  let rate := max (x.rate - x.profile.fall) x.profile.floor
  { x with rate := rate, phase := if rate = x.profile.floor then .tail else .taper }

/-- The step of the phase: FLOOR by R144, RISE, CRUISE and YIELD by R145, TAPER and TAIL by R146. -/
def Session.phaseStep (free : Bool) (e : Nat) (x : Session) : Session :=
  match x.phase with
  | .floor => if free then x.track e else { x with rate := x.profile.floor }
  | .rise | .cruise | .yield => x.track e
  | .taper => x.taperStep
  | .tail => { x with rate := x.profile.floor }

/-- The grant step: the TAPER test, then the step of the phase that stands after it (R143). `free` says that the box
is in RUN and every bay of the set is READY, `e` is the ceiling. -/
def Session.grantStep (free : Bool) (e : Nat) (x : Session) : Session :=
  if x.phase ≠ .taper ∧ x.phase ≠ .tail ∧ x.todo ≤ x.taperPoint then ({ x with phase := .taper } : Session).phaseStep free e
  else x.phaseStep free e

/-- The conditions of R144: the box state is RUN and every bay of the session's set is in the READY set. -/
def mayRise (s : State) (x : Session) : Bool :=
  decide (s.pow.box = .run) && decide (x.bays &&& s.pac.readySet = x.bays)

end Sys2Proof.Machine
end

