-- ==== Sys2Proof/Machine/PacingOps.lean ====
section
/-! DEFINITION. The shared operations of the pacing engine (chapter 7): sessions, grants and the stage arbiter, halts,
delivery and completion. -/

namespace Sys2Proof.Machine

/-- One session slot changed. -/
def onSlot (i : Slot) (f : SessionSlot → SessionSlot) (s : State) : State :=
  { s with pac.slots := vecMod s.pac.slots i f }

/-- One stage slot's record set. -/
def setStage (k : Nat) (slot : StageSlot) (s : State) : State :=
  { s with pac.stage := s.pac.stage.set k slot }

/-! ## Starting a session -/

/-- The session that starts from an OFFER or a follow-on: T is NB, the profile state computed, the first grant due at
once (R116, R129, R138). -/
def newSession (p : Profile) (peer : MacAddr) (tag : Word16) (nb : Nat) (bays : BaySet) (now : Word64) : Session :=
  { draining := false, peer := peer, tag := tag, nb := nb, received := 0, outstanding := [], nextSeq := 1, todo := nb,
    undelivered := 0, expiries := 0, strays := 0, stallAcc := 0, profile := p, phase := .floor, rate := p.floor,
    peak := p.peakFor nb, taperPoint := p.taperFor nb, nextDue := now, bays := bays, followOn := none }

/-- A session started in a slot: the slot filled, ACCEPT queued, the take of the bay set (with the give-up of
`gives` where the session follows another) reported and the set demanded (R98, R102, R116, R129). -/
def startSession (i : Slot) (gives : BaySet) (peer : MacAddr) (f : FollowOn) (s : State) : State :=
  demand f.bays
    (changeNeeded gives f.bays
      (queueMsg (acceptMsg peer f.tag f.nb)
        (onSlot i
          (fun slot =>
            { slot with session := some (newSession s.pac.profiles[f.profile] peer f.tag f.nb f.bays s.time.us) }) s)))

/-! ## Halting -/

/-- The stage slots of cancelled grants made FREE. -/
def freeStages (grants : List Grant) (stage : List StageSlot) : List StageSlot :=
  grants.foldl (fun st g => st.set g.stage .free) stage

/-- The discarded follow-on of a halted session declined with PEER_BUSY (R130). -/
def declineFollowOn (x : Session) (s : State) : State :=
  match x.followOn with
  | some f => queueMsg (declineMsg x.peer f.tag .peerBusy) s
  | none => s

/-- A session of a slot halts with a cause: grants cancelled, blocks left behind (discarded under WAKE_FAULT), HALT
and the follow-on's DECLINE queued (not under LINK_DOWN), the outcome recorded, the slot IDLE, the bay set given up
(R130). -/
def haltSession (i : Slot) (cause : HaltCause) (s : State) : State :=
  match s.pac.slots[i].session with
  | none => s
  | some x =>
    let idle := onSlot i
      (fun slot =>
        { session := none,
          leftBehind := if cause = .wakeFault then slot.leftBehind else slot.leftBehind + x.undelivered })
      { s with pac.stage := freeStages x.outstanding s.pac.stage }
    let told := if cause = .linkDown then idle else queueMsg (haltMsg x.peer x.tag x.received cause) idle
    let recorded := addOutcome x.tag (.halted cause) told
    let declined := if cause = .linkDown then recorded else declineFollowOn x recorded
    changeNeeded x.bays 0 declined

/-- The sessions for which `p` holds halt one after another in ascending slot order (R130). -/
def haltWhere (p : Session → Bool) (cause : HaltCause) (s : State) : State :=
  allSlots.foldl
    (fun t i =>
      match t.pac.slots[i].session with
      | some x => if p x then haltSession i cause t else t
      | none => t) s

/-! ## Grants and the stage arbiter -/

/-- The ready session with the earliest next due time, the lower slot among equal ones (R120). -/
def earliestReady (s : State) : Option (Slot × Session) :=
  allSlots.foldl
    (fun best i =>
      match s.pac.slots[i].session with
      | some x =>
        if sessionReady s x then
          match best with
          | some (_, y) => if x.nextDue.toNat < y.nextDue.toNat then some (i, x) else best
          | none => some (i, x)
        else best
      | none => best) none

/-- The session after it has issued a grant on stage slot `k`: a grant record added, the next sequence up, T down, the
stall timer cleared, the grant step run, the next due time set (R119). -/
def Session.granted (s : State) (k : Nat) (x : Session) : Session :=
  let issued : Session :=
    { x with
      outstanding :=
        x.outstanding ++ [{ seq := x.nextSeq, stage := k, deadline := s.time.ms + BitVec.ofNat 32 x.profile.deadline }],
      nextSeq := x.nextSeq + 1, todo := x.todo - 1, stallAcc := 0 }
  let stepped := issued.grantStep (mayRise s issued) (ceilingOf s.share.active issued)
  { stepped with nextDue := s.time.us + BitVec.ofNat 64 (interval stepped.rate) }

/-- A grant issued by the session of slot `i` on stage slot `k` (R119). -/
def issueGrant (i : Slot) (x : Session) (k : Nat) (s : State) : State :=
  queueMsg (grantMsg x.peer x.tag x.nextSeq x.profile.deadline)
    (onSlot i (fun slot => { slot with session := some (x.granted s k) })
      (setStage k (.reserved { slot := i, tag := x.tag, seq := x.nextSeq }) s))

/-- The stage arbiter's grants, at most as many as the first argument says (R120). -/
def arbitrateN : Nat → State → State
  | 0, s => s
  | n + 1, s =>
    match lowestFree s.pac.stage, earliestReady s with
    | some k, some (i, x) => arbitrateN n (issueGrant i x k s)
    | _, _ => s

/-- The stage arbiter hands the lowest-numbered FREE stage slot to the earliest ready session until no slot is FREE or
no session is ready (R120). Every grant takes a slot, so the slots bound the grants. -/
def arbitrate (s : State) : State :=
  arbitrateN s.pac.stage.length s

/-! ## Delivery and completion -/

/-- Bytes written into the cell store. -/
def writeCells (address : Nat) (bytes : List Byte) (s : State) : State :=
  { s with cells.mem := s.cells.mem.writeRun address bytes }

/-- The part of a DELIVER frame's header that stands before the session tag: addresses, EtherType, envelope (R32,
R187, Table 12.3). The envelope's result byte, which Table 12.2 gives for requests and responses alone, is 0
(assumption log 40). -/
def deliverHead (s : State) (length : Nat) : List Byte :=
  num 6 s.host.hostAddr.toNat ++ num 6 s.cfg.linkAddr.toNat ++ num 2 s.cfg.mgmtType.toNat ++ num 2 0 ++
    num 2 0xFE01 ++ num 1 0 ++ num 1 0 ++ num 2 (16 + length)

/-- The head of the delivery FIFO taken for delivery, in RUN with the H-port UP and the delivery position empty: the
slot becomes SENDING and its header is completed (R32, R34, R126). -/
def startDelivery (s : State) : State :=
  if decide (s.pow.box = .run) && s.host.up && s.pac.delivery.isNone then
    match s.pac.fifo with
    | [] => s
    | k :: rest =>
      match s.pac.stage.getD k .free with
      | .filled owner length =>
        let base := stageAddress s.cells.part k
        hostKick
          { writeCells (base + 36) (num 1 owner.slot.val ++ num 1 0)
              (writeCells base (deliverHead s length) (setStage k (.sending owner length) s)) with
            pac.fifo := rest, pac.delivery := some k }
      | _ => s
  else s

/-- The DELIVER frame is cut off or never starts: the slot returns to FILLED at the head of the FIFO (R34, R126). -/
def returnDelivery (s : State) : State :=
  match s.pac.delivery with
  | none => s
  | some k =>
    match s.pac.stage.getD k .free with
    | .sending owner length =>
      { setStage k (.filled owner length) s with pac.delivery := none, pac.fifo := k :: s.pac.fifo }
    | _ => { s with pac.delivery := none }

/-- A DRAINING session whose blocks have all been sent completes: TALLY, outcome DONE, then the follow-on starts in
the slot or the slot becomes IDLE and gives up its bay set (R128, R129). -/
def completeSession (i : Slot) (x : Session) (s : State) : State :=
  let told := addOutcome x.tag .done (queueMsg (tallyMsg x.peer x.tag x.nb) s)
  match x.followOn with
  | some f => startSession i x.bays x.peer f told
  | none => changeNeeded x.bays 0 (onSlot i (fun slot => { slot with session := none }) told)

/-- The accounting of a sent DELIVER frame against the slot its record names (R127), and the completion that may
follow (R128). -/
def countDelivered (i : Slot) (s : State) : State :=
  let slot := s.pac.slots[i]
  if 0 < slot.leftBehind then onSlot i (fun t => { t with leftBehind := t.leftBehind - 1 }) s
  else
    match slot.session with
    | none => s
    | some x =>
      let y := { x with undelivered := x.undelivered - 1 }
      let counted := onSlot i (fun t => { t with session := some y }) s
      if y.draining ∧ y.undelivered = 0 then completeSession i y counted else counted

/-- The DELIVER frame has been sent: the slot becomes FREE, the accounting is made, the freed slot goes to the arbiter
and the next head is taken (R126, R127). -/
def deliverySent (s : State) : State :=
  match s.pac.delivery with
  | none => s
  | some k =>
    match s.pac.stage.getD k .free with
    | .sending owner _ =>
      startDelivery (arbitrate (countDelivered owner.slot { setStage k .free s with pac.delivery := none }))
    | _ => { s with pac.delivery := none }

/-- The wake-fault discard: every FILLED stage slot FREE, the FIFO empty, every left-behind count 0 (R133). -/
def discardStaged (s : State) : State :=
  { s with
    pac.stage := s.pac.stage.map fun slot => if slot.isFilled then .free else slot,
    pac.fifo := [],
    pac.slots := vecMap (fun slot => { slot with leftBehind := 0 }) s.pac.slots }

/-- The protocol error count raised by 1 (R111). -/
def protocolError (s : State) : State :=
  { s with pac.protocolErrors := satAdd s.pac.protocolErrors 1 }

end Sys2Proof.Machine
end

