-- ==== Sys2Proof/Machine/HoldOps.lean ====
section
/-! DEFINITION. The shared operations of the hold queue and its ring (chapter 4, R28 to R31). -/

namespace Sys2Proof.Machine

/-- A frame that the hold queue was handed and does not append (R65). -/
def dropHeld (s : State) : State :=
  { s with hold.drops := satAdd s.hold.drops 1 }

/-- A frame that meets a limit: dropped and counted, the overflow latch set, HOLD_OVERFLOW raised (R64). -/
def overflowHeld (limit : HoldLimit) (cls : HeldClass) (entry : Option (Fin 64)) (length : Nat) (s : State) : State :=
  raise .holdOverflow (.holdOverflow limit cls entry length s.hold.records.length s.cells.ring.used)
    { dropHeld s with hold.overflow := true }

/-- A frame allocated at the tail of the ring, written and appended to the list (R29, R63 test 5). -/
def appendHeld (frame : List Byte) (cls : HeldClass) (entry : Option (Fin 64)) (arrival : Word32) (s : State) : State :=
  let n := cellsFor frame.length
  let t := s.cells.ring.tail
  { s with
    cells.mem := writeRing s.cells.mem s.cells.part t frame,
    cells.ring.tail := (t + n) % s.cells.part.hold,
    cells.ring.used := s.cells.ring.used + n,
    hold.records := s.hold.records ++
      [{ firstCell := t, cells := n, length := frame.length, cls := cls, entry := entry, arrival := arrival,
         stale := false }] }

/-- The tests of R63 on a frame handed over, in their order. -/
def holdFrame (frame : List Byte) (cls : HeldClass) (entry : Option (Fin 64)) (arrival : Word32) (s : State) : State :=
  if s.pow.latch then dropHeld s
  else if s.hold.overflow then dropHeld s
  else if 512 ≤ s.hold.records.length then overflowHeld .records cls entry frame.length s
  else if s.cells.free < cellsFor frame.length then overflowHeld .cells cls entry frame.length s
  else appendHeld frame cls entry arrival s

/-- The head record leaves the list: its cells are freed at the head of the ring, and when the list becomes empty the
overflow latch clears (R30, R71). -/
def popHeld (s : State) : State :=
  match s.hold.records with
  | [] => s
  | r :: rest =>
    { s with
      cells.ring.head := (s.cells.ring.head + r.cells) % s.cells.part.hold,
      cells.ring.used := s.cells.ring.used - r.cells,
      hold.records := rest,
      hold.overflow := s.hold.overflow && !rest.isEmpty }

/-- A record's age: the millisecond counter less its arrival time, modulo 2^32 (R67). -/
def HeldRecord.age (r : HeldRecord) (now : Word32) : Nat :=
  (now - r.arrival).toNat

/-- The record with its stale flag at a moment: STALE from when its age is greater than the hold age limit (R67). -/
def HeldRecord.aged (limit : Nat) (now : Word32) (r : HeldRecord) : HeldRecord :=
  if limit * 1000 < r.age now then { r with stale := true } else r

/-- The steps of release, at most as many as the first argument says: a STALE head is discarded and the next taken, a
FRESH head is handed to the host link (R67 to R69). -/
def releaseN : Nat → State → State
  | 0, s => s
  | n + 1, s =>
    if decide (s.pow.box = .run) && s.host.up && !s.hold.sending then
      match s.hold.records with
      | [] => s
      | r :: _ =>
        if r.stale then
          let t := popHeld s
          releaseN n
            (raise .staleDropped (.staleDropped r.cls r.entry (r.age s.time.ms))
              { t with hold.stales := satAdd t.hold.stales 1 })
        else
          handReleased (frameData (readRing s.cells.mem s.cells.part r.firstCell r.length))
            { s with hold.sending := true }
    else s

/-- Release, from the head of the list (R67). -/
def release (s : State) : State :=
  releaseN s.hold.records.length s

/-- The record in the release position has been sent (R69, R72). -/
def heldSent (s : State) : State :=
  release { popHeld s with hold.sending := false }

/-- The record in the release position is returned and stays at the head of the list (R70). -/
def heldReturned (s : State) : State :=
  { s with hold.sending := false }

/-- The flush at a wake fault (R30, R73). -/
def flushHeld (s : State) : State :=
  { s with
    cells.ring.head := s.cells.ring.tail,
    cells.ring.used := 0,
    hold.drops := satAdd s.hold.drops s.hold.records.length,
    hold.records := [],
    hold.overflow := false,
    hold.sending := false }

end Sys2Proof.Machine
end

