-- ==== Sys2Proof/Machine/PowerOps.lean ====
section
/-! DEFINITION. The shared operations of the power controller (chapter 3), with what a loss of the H-port does to the
other blocks (R169). -/

namespace Sys2Proof.Machine

/-! ## The H-port and the rail -/

/-- The H-port becomes DOWN: the frame being sent is cut off and returned, queues are discarded, completed
programmings lose their responses, the change is reported (R164, R169, R176). -/
def portDown (s : State) : State :=
  if s.host.up then
    raise .linkChange (.linkChange .host false)
      (returnDelivery
        (heldReturned
          { s with
            host.up := false, host.responses := [], host.lpath := [], host.sending := none, host.requests := [],
            mgmt.deferred := [] }))
  else s

/-- The rail switched off: HOST_RST asserted, which ends the host link at once, then HOST_PWR_EN withdrawn (R36,
R164). -/
def railOff (s : State) : State :=
  { portDown { s with pow.rst := true } with pow.pwrEn := false }

/-- RAIL_SETTLE entered: the rail on with the host held in reset, the stabilization interval started (R40). -/
def enterRailSettle (s : State) : State :=
  { s with
    pow.box := .waking .railSettle, pow.pwrEn := true, pow.rst := true,
    pow.stabTimer := some s.pow.timing.stabilization }

/-- The box has left RUN: the heartbeat stops, share-active clears, the sessions fall to FLOOR (R37, R57, R149,
R158). -/
def leaveRun (s : State) : State :=
  fallSessions (fun _ => true)
    { s with pow.heartbeatTimer := none, share.active := false, share.timer := none }

/-! ## Wake sources -/

/-- A wake source by its name. -/
def Power.source (p : Power) : WakeName → WakeSource
  | .lan => p.lan
  | .signature => p.signature
  | .button => p.button
  | .alarm => p.alarm
  | .bay => p.bay

/-- One wake source replaced. -/
def Power.setSource (p : Power) (name : WakeName) (w : WakeSource) : Power :=
  match name with
  | .lan => { p with lan := w }
  | .signature => { p with signature := w }
  | .button => { p with button := w }
  | .alarm => { p with alarm := w }
  | .bay => { p with bay := w }

/-- Whether any wake source is pending. -/
def Power.anyPending (p : Power) : Bool :=
  p.lan.pending || p.signature.pending || p.button.pending || p.alarm.pending || p.bay.pending

/-- The bay set a source carries into a wake when it is pending (R39a, R48). -/
def WakeSource.carried (w : WakeSource) : BaySet :=
  if w.pending then w.bays else 0

/-- A source after a wake has started: no longer pending, and disabled when it was in the cause set and ONE_SHOT
(R39a). -/
def WakeSource.spent (w : WakeSource) : WakeSource :=
  { w with pending := false, enable := w.enable && !(w.pending && decide (w.arm = .oneShot)) }

/-- The union of the bay sets of the pending sources (R39a). -/
def Power.wakeBays (p : Power) : BaySet :=
  p.lan.carried ||| p.signature.carried ||| p.button.carried ||| p.alarm.carried ||| p.bay.carried

/-- The OFF bays whose needed count is above 0, demanded at a wake start (R98). -/
def neededOff (b : BayControl) : BaySet :=
  baysWhere fun i => decide (b.bays[i].state = .off) && decide (0 < b.bays[i].needed)

/-- A wake starts from the pending sources (R39a, R98). -/
def startWake (s : State) : State :=
  let p := s.pow
  enterRailSettle
    (demand (p.wakeBays ||| neededOff s.bay)
      { s with
        pow.record :=
          { causes :=
              .sources p.lan.pending p.signature.pending p.button.pending p.alarm.pending p.bay.pending,
            attempts := 1, fault := p.latch, demanded := p.wakeBays },
        pow.attempts := 1,
        pow.lan := { p.lan.spent with bays := 0 },
        pow.signature := p.signature.spent,
        pow.button := p.button.spent,
        pow.alarm := p.alarm.spent,
        pow.bay := p.bay.spent })

/-- A source made pending; a LAN event adds its bay set to the accumulated set (R47, R49). -/
def latchWake (name : WakeName) (bays : BaySet) (s : State) : State :=
  let w := s.pow.source name
  { s with
    pow := s.pow.setSource name
      { w with pending := true, bays := if name = .lan then w.bays ||| bays else w.bays } }

/-- An event on a wake source by the box state (R46, R47, Table 3.1). `bays` is the bay set of a LAN event. -/
def wakeEvent (name : WakeName) (bays : BaySet) (s : State) : State :=
  if (s.pow.source name).enable && (!s.pow.latch || decide (name = .button)) then
    match s.pow.box with
    | .sleepEntry => latchWake name bays s
    | .sleep => startWake (latchWake name bays s)
    | .run => s
    | .waking _ => s
  else s

/-- Whether an event on a source would start a wake now (R39a, R47). -/
def wouldWake (name : WakeName) (s : State) : Bool :=
  (s.pow.source name).enable && (!s.pow.latch || decide (name = .button)) && decide (s.pow.box = .sleep)

/-! ## Sleep entry, RUN reached, wake fault -/

/-- Sleep entry completes: the rail off, SLEEP reached, and a wake started when a source is pending (R39). -/
def completeEntry (s : State) : State :=
  let t := sleepReached { railOff s with pow.box := .sleep, pow.entryTimer := none }
  if t.pow.anyPending then startWake t else t

/-- Whether the next step of release would discard: the head record is STALE (R67, R68). -/
def headStale (s : State) : Bool :=
  match s.hold.records with
  | [] => false
  | r :: _ => r.stale

/-- Release and the building of notices at one event, which have no order between them (R44): the order is free where
a stale discard raises a notice kind that the build may or may not find pending (assumption log 4). -/
def releaseAndNotify (s : State) : State :=
  if headStale s then inEitherOrder release buildNotices s else release (buildNotices s)

/-- RUN is reached at the end of a wake (R44). HOST_RECOVERED becomes pending before the notice unit sends what is
pending, an order that R44 and R178 leave open (assumption log 38). -/
def runReached (s : State) : State :=
  let t : State :=
    { s with
      pow.box := .run, pow.latch := false,
      pow.heartbeatTimer := if s.pow.timing.heartbeat = 0 then none else some (s.pow.timing.heartbeat * 1000) }
  let u := if s.pow.record.causes = .hostLost then raise .hostRecovered (.hostRecovered s.pow.record.attempts) t else t
  startDelivery (releaseAndNotify u)

/-- The wake fault (R45, R73, R106, R133). -/
def wakeFault (s : State) : State :=
  arbitrate
    (sleepReached
      (discardStaged
        (haltWhere (fun _ => true) .wakeFault
          (flushHeld { s with pow.box := .sleep, pow.latch := true, pow.retryTimer := none }))))

/-! ## The clock and the alarms -/

/-- The lowest enabled alarm entry that names a minute (R53). -/
def alarmAt (alarms : Vector Alarm 8) (minute : Nat) : Option (Fin 8) :=
  (List.finRange 8).find? fun i => alarms[i].on && decide (alarms[i].minute = minute)

/-- The minute after a minute (R52). -/
def nextMinute (minute : Nat) : Nat :=
  if minute < 10079 then minute + 1 else 0

/-- The clock, when SET, enters its next minute with count 0, and the alarms of that minute make one ALARM event: the notice in
RUN, else an event of the ALARM source (R47, R52, R53). -/
def enterMinute (s : State) : State :=
  if s.pow.clock.set then
    let minute := nextMinute s.pow.clock.minute
    let t : State := { s with pow.clock := { minute := minute, count := 0, set := true, due := false } }
    match alarmAt s.pow.alarms minute with
    | none => t
    | some i => if t.pow.box = .run then raise .alarm (.alarm i minute) t else wakeEvent .alarm 0 t
  else s

end Sys2Proof.Machine
end

