-- ==== Sys2Proof/Machine/Mgmt.lean ====
section
/-! DEFINITION. Taking a management request (R172 to R176): which requests each box state takes, the checks before the
kind's own rules, the response. -/

namespace Sys2Proof.Machine

/-- What Table 10.3 says of a request of a known kind. -/
inductive Admission where
  | taken
  | refused
  | notAnswered
  deriving DecidableEq, Repr

/-- Table 10.3 (R173). -/
def admission (box : BoxState) (kind : ReqKind) : Admission :=
  match box with
  | .run => if kind = .ready then .refused else .taken
  | .sleepEntry => if kind.isRead then .taken else .refused
  | .waking .hostBoot => if kind = .ready then .taken else .refused
  | .sleep | .waking .railSettle | .waking .retryOff => .notAnswered

/-- What the kind's own rule answers: a result with data, or, for an accepted PROGRAM_RETAINED, nothing yet (R174,
R176). -/
structure Reply where
  state : State
  answer : Option (ResultCode × List Byte)

/-- A reply of OK with data. -/
def Reply.ok (s : State) (data : List Byte) : Reply := { state := s, answer := some (.ok, data) }

/-- A refusal: nothing changes, no data (R174). -/
def Reply.refuse (s : State) (code : ResultCode) : Reply := { state := s, answer := some (code, []) }

/-- The head of the request queue, which the management unit can take: no request is in hand, the response queue holds
fewer than 16 frames, and no completed programming's response waits, which claims a place there at the first moment
there is one (R172, R176). -/
def requestHead (s : State) : Option (List Byte × List (List Byte)) :=
  match s.mgmt.inHand, s.mgmt.deferred, s.host.requests with
  | none, [], f :: rest => if s.host.responses.length < 16 then some (f, rest) else none
  | _, _, _ => none

/-- The request taken from the head of the queue: its source address becomes the host address (R165, R172). -/
def dequeue (r : Request) (rest : List (List Byte)) (s : State) : State :=
  { s with host.requests := rest, host.hostAddr := r.src }

/-- A request of a kind decided in the order of R174: state, length of the parameters, the kind's own rule; then the
response is built, and `after` follows it where the request is answered OK. -/
def decideRequest (kind : ReqKind) (act : Request → List Byte → State → Reply) (after : State → State) (r : Request)
    (s : State) : State :=
  match admission s.pow.box kind with
  | .notAnswered => s
  | .refused => respond r .refusedState [] s
  | .taken =>
    match r.params with
    | none => respond r .badArgument [] s
    | some params =>
      if params.length < kind.fixedLength then respond r .badArgument [] s
      else
        let reply := act r params s
        match reply.answer with
        | none => reply.state
        | some (.ok, data) => after (respond r .ok data reply.state)
        | some (code, data) => respond r code data reply.state

/-- The management unit takes the head of the request queue when it is a request of the given kind; where the head is
another request, or none can be taken, the event does not occur and nothing changes (R172; assumption log 2). -/
def takeRequest (kind : ReqKind) (act : Request → List Byte → State → Reply) (after : State → State) (s : State) :
    State :=
  match requestHead s with
  | none => s
  | some (f, rest) =>
    match parseRequest f with
    | none => s
    | some r => if r.kind = kind.code then decideRequest kind act after r (dequeue r rest s) else s

/-- A read request or setting whose response is all that follows its own rule. -/
def takePlain (kind : ReqKind) (act : List Byte → State → Reply) (s : State) : State :=
  takeRequest kind (fun _ params t => act params t) id s

/-- Whether a box state answers a request of an unknown kind (Table 10.3). -/
def answersUnknown (box : BoxState) : Bool :=
  match box with
  | .run | .sleepEntry | .waking .hostBoot => true
  | _ => false

/-- The head of the request queue taken when it is of no kind of Table 10.5 (R173, R174 case 1, R187). -/
def takeUnknown (s : State) : State :=
  match requestHead s with
  | none => s
  | some (f, rest) =>
    match parseRequest f with
    | none => s
    | some r =>
      if (reqKindOf r.kind).isSome then s
      else if answersUnknown s.pow.box then respond r .unknownRequest [] (dequeue r rest s)
      else dequeue r rest s

/-- The head of the request queue discarded when it carries no tag or no kind (R174). -/
def discardShort (s : State) : State :=
  match requestHead s with
  | none => s
  | some (f, rest) =>
    match parseRequest f with
    | none => { s with host.requests := rest }
    | some _ => s

end Sys2Proof.Machine
end

