-- ==== Sys2Proof/Machine/Reset.lean ====
section
/-! DEFINITION. Power-on and panel reset (R185, R186): the part held in reset, and the end of the reset, which applies
the retained records and gives every block its reset state. -/

namespace Sys2Proof.Machine

/-- The factory value of a retained record in carried form (Table 11.2): records 0 and 1 from the factory address. -/
def Retained.factoryValue (r : Retained) (i : Fin 8) : List Byte :=
  if i = 0 then num 6 r.factory.toNat
  else if i = 1 then num 6 (r.factory + 1).toNat
  else factoryContents[i]

/-- The contents a record gives at a reset: its latest copy, or its factory value (R182). -/
def Retained.contents (r : Retained) (i : Fin 8) : List Byte :=
  (r.copies[i].getLast?).getD (r.factoryValue i)

/-- The partition of retained record 3 (R26). -/
def resetPartition (r : Retained) : Partition :=
  let c := r.contents 3
  let a := natAt c 0 2
  let st := natAt c 2 2
  if r.copies[(3 : Fin 8)].isEmpty then .factory
  else if partitionAllowed a st then { answer := a, hold := 4096 - a - st, stage := st, source := .retained }
  else .factory

/-- A wake source from its group of retained record 5: a value not allowed is replaced by the factory value, and the
enable is on for every value other than off (R48). -/
def resetSource (c : List Byte) (group : Nat) : WakeSource :=
  { enable := decide (byteAt c (4 * group) ≠ 0), pending := false,
    arm := (armModeOf (byteAt c (4 * group + 1))).getD .continuous,
    bays := (strictBays (byteAt c (4 * group + 2))).getD 0 }

/-- The power controller after a reset, with the clock it is given (R35, R48, R53, R58, R185). -/
def resetPower (r : Retained) (clock : Clock) : Power :=
  let c := r.contents 5
  let t := r.contents 6
  let timing := clampTiming (natAt t 0 1) (natAt t 1 1) (natAt t 2 1) (natAt t 3 1)
  let wake := decide (byteAt (r.contents 4) 0 ≠ 1)
  { box := if wake then .waking .railSettle else .sleep,
    attempts := if wake then 1 else 0,
    latch := false,
    record :=
      if wake then { causes := .powerOn, attempts := 1, fault := false, demanded := 0 }
      else { causes := .sources false false false false false, attempts := 0, fault := false, demanded := 0 },
    entryTimer := none,
    stabTimer := if wake then some timing.stabilization else none,
    bootTimer := none, retryTimer := none, heartbeatTimer := none,
    pwrEn := wake, rst := true,
    timing := timing,
    lan := { resetSource c 0 with bays := 0 },
    signature := resetSource c 1, button := resetSource c 2, alarm := resetSource c 3, bay := resetSource c 4,
    buttonEdge := (buttonEdgeOf (byteAt c 11)).getD .press,
    bayEdge := (presenceEdgeOf (byteAt c 19)).getD .insert,
    clock := clock,
    alarms := Vector.replicate 8 { on := false, minute := 0 },
    held := none }

/-- The bay controller after a reset: the presence lines read as levels, the settings of retained record 7 (R91,
R92). -/
def resetBays (r : Retained) (presence activity : BaySet) : BayControl :=
  let settings := parseBays (fun b => (activityEdgeOf b).getD .rising) (r.contents 7)
  { bays := Vector.ofFn fun i =>
      { state := if hasBay presence i then .off else .absent, settings := settings.1[i], spinTimer := none,
        idleTimer := none, needed := 0, pwr := false, present := hasBay presence i, active := hasBay activity i },
    queue := [], budget := settings.2 }

/-- Every block in its reset state (R185 steps 1 to 4), with the minute-of-week clock it is given. The retained store
keeps its records and copies, a programming in flight is gone (R183), the cells keep their contents (R26), and the
commands waiting stay. -/
def resetAll (presence activity : BaySet) (clock : Clock) (s : State) : State :=
  let r := s.ret
  let part := resetPartition r
  { State.reset with
    cells := { mem := s.cells.mem, part := part, atReset := part, ring := { head := 0, tail := 0, used := 0 } },
    pow := resetPower r clock,
    hold := { State.reset.hold with limit := clamp 1 60 (natAt (r.contents 6) 4 1) },
    bay := resetBays r presence activity,
    pac := { State.reset.pac with stage := List.replicate part.slots .free },
    share := { active := false, timer := none, window := clamp 1 60 (natAt (r.contents 6) 5 1) },
    ret := { r with inFlight := none, loaded := Vector.ofFn fun i => r.contents i },
    cfg :=
      { boxAddr := BitVec.ofNat 48 (beNat (r.contents 0)), linkAddr := BitVec.ofNat 48 (beNat (r.contents 1)),
        mgmtType := BitVec.ofNat 16 (natAt (r.contents 2) 0 2),
        pacingType := BitVec.ofNat 16 (natAt (r.contents 2) 2 2) },
    choices := s.choices,
    pending := s.pending }

/-- Milliseconds passed on a clock that runs through a panel reset, without any alarm (R52, R186). A minute whose
entering is due has had one millisecond more than its count. -/
def Clock.runOn (c : Clock) (ms : Nat) : Clock :=
  if c.set then
    let total := c.minute * 60000 + c.count + c.due.toNat + ms
    { minute := total / 60000 % 10080, count := total % 60000, set := true, due := false }
  else c

/-- The power controller of a part held in reset: its lines at their reset levels, HOST_PWR_EN withdrawn and HOST_RST
asserted, no timer running, no wake begun (R185). The box state is not yet taken from record 4: SLEEP stands in its
place (assumption log 39). -/
def Power.atResetLevels (p : Power) (ms : Nat) : Power :=
  { p with
    box := .sleep, attempts := 0,
    record := { causes := .sources false false false false false, attempts := 0, fault := false, demanded := 0 },
    stabTimer := none, pwrEn := false, rst := true, held := some ms }

/-- The part held in reset, every output at its reset level and nothing in any queue (R185, R186). The levels are those
of the presence and activity lines when the reset ends. -/
def holdReset (presence activity : BaySet) (clock : Clock) (ms : Nat) (s : State) : State :=
  let t := resetAll presence activity clock s
  { t with pow := t.pow.atResetLevels ms }

/-- The end of a reset: steps 1 to 4 of R185, with the presence lines read as levels. The clock has run on while
PANEL_RST was asserted (R186). -/
def endReset (ms : Nat) (s : State) : State :=
  resetAll (baysWhere fun i => s.bay.bays[i].present) (baysWhere fun i => s.bay.bays[i].active)
    (s.pow.clock.runOn ms) s

/-- POWER_ON (R185): the part is held in reset; the clock is UNSET, its minute and count 0 (R52). -/
def execPowerOn (presence activity : BaySet) (s : State) : Host.Outcome State Fault Refusal :=
  .next (holdReset presence activity { minute := 0, count := 0, set := false, due := false } 0 s)

/-- PANEL_RESET (R186): the part is held in reset while the line stays asserted; the clock keeps its minute, count and
set indication. -/
def execPanelReset (presence activity : BaySet) (heldMs : Nat) (s : State) : Host.Outcome State Fault Refusal :=
  .next (holdReset presence activity s.pow.clock (s.pow.held.getD 0 + heldMs) s)

end Sys2Proof.Machine
end

