-- ==== Sys2Proof/Machine/Classifier.lean ====
section
/-! DEFINITION. The classifier (chapter 1): a LAN frame taken, matched and dispatched, the bank swap, and the requests
of the Flows family. -/

namespace Sys2Proof.Machine

/-! ## The bank swap -/

/-- The bank swap: the shadow becomes active with its hit counts and the default count 0, the former active bank
becomes a LOADING shadow (R17). -/
def swapBanks (c : Classifier) : Classifier :=
  let next := c.active.other
  { c.setBank next (vecMap (fun e => { e with hits := 0 }) (c.bank next)) with
    active := next, shadow := .loading, defaultCount := 0 }

/-- The swap made when the shadow is PRIMED and no frame is in hand (R17). -/
def swapIfDue (c : Classifier) : Classifier :=
  if c.shadow = .primed ∧ c.inHand = none then swapBanks c else c

/-- The frame in hand stops being in hand, and a due swap follows before another frame is taken (R1, R17). -/
def endFrame (c : Classifier) : Classifier :=
  swapIfDue { c with inHand := none }

/-! ## A LAN frame -/

/-- The hit of a match counted, in the active bank or in the default count (R7). -/
def countMatch (m : MatchResult) (c : Classifier) : Classifier :=
  match m.entry with
  | some i => c.setBank c.active (vecMod (c.bank c.active) i fun e => { e with hits := satAdd e.hits 1 })
  | none => { c with defaultCount := satAdd c.defaultCount 1 }

/-- A question handed to the answer unit; with 4 waiting it is dropped and counted on the record it names (R89). -/
def handQuestion (q : Question) (s : State) : State :=
  if s.ans.questions.length < 4 then { s with ans.questions := s.ans.questions ++ [q] }
  else if s.ans.records[q.index].valid then
    { s with ans.records := vecMod s.ans.records q.index fun r => { r with suppressed := satAdd r.suppressed 1 } }
  else { s with ans.invalid := satAdd s.ans.invalid 1 }

/-- The class a held frame is recorded with (Table 4.1). -/
def Action.heldClass : Action → HeldClass
  | .pass => .pass
  | .share => .share
  | .backup _ => .backup
  | .proxy _ => .proxy
  | .drop => .pass

/-- Dispatch as PASS: to the host, or to the hold queue while RELEASING, in SLEEP_ENTRY, in WAKING, and in SLEEP with
wake YES (R8, R9, Table 1.4). -/
def dispatchPass (f : FrameInHand) (m : MatchResult) (s : State) : State :=
  let held := holdFrame f.frame m.action.heldClass m.entry f.arrival s
  match s.pow.box with
  | .run => if s.releasing then held else handDirect (frameData f.frame) s
  | .sleepEntry | .waking _ => held
  | .sleep => if m.wake then held else s

/-- A share report taken by the share monitor (R155, R156). -/
def shareReport (s : State) : State :=
  if s.pow.box = .run then { s with share.active := true, share.timer := some (s.share.window * 1000) } else s

/-- The frame in hand dispatched by its class and the box state (R8 to R11, Table 1.4). -/
def dispatch (f : FrameInHand) (m : MatchResult) (s : State) : State :=
  match m.action with
  | .pass => dispatchPass f m s
  | .share =>
    let passed := dispatchPass f m s
    if s.pow.box = .run then demand m.bays (shareReport passed) else passed
  | .backup profile =>
    if f.key.ethertype = s.cfg.pacingType then
      { s with
        pac.incoming := s.pac.incoming ++
          [{ peer := f.key.src, ptype := f.key.pacingType, payload := payloadOf (frameData f.frame),
             length := f.key.length, profile := profile, bays := m.bays }] }
    else dispatchPass f m s
  | .proxy answer =>
    if s.pow.box = .run then dispatchPass f m s
    else handQuestion { index := answer, data := frameData f.frame, length := f.key.length } s
  | .drop => s

/-- The wake sources the frame in hand raises: LAN for a wake-YES entry dispatched in SLEEP or SLEEP_ENTRY, SIGNATURE
for a wake signature in every state (R12, R49). Where both would start a wake, their order is free (assumption
log 4). -/
def raiseWakes (box : BoxState) (k : FrameKey) (m : MatchResult) (s : State) : State :=
  let lan := m.wake && m.entry.isSome && (decide (box = .sleep) || decide (box = .sleepEntry))
  let raiseLan := wakeEvent .lan m.bays
  let raiseSig := wakeEvent .signature 0
  if lan && k.wakeSig then
    if wouldWake .lan s && wouldWake .signature s then inEitherOrder raiseLan raiseSig s else raiseSig (raiseLan s)
  else if lan then raiseLan s
  else if k.wakeSig then raiseSig s
  else s

/-- The frame in hand of a received frame: its key and its arrival time (R1). -/
def takeInHand (frame : List Byte) (s : State) : FrameInHand :=
  { frame := frame, key := frameKey s.cfg (frameData frame) frame.length, arrival := s.time.ms }

/-- A received frame taken: the frame before it is no longer in hand; this one is matched against the active bank,
counted, dispatched, its wake sources raised (R1, R6, R7, R12). It stays in hand until the next frame is taken or time
passes (R17; assumption log 16). -/
def classifyFrame (frame : List Byte) (s : State) : State :=
  let c := endFrame s.cls
  let f := takeInHand frame s
  let m := resolve c f.key
  raiseWakes s.pow.box f.key m (dispatch f m { s with cls := { countMatch m c with inHand := some f } })

/-- LAN_FRAME_TAKEN (R1): nothing is received while the LAN link is DOWN (R170), and a bad frame is discarded. -/
def execLanFrameTaken (frame : List Byte) (s : State) : Host.Outcome State Fault Refusal :=
  .next (if s.lan.up && frameGood frame then classifyFrame frame s else s)

/-! ## Loading the shadow bank -/

/-- The loader record after an entry has been written at its pointer (R13). -/
def Loader.advanced (l : Loader) : Loader :=
  { l with
    pointer :=
      if l.pointer < l.last.val then l.pointer + 1
      else match l.mode with
        | .wrap => l.first.val
        | .stop => l.last.val + 1 }

/-- One entry written into the shadow bank at the load pointer, hit count 0 (R13). -/
def writeEntry (e : FlowEntry) (c : Classifier) : Classifier :=
  if h : c.loader.pointer < 64 then
    { c.setBank c.active.other (((c.bank c.active.other)).set c.loader.pointer { e with hits := 0 } h) with
      loader := c.loader.advanced }
  else c

/-- Entries written in order until the window is exhausted, with the number written (R13, R14). -/
def writeEntries : List FlowEntry → Classifier → Classifier × Nat
  | [], c => (c, 0)
  | e :: es, c =>
    if c.loader.exhausted then (c, 0)
    else
      let r := writeEntries es (writeEntry e c)
      (r.1, r.2 + 1)

/-- Entries written by a request: a PRIMED shadow becomes LOADING when at least one is written (R14 to R16). The
response carries the number written, the pointer and whether the window is exhausted; where the window was exhausted
before and no entry was written, it carries the count of 0 alone (R15; assumption log 3). -/
def storeEntries (es : List FlowEntry) (s : State) : Reply :=
  let r := writeEntries es s.cls
  let c := if r.2 = 0 then r.1 else { r.1 with shadow := .loading }
  .ok { s with cls := c }
    (if r.2 = 0 then num 1 0 else num 1 r.2 ++ num 1 c.loader.pointer ++ flag c.loader.exhausted)

/-- The carried entries behind their count, none where R14 refuses them or the bytes do not hold them (R14, R188,
R190). -/
def carriedEntries (b : List Byte) : Option (List FlowEntry) :=
  let n := natAt b 0 1
  if b.length = 0 ∨ n = 0 ∨ 16 < n ∨ b.length < 1 + 28 * n then none else parseEntries n (b.drop 1)

/-- LOAD_FLOWS by R14. -/
def actLoadFlows (p : List Byte) (s : State) : Reply :=
  let first := natAt p 0 1
  let last := natAt p 1 1
  match windowModeOf (byteAt p 2), carriedEntries (p.drop 3) with
  | some mode, some es =>
    if h : first ≤ last ∧ last < 64 then
      storeEntries es
        { s with
          cls.loader :=
            { first := ⟨first, Nat.lt_of_le_of_lt h.1 h.2⟩, last := ⟨last, h.2⟩, mode := mode, pointer := first } }
    else .refuse s .badArgument
  | _, _ => .refuse s .badArgument

/-- CONTINUE_FLOWS by R15. -/
def actContinueFlows (p : List Byte) (s : State) : Reply :=
  match carriedEntries p with
  | some es => storeEntries es s
  | none => .refuse s .badArgument

/-- The shadow state and the active bank as a response carries them (R16). -/
def shadowStatus (c : Classifier) : List Byte :=
  num 1 c.shadow.code ++ num 1 c.active.code

/-- SETTLE_FLOWS by R16, with the swap of R17 where no frame is in hand. -/
def actSettleFlows (_p : List Byte) (s : State) : Reply :=
  let c := swapIfDue { s.cls with shadow := .primed }
  .ok { s with cls := c } (shadowStatus c)

/-- UNSETTLE_FLOWS by R16, which gives its response no data. -/
def actUnsettleFlows (_p : List Byte) (s : State) : Reply :=
  .ok { s with cls.shadow := .loading } []

/-! ## Reading and the default action -/

/-- READ_FLOW by R18. -/
def actReadFlow (p : List Byte) (s : State) : Reply :=
  let index := natAt p 1 1
  let bank : Option Bank := match natAt p 0 1 with | 0 => some .a | 1 => some .b | _ => none
  match bank with
  | none => .refuse s .badArgument
  | some which =>
    if h : index < 64 then
      let e := (s.cls.bank which)[index]
      .ok s (e.carried ++ num 2 e.hits.toNat ++ num 1 s.cls.active.code)
    else .refuse s .badArgument

/-- The classifier status of R18. -/
def flowStatus (c : Classifier) : List Byte :=
  num 1 c.active.code ++ num 1 c.shadow.code ++ num 1 c.loader.first.val ++ num 1 c.loader.last.val ++
    num 1 c.loader.mode.code ++ num 1 c.loader.pointer ++ flag c.loader.exhausted ++ num 1 c.defaultClass.code ++
    num 2 c.defaultCount.toNat ++ ((c.bank c.active).toList.map fun e => num 2 e.hits.toNat).flatten

/-- The hit counts of the active bank and the default count made 0 (R18). -/
def clearHits (c : Classifier) : Classifier :=
  { c.setBank c.active (vecMap (fun e => { e with hits := 0 }) (c.bank c.active)) with defaultCount := 0 }

/-- READ_FLOW_STATUS by R18. -/
def actReadFlowStatus (p : List Byte) (s : State) : Reply :=
  .ok (if byteAt p 0 ≠ 0 then { s with cls := clearHits s.cls } else s) (flowStatus s.cls)

/-- SET_DEFAULT_ACTION by R19. -/
def actSetDefaultAction (p : List Byte) (s : State) : Reply :=
  match natAt p 0 1 with
  | 0 => .ok { s with cls.defaultClass := .pass } []
  | 4 => .ok { s with cls.defaultClass := .drop } []
  | _ => .refuse s .badArgument

/-! ## The commands -/

/-- LOAD_FLOWS (R14). -/
def execLoadFlows (s : State) : Host.Outcome State Fault Refusal :=
  .next (takePlain .loadFlows actLoadFlows s)

/-- CONTINUE_FLOWS (R15). -/
def execContinueFlows (s : State) : Host.Outcome State Fault Refusal :=
  .next (takePlain .continueFlows actContinueFlows s)

/-- SETTLE_FLOWS (R16, R17). -/
def execSettleFlows (s : State) : Host.Outcome State Fault Refusal :=
  .next (takePlain .settleFlows actSettleFlows s)

/-- UNSETTLE_FLOWS (R16). -/
def execUnsettleFlows (s : State) : Host.Outcome State Fault Refusal :=
  .next (takePlain .unsettleFlows actUnsettleFlows s)

/-- READ_FLOW (R18). -/
def execReadFlow (s : State) : Host.Outcome State Fault Refusal :=
  .next (takePlain .readFlow actReadFlow s)

/-- READ_FLOW_STATUS (R18). -/
def execReadFlowStatus (s : State) : Host.Outcome State Fault Refusal :=
  .next (takePlain .readFlowStatus actReadFlowStatus s)

/-- SET_DEFAULT_ACTION (R19). -/
def execSetDefaultAction (s : State) : Host.Outcome State Fault Refusal :=
  .next (takePlain .setDefaultAction actSetDefaultAction s)

end Sys2Proof.Machine
end

