-- ==== Sys2Proof/Machine/Partition.lean ====
section
/-! DEFINITION. The requests of the Partition family (chapter 2). -/

namespace Sys2Proof.Machine

/-- The conditions of R23 on the state, besides the box state, which R173 decides. -/
def storeIdle (s : State) : Bool :=
  decide (s.pow.box = .run) && s.hold.records.isEmpty && s.pac.stage.all StageSlot.isFree &&
    allSlots.all (fun i => s.pac.slots[i].session.isNone) &&
    (List.finRange 16).all (fun i => !s.ans.records[i].valid)

/-- The partition of an accepted SET_PARTITION: its source is RETAINED when the partition applied at the last reset
was, and the new values equal it (R24). -/
def newPartition (atReset : Partition) (a st : Nat) : Partition :=
  { answer := a, hold := 4096 - a - st, stage := st,
    source :=
      if atReset.source = .retained ∧ atReset.answer = a ∧ atReset.stage = st then .retained else .factory }

/-- The store repartitioned: the ring empty, every stage slot FREE, the delivery FIFO and position empty (R24). -/
def applyPartition (p : Partition) (s : State) : State :=
  { s with
    cells.part := p, cells.ring := { head := 0, tail := 0, used := 0 },
    pac.stage := List.replicate p.slots .free, pac.fifo := [], pac.delivery := none }

/-- SET_PARTITION by R22 to R24. -/
def actSetPartition (p : List Byte) (s : State) : Reply :=
  let a := natAt p 0 2
  let st := natAt p 2 2
  if !partitionAllowed a st then .refuse s .badArgument
  else if !storeIdle s then .refuse s .busy
  else
    let part := newPartition s.cells.atReset a st
    .ok (applyPartition part s) (num 2 part.answer ++ num 2 part.hold ++ num 2 part.stage ++ num 1 part.slots)

/-- READ_PARTITION by R25. -/
def actReadPartition (_p : List Byte) (s : State) : Reply :=
  let c := s.cells
  .ok s
    (num 2 c.part.answer ++ num 2 c.part.hold ++ num 2 c.part.stage ++ num 1 c.part.slots ++
      num 1 c.part.source.code ++ num 2 c.ring.head ++ num 2 c.ring.tail ++ num 2 c.ring.used ++ num 2 c.free ++
      stageCounts s.pac.stage ++ num 1 s.pac.fifo.length)

/-- SET_PARTITION (R24). -/
def execSetPartition (s : State) : Host.Outcome State Fault Refusal :=
  .next (takePlain .setPartition actSetPartition s)

/-- READ_PARTITION (R25). -/
def execReadPartition (s : State) : Host.Outcome State Fault Refusal :=
  .next (takePlain .readPartition actReadPartition s)

end Sys2Proof.Machine
end

