-- ==== Sys2Proof/Machine/Answers.lean ====
section
/-! DEFINITION. The answer unit (chapter 5): questions taken, holdoffs, and the requests of the Answers family. -/

namespace Sys2Proof.Machine

/-- One answer record changed. -/
def onRecord (i : Fin 16) (f : AnswerRecord → AnswerRecord) (s : State) : State :=
  { s with ans.records := vecMod s.ans.records i f }

/-! ## Taking a question -/

/-- Whether a source byte lies at or beyond the frame data length: the question is too short for the record (R84
test 2). -/
def AnswerRecord.tooShort (r : AnswerRecord) (dataLength : Nat) : Bool :=
  r.checks.any (fun c => decide (dataLength < c.offset + c.expected.length)) ||
    r.substs.any (fun t => decide (dataLength < t.offset + t.count))

/-- Whether every check of the record holds of the question's frame data (R84 test 3). -/
def AnswerRecord.checksHold (r : AnswerRecord) (data : List Byte) : Bool :=
  r.checks.all fun c => decide (slice data c.offset c.expected.length = c.expected)

/-- Bytes copied over a buffer at an offset (R86). -/
def overlay (buffer : List Byte) (offset : Nat) (bytes : List Byte) : List Byte :=
  buffer.take offset ++ bytes ++ buffer.drop (offset + bytes.length)

/-- The template with the substitutions applied in list order (R86). -/
def AnswerRecord.fill (r : AnswerRecord) (template data : List Byte) : List Byte :=
  r.substs.foldl (fun buffer t => overlay buffer t.target (slice data t.offset t.count)) template

/-- The template bytes of a record, read from its cells (R27, R79). -/
def templateBytes (s : State) (r : AnswerRecord) : List Byte :=
  s.cells.mem.readRun (256 * r.offset) r.length

/-- An answer built and queued (R86). -/
def buildAnswer (q : Question) (s : State) : State :=
  let r := s.ans.records[q.index]
  let built : BuiltAnswer := { record := q.index, data := r.fill (templateBytes s r) q.data }
  lanKick
    (onRecord q.index
      (fun t =>
        { t with
          answered := satAdd t.answered 1, last := some s.time.ms,
          timer := if t.holdoff = 0 then t.timer else some t.holdoff })
      { s with ans.answers := s.ans.answers ++ [built] })

/-- The tests of R84 on a question taken, in their order. -/
def answerQuestion (q : Question) (s : State) : State :=
  let r := s.ans.records[q.index]
  if !r.valid then { s with ans.invalid := satAdd s.ans.invalid 1 }
  else if r.tooShort (q.length - 4) || !r.checksHold q.data then
    onRecord q.index (fun t => { t with declined := satAdd t.declined 1 }) s
  else if r.timer.isSome || decide (4 ≤ s.ans.answers.length + s.ans.sending.isSome.toNat) then
    onRecord q.index (fun t => { t with suppressed := satAdd t.suppressed 1 }) s
  else buildAnswer q s

/-- QUESTION_TAKEN (R84, R89): the head of the question queue; none waits, nothing happens. -/
def execQuestionTaken (s : State) : Host.Outcome State Fault Refusal :=
  .next
    (match s.ans.questions with
     | [] => s
     | q :: rest => answerQuestion q { s with ans.questions := rest })

/-- HOLDOFF_EXPIRY (R85): the record's timer stops when it has run out. -/
def execHoldoffExpiry (record : Fin 16) (s : State) : Host.Outcome State Fault Refusal :=
  .next (if s.ans.records[record].timer = some 0 then onRecord record (fun r => { r with timer := none }) s else s)

/-! ## Loading and clearing records -/

/-- Whether two runs of cells meet. -/
def runsMeet (first₁ count₁ first₂ count₂ : Nat) : Bool :=
  decide (first₁ < first₂ + count₂) && decide (first₂ < first₁ + count₁)

/-- Whether the cells of a template at `offset` with `length` bytes meet those of another valid record (R81). -/
def templateMeets (s : State) (index : Fin 16) (offset length : Nat) : Bool :=
  (List.finRange 16).any fun j =>
    decide (j ≠ index) && s.ans.records[j].valid &&
      runsMeet offset (cellsFor length) s.ans.records[j].offset (cellsFor s.ans.records[j].length)

/-- Whether a check's or substitution's source passes R81: n of 1 to 16 and a request offset of at most 127. -/
def sourceAllowed (n offset : Nat) : Bool :=
  decide (1 ≤ n) && decide (n ≤ 16) && decide (offset ≤ 127)

/-- LOAD_ANSWER by R80 to R82. -/
def actLoadAnswer (p : List Byte) (s : State) : Reply :=
  let index := natAt p 0 1
  let c := natAt p 1 1
  let n := natAt p 2 1
  let offset := natAt p 4 2
  let length := natAt p 6 2
  let holdoff := clamp 0 1000 (natAt p 8 2)
  let checks := parseChecks c (p.drop 10)
  let substs := parseSubsts n (p.drop (10 + 18 * c))
  let template := p.drop (10 + 18 * c + 4 * n)
  if h : index < 16 then
    if 4 < c ∨ 4 < n ∨ p.length < 10 + 18 * c + 4 * n then .refuse s .badArgument
    else if length < 60 ∨ 1518 < length ∨ template.length ≠ length then .refuse s .badArgument
    else if s.cells.part.answer < offset + cellsFor length then .refuse s .badArgument
    else if templateMeets s ⟨index, h⟩ offset length then .refuse s .badArgument
    else if !(checks.all fun k => sourceAllowed k.2 k.1.offset) then .refuse s .badArgument
    else if !(substs.all fun t => sourceAllowed t.count t.offset && decide (t.target + t.count ≤ length)) then
      .refuse s .badArgument
    else
      .ok
        (onRecord ⟨index, h⟩
          (fun _ =>
            { valid := true, offset := offset, length := length, checks := checks.map (·.1), substs := substs,
              holdoff := holdoff, timer := none, last := none, answered := 0, suppressed := 0, declined := 0 })
          (writeCells (256 * offset) template s))
        (num 1 index ++ num 2 holdoff ++ num 1 offset ++ num 1 (offset + cellsFor length - 1))
  else .refuse s .badArgument

/-- CLEAR_ANSWER by R83. -/
def actClearAnswer (p : List Byte) (s : State) : Reply :=
  if h : natAt p 0 1 < 16 then .ok (onRecord ⟨_, h⟩ (fun r => { r with valid := false, timer := none }) s) []
  else .refuse s .badArgument

/-- A check as Table 12.5 carries it: 16 bytes for the expected bytes, zero beyond the first n. -/
def Check.carried (c : Check) : List Byte :=
  num 1 c.offset ++ num 1 c.expected.length ++ c.expected ++ List.replicate (16 - c.expected.length) 0

/-- A substitution as Table 12.5 carries it in LOAD_ANSWER: n before the answer offset. Table 5.1 lists n last, and no
table gives the form in READ_ANSWER, where the model takes this one too (assumption log 3). -/
def Subst.carried (t : Subst) : List Byte :=
  num 1 t.offset ++ num 1 t.count ++ num 2 t.target

/-- The data of READ_ANSWER (R88). The time of the last answer and its age are two fields that can be absent. The
presence byte of the time left says whether the timer runs (assumption log 3). -/
def answerStatus (s : State) (r : AnswerRecord) : List Byte :=
  flag r.valid ++ num 1 r.offset ++ num 2 r.length ++
    (num 1 r.checks.length ++ (r.checks.map Check.carried).flatten) ++
    (num 1 r.substs.length ++ (r.substs.map Subst.carried).flatten) ++ num 2 r.holdoff ++
    optField r.length (if r.valid then some (templateBytes s r) else none) ++ timeLeft r.timer ++
    optField 4 (r.last.map fun t => num 4 t.toNat) ++ optField 4 (r.last.map fun t => num 4 (s.time.ms - t).toNat) ++
    num 2 r.answered.toNat ++ num 2 r.suppressed.toNat ++ num 2 r.declined.toNat ++ num 2 s.ans.invalid.toNat ++
    num 1 s.ans.answers.length ++ flag s.ans.sending.isSome

/-- READ_ANSWER by R88. -/
def actReadAnswer (p : List Byte) (s : State) : Reply :=
  if h : natAt p 0 1 < 16 then
    let cleared : State :=
      onRecord ⟨_, h⟩ (fun r => { r with answered := 0, suppressed := 0, declined := 0 }) { s with ans.invalid := 0 }
    .ok (if byteAt p 1 ≠ 0 then cleared else s) (answerStatus s s.ans.records[natAt p 0 1])
  else .refuse s .badArgument

/-- LOAD_ANSWER (R82). -/
def execLoadAnswer (s : State) : Host.Outcome State Fault Refusal :=
  .next (takePlain .loadAnswer actLoadAnswer s)

/-- CLEAR_ANSWER (R83). -/
def execClearAnswer (s : State) : Host.Outcome State Fault Refusal :=
  .next (takePlain .clearAnswer actClearAnswer s)

/-- READ_ANSWER (R88). -/
def execReadAnswer (s : State) : Host.Outcome State Fault Refusal :=
  .next (takePlain .readAnswer actReadAnswer s)

end Sys2Proof.Machine
end

