-- ==== Sys2Proof/Machine/PowerEvents.lean ====
section
/-! DEFINITION. The events of the power controller (chapter 3): lines, timers, the button and the minute-of-week clock.
An expiry is taken when its timer has run out; an event whose timer has time left or does not run, or whose box state
has passed, changes nothing (assumption logs 2 and 14). -/

namespace Sys2Proof.Machine

/-- HOST_DOWN_ASSERTED (R36, R38): in SLEEP_ENTRY entry completes; elsewhere there is no effect. -/
def execHostDownAsserted (s : State) : Host.Outcome State Fault Refusal :=
  .next (if s.pow.box = .sleepEntry then completeEntry s else s)

/-- ENTRY_DEADLINE_EXPIRY (R38): ENTRY_FORCED becomes pending and entry completes. -/
def execEntryDeadlineExpiry (s : State) : Host.Outcome State Fault Refusal :=
  .next
    (if s.pow.box = .sleepEntry ∧ s.pow.entryTimer = some 0 then
       completeEntry (raise .entryForced (.entryForced s.pow.timing.entry) s)
     else s)

/-- STABILIZATION_EXPIRY (R40): HOST_RST released, HOST_BOOT entered, the boot deadline started. -/
def execStabilizationExpiry (s : State) : Host.Outcome State Fault Refusal :=
  .next
    (if s.pow.box = .waking .railSettle ∧ s.pow.stabTimer = some 0 then
       { s with
         pow.rst := false, pow.stabTimer := none, pow.box := .waking .hostBoot,
         pow.bootTimer := some (s.pow.timing.boot * 1000) }
     else s)

/-- The retry off interval of 2 s started and RETRY_OFF entered, with the rail off (R43, R57). -/
def enterRetryOff (s : State) : State :=
  let t := railOff s
  { t with pow.bootTimer := none, pow.retryTimer := some 2000, pow.box := .waking .retryOff }

/-- BOOT_DEADLINE_EXPIRY (R43). -/
def execBootDeadlineExpiry (s : State) : Host.Outcome State Fault Refusal :=
  .next (if s.pow.box = .waking .hostBoot ∧ s.pow.bootTimer = some 0 then enterRetryOff s else s)

/-- RETRY_OFF_EXPIRY (R43, R45): at attempt count 1 the second attempt begins; at attempt count 2 the wake has
failed. -/
def execRetryOffExpiry (s : State) : Host.Outcome State Fault Refusal :=
  .next
    (if s.pow.box = .waking .retryOff ∧ s.pow.retryTimer = some 0 then
       if s.pow.attempts = 1 then enterRailSettle { s with pow.attempts := 2, pow.retryTimer := none }
       else if s.pow.attempts = 2 then wakeFault s
       else s
     else s)

/-- HEARTBEAT_LAPSE (R57): the host is taken as lost. -/
def execHeartbeatLapse (s : State) : Host.Outcome State Fault Refusal :=
  .next
    (if s.pow.box = .run ∧ s.pow.heartbeatTimer = some 0 then
       let t := enterRetryOff (leaveRun s)
       { t with
         pow.attempts := 1,
         pow.record := { causes := .hostLost, attempts := 1, fault := false, demanded := 0 } }
     else s)

/-- BUTTON_EVENT (R50): the edge that the edge select names is the source's event; in RUN it raises the notice. A press
during a reset is not taken (R185). -/
def execButtonEvent (edge : ButtonEdge) (s : State) : Host.Outcome State Fault Refusal :=
  .next
    (if edge = s.pow.buttonEdge ∧ s.pow.held = none then
       if s.pow.box = .run then raise .button (.button edge) s else wakeEvent .button 0 s
     else s)

/-- MINUTE_ENTERED (R52, R53), taken when the tick that ends the minute has come (assumption log 15); while a reset is
held, the end of the reset says how far the clock has run on (assumption log 39). -/
def execMinuteEntered (s : State) : Host.Outcome State Fault Refusal :=
  .next (if s.pow.clock.due ∧ s.pow.held = none then enterMinute s else s)

end Sys2Proof.Machine
end

