-- ==== Sys2Proof/Machine/PowerRequests.lean ====
section
/-! DEFINITION. The requests of the Power family (chapter 3): SLEEP, READY, HEARTBEAT and the settings of wake
sources, clock, alarms and timing. The layouts that R188 leaves open are in assumption log 3. -/

namespace Sys2Proof.Machine

/-! ## Carried power state -/

/-- A wake record: the cause set as a list, attempts, fault, demanded bay set (R39, R42). -/
def WakeRecord.carried (r : WakeRecord) : List Byte :=
  num 1 r.causes.codes.length ++ (r.causes.codes.map (num 1)).flatten ++ num 1 r.attempts ++ flag r.fault ++
    baySetByte r.demanded

/-- The edge select of BUTTON and BAY; the other sources have none. -/
def Power.edgeField (p : Power) : WakeName → List Byte
  | .button => optField 1 (some (num 1 (buttonEdgeCode p.buttonEdge)))
  | .bay => optField 1 (some (num 1 p.bayEdge.code))
  | _ => optField 1 none

/-- The settings of a wake source as stored (R59). -/
def Power.sourceSettings (p : Power) (name : WakeName) : List Byte :=
  let w := p.source name
  flag w.enable ++ num 1 w.arm.code ++ baySetByte w.bays ++ p.edgeField name

/-- A wake source as READ_WAKE reports it (R60). -/
def Power.sourceStatus (p : Power) (name : WakeName) : List Byte :=
  let w := p.source name
  flag w.enable ++ flag w.pending ++ num 1 w.arm.code ++ baySetByte w.bays ++ p.edgeField name

/-- The clock: minute, count, set indication (R54, R60). -/
def Clock.carried (c : Clock) : List Byte :=
  num 2 c.minute ++ num 2 c.count ++ flag c.set

/-- The alarm table: an enable and a minute for each entry (R55, R60). -/
def alarmsCarried (alarms : Vector Alarm 8) : List Byte :=
  (alarms.toList.map fun a => flag a.on ++ num 2 a.minute).flatten

/-- The four timing settings (R58, R60). -/
def Timing.carried (t : Timing) : List Byte :=
  num 1 t.stabilization ++ num 1 t.boot ++ num 1 t.heartbeat ++ num 1 t.entry

/-! ## SLEEP, READY, HEARTBEAT -/

/-- SLEEP by R37, for the box state RUN that R173 requires. -/
def actSleep (_p : List Byte) (s : State) : Reply :=
  if allSlots.all fun i => s.pac.slots[i].session.isNone then
    let t := leaveRun s
    .ok { t with pow.box := .sleepEntry, pow.entryTimer := some (s.pow.timing.entry * 1000) } []
  else .refuse s .busy

/-- READY by R42, for the substate HOST_BOOT that R173 requires: the latch stands in the record and the response
before RUN clears it. -/
def actReady (_r : Request) (_p : List Byte) (s : State) : Reply :=
  let record := { s.pow.record with attempts := s.pow.attempts, fault := s.pow.latch }
  .ok { s with pow.bootTimer := none, pow.record := record } record.carried

/-- HEARTBEAT by R56: the timer restarts from the full window when the window is not 0. -/
def actHeartbeat (_p : List Byte) (s : State) : Reply :=
  .ok
    (if s.pow.timing.heartbeat = 0 then s
     else { s with pow.heartbeatTimer := some (s.pow.timing.heartbeat * 1000) }) []

/-! ## Settings -/

/-- The edge selects with a carried edge stored for the source it belongs to; none where R59 refuses the edge. The
first is BUTTON's, the second BAY's. -/
def storeEdges (p : Power) (name : WakeName) (edge : Byte) : Option (ButtonEdge × PresenceEdge) :=
  match name with
  | .button => (buttonEdgeOf edge).map fun e => (e, p.bayEdge)
  | .bay => (presenceEdgeOf edge).map fun e => (p.buttonEdge, e)
  | _ => some (p.buttonEdge, p.bayEdge)

/-- SET_WAKE by R59. -/
def actSetWake (p : List Byte) (s : State) : Reply :=
  match wakeNameOf (byteAt p 0), armModeOf (byteAt p 2), strictBays (byteAt p 3) with
  | some name, some arm, some bays =>
    match storeEdges s.pow name (byteAt p 4) with
    | none => .refuse s .badArgument
    | some edges =>
      let w := s.pow.source name
      let power :=
        { s.pow.setSource name
            { w with
              enable := decide (byteAt p 1 ≠ 0), arm := arm, bays := if name = .lan then w.bays else bays } with
          buttonEdge := edges.1, bayEdge := edges.2 }
      .ok { s with pow := power } (power.sourceSettings name)
  | _, _, _ => .refuse s .badArgument

/-- READ_WAKE by R60. -/
def actReadWake (_p : List Byte) (s : State) : Reply :=
  let w := s.pow
  let sub := match w.box with | .waking sub => some (num 1 sub.code) | _ => none
  .ok s
    (num 1 w.box.code ++ optField 1 sub ++ num 1 w.attempts ++ flag w.latch ++ w.record.carried ++
      w.sourceStatus .lan ++ w.sourceStatus .signature ++ w.sourceStatus .button ++ w.sourceStatus .alarm ++
      w.sourceStatus .bay ++ w.clock.carried ++ alarmsCarried w.alarms ++ w.timing.carried ++
      timeLeft w.heartbeatTimer ++ timeLeft w.entryTimer)

/-- SET_CLOCK by R54. -/
def actSetClock (p : List Byte) (s : State) : Reply :=
  let clock : Clock := { minute := clampMinute (natAt p 0 2), count := 0, set := true, due := false }
  .ok { s with pow.clock := clock } clock.carried

/-- SET_ALARMS by R55. -/
def actSetAlarms (p : List Byte) (s : State) : Reply :=
  let alarms : Vector Alarm 8 :=
    Vector.ofFn fun i =>
      { on := decide (byteAt p (3 * i.val) ≠ 0), minute := clampMinute (natAt p (3 * i.val + 1) 2) }
  .ok { s with pow.alarms := alarms } (alarmsCarried alarms)

/-- The heartbeat timer after the window's setting has changed (R58): a change to 0 stops it, a change from 0 starts
it, another change leaves it. -/
def heartbeatAfter (old new : Nat) (timer : Option Nat) : Option Nat :=
  if new = 0 then none else if old = 0 then some (new * 1000) else timer

/-- SET_TIMING by R58. -/
def actSetTiming (p : List Byte) (s : State) : Reply :=
  let timing := clampTiming (natAt p 0 1) (natAt p 1 1) (natAt p 2 1) (natAt p 3 1)
  .ok
    { s with
      pow.timing := timing,
      pow.heartbeatTimer := heartbeatAfter s.pow.timing.heartbeat timing.heartbeat s.pow.heartbeatTimer }
    timing.carried

/-! ## The commands -/

/-- SLEEP (R37). -/
def execSleep (s : State) : Host.Outcome State Fault Refusal :=
  .next (takePlain .sleep actSleep s)

/-- READY (R41, R42): the response is built, then RUN is reached (R44). -/
def execReady (s : State) : Host.Outcome State Fault Refusal :=
  .next (takeRequest .ready actReady runReached s)

/-- HEARTBEAT (R56). -/
def execHeartbeat (s : State) : Host.Outcome State Fault Refusal :=
  .next (takePlain .heartbeat actHeartbeat s)

/-- SET_WAKE (R59). -/
def execSetWake (s : State) : Host.Outcome State Fault Refusal :=
  .next (takePlain .setWake actSetWake s)

/-- READ_WAKE (R60). -/
def execReadWake (s : State) : Host.Outcome State Fault Refusal :=
  .next (takePlain .readWake actReadWake s)

/-- SET_CLOCK (R54). -/
def execSetClock (s : State) : Host.Outcome State Fault Refusal :=
  .next (takePlain .setClock actSetClock s)

/-- SET_ALARMS (R55). -/
def execSetAlarms (s : State) : Host.Outcome State Fault Refusal :=
  .next (takePlain .setAlarms actSetAlarms s)

/-- SET_TIMING (R58). -/
def execSetTiming (s : State) : Host.Outcome State Fault Refusal :=
  .next (takePlain .setTiming actSetTiming s)

end Sys2Proof.Machine
end

