-- ==== Sys2Proof/Machine/Hold.lean ====
section
/-! DEFINITION. The stale flag's event and the requests of the Hold family (chapter 4). -/

namespace Sys2Proof.Machine

/-- RECORD_STALE (R67): the record at a position of the list becomes STALE when its age is greater than the hold age
limit; the tick that first finds it so has made it STALE already (assumption log 15). -/
def execRecordStale (position : Nat) (s : State) : Host.Outcome State Fault Refusal :=
  .next { s with hold.records := s.hold.records.modify position (HeldRecord.aged s.hold.limit s.time.ms) }

/-- The number of held records of a class (R77). -/
def heldCount (records : List HeldRecord) (cls : HeldClass) : Nat :=
  records.countP fun r => decide (r.cls = cls)

/-- The five fields of the head record, each one that is absent when the list is empty (R77, R188). -/
def headFields (s : State) : List Byte :=
  let field (width : Nat) (carried : HeldRecord → List Byte) : List Byte :=
    optField width (s.hold.records.head?.map carried)
  field 1 (fun r => num 1 r.cls.code) ++ field 1 (fun r => num 1 (entryCode r.entry)) ++
    field 2 (fun r => num 2 r.length) ++ field 4 (fun r => num 4 (r.age s.time.ms)) ++
    field 1 (fun _ => flag s.hold.sending)

/-- The data of READ_HOLD (R77). RELEASING, which the rule gives in RUN alone, is absent outside RUN (R188). An entry
index NONE is FFh, as in a notice (assumption log 3). -/
def holdStatus (s : State) : List Byte :=
  num 2 s.hold.records.length ++ num 2 s.cells.ring.used ++ num 2 s.cells.free ++ num 2 s.cells.part.hold ++
    num 2 (heldCount s.hold.records .pass) ++ num 2 (heldCount s.hold.records .share) ++
    num 2 (heldCount s.hold.records .backup) ++ num 2 (heldCount s.hold.records .proxy) ++ headFields s ++
    flag s.hold.overflow ++ optField 1 (if s.pow.box = .run then some (flag s.releasing) else none) ++
    num 2 s.hold.drops.toNat ++ num 2 s.hold.stales.toNat ++ num 1 s.hold.limit

/-- READ_HOLD by R77. -/
def actReadHold (p : List Byte) (s : State) : Reply :=
  .ok (if byteAt p 0 ≠ 0 then { s with hold.drops := 0, hold.stales := 0 } else s) (holdStatus s)

/-- CLEAR_HOLD by R76: the latch as it stood before, and the record count. -/
def actClearHold (_p : List Byte) (s : State) : Reply :=
  .ok { s with hold.overflow := false } (flag s.hold.overflow ++ num 2 s.hold.records.length)

/-- READ_HOLD (R77). -/
def execReadHold (s : State) : Host.Outcome State Fault Refusal :=
  .next (takePlain .readHold actReadHold s)

/-- CLEAR_HOLD (R76). -/
def execClearHold (s : State) : Host.Outcome State Fault Refusal :=
  .next (takePlain .clearHold actClearHold s)

end Sys2Proof.Machine
end

