-- ==== Sys2Proof/Machine/Bays.lean ====
section
/-! DEFINITION. The drive bays (chapter 6): presence, spin and idle expiries, activity, and the requests of the Bays
family. -/

namespace Sys2Proof.Machine

/-! ## Presence -/

/-- A report of an insertion or removal to the power controller: an event of the BAY source where its edge select
names it (R51). -/
def presenceReport (edge : PresenceEdge) (s : State) : State :=
  if s.pow.bayEdge = edge then wakeEvent .bay 0 s else s

/-- Two consequences of a presence edge: the report to the power controller and the other one, in a free order where
the report starts a wake, since the wake's own demand reads what the other changes (R93, R94; assumption log 4). -/
def withReport (edge : PresenceEdge) (other : State → State) (s : State) : State :=
  if s.pow.bayEdge = edge ∧ wouldWake .bay s then inEitherOrder (presenceReport edge) other s
  else other (presenceReport edge s)

/-- BAY_INSERTION (R93): an ABSENT bay becomes OFF; BAY_CHANGE, the report, and the demand of a needed bay. An edge
during a reset is not taken (R185). -/
def execBayInsertion (bay : Bay) (s : State) : Host.Outcome State Fault Refusal :=
  .next
    (if s.bay.bays[bay].state = .absent ∧ s.pow.held = none then
       let t := raise .bayChange (.bayChange bay .insert .off)
         (onBay bay (fun b => { b with state := .off, present := true }) s)
       if 0 < s.bay.bays[bay].needed then withReport .insert (demand (oneBay bay)) t else presenceReport .insert t
     else s)

/-- The bay controller's own effects of a bay leaving a state without power: it leaves the spin-up queue, the head is
tried where R100 says so, and the pacing engine is told of a bay that was READY (R94, R108). -/
def takeDown (bay : Bay) (target : BayState) (s : State) : State :=
  let t := onBay bay (BayRecord.unpowered target) s
  match s.bay.bays[bay].state with
  | .queued =>
    let u : State := { t with bay.queue := s.bay.queue.filter fun b => b ≠ bay }
    if s.bay.queue.head? = some bay then tryHead u else u
  | .spinning => tryHead t
  | .ready => reportUnready bay t
  | .off | .absent => t

/-- A bay-lost report: every session of the bay halts with BAY_LOST, and the freed stage slots go to the arbiter
(R95, R130). -/
def bayLost (bay : Bay) (s : State) : State :=
  arbitrate (haltWhere (fun x => hasBay x.bays bay) .bayLost s)

/-- BAY_REMOVAL (R94): a present bay becomes ABSENT; BAY_CHANGE, the report, and the bay-lost report of a needed
bay. An edge during a reset is not taken (R185). -/
def execBayRemoval (bay : Bay) (s : State) : Host.Outcome State Fault Refusal :=
  .next
    (let left := s.bay.bays[bay].state
     if left = .absent ∨ s.pow.held ≠ none then s
     else
       let t := raise .bayChange (.bayChange bay .remove left)
         (onBay bay (fun b => { b with present := false }) (takeDown bay .absent s))
       if 0 < s.bay.bays[bay].needed then withReport .remove (bayLost bay) t else presenceReport .remove t)

/-! ## Timers and activity -/

/-- SPIN_EXPIRY (R101): the bay is READY, the idle timer of an unneeded bay starts, and the head is tried. -/
def execSpinExpiry (bay : Bay) (s : State) : Host.Outcome State Fault Refusal :=
  .next
    (if s.bay.bays[bay].state = .spinning ∧ s.bay.bays[bay].spinTimer = some 0 then
       tryHead
         (reportReady bay
           (onBay bay
             (fun b =>
               { b with
                 state := .ready, spinTimer := none,
                 idleTimer := if b.needed = 0 then b.settings.idleStart else none }) s))
     else s)

/-- IDLE_EXPIRY (R103): the bay becomes OFF and the pacing engine is told. -/
def execIdleExpiry (bay : Bay) (s : State) : Host.Outcome State Fault Refusal :=
  .next
    (if s.bay.bays[bay].state = .ready ∧ s.bay.bays[bay].idleTimer = some 0 then
       reportUnready bay (onBay bay (BayRecord.unpowered .off) s)
     else s)

/-- Whether an activity edge setting selects an edge (R104). -/
def ActivityEdge.selects : ActivityEdge → LineEdge → Bool
  | .both, _ => true
  | .rising, .rising => true
  | .falling, .falling => true
  | .rising, .falling => false
  | .falling, .rising => false

/-- ACTIVITY_EDGE (R104): a selected edge restarts the running idle timer of a READY bay; the line's level follows its
edges. Every edge restarts it, whatever level the line is held to have (assumption log 2). Which edge leaves the line
asserted the spec does not say: the model takes the rising one (assumption log 44). During a reset the line is only read
when the reset ends (R185). -/
def execActivityEdge (bay : Bay) (edge : LineEdge) (s : State) : Host.Outcome State Fault Refusal :=
  .next
    (if s.pow.held = none then
       onBay bay
         (fun b =>
           { b with
             active := decide (edge = .rising),
             idleTimer :=
               if b.state = .ready ∧ b.idleTimer.isSome ∧ b.settings.edge.selects edge then b.settings.idleStart
               else b.idleTimer }) s
     else s)

/-! ## Requests -/

/-- The spin-up queue as a list, head first (R107, R110). -/
def queueBytes (b : BayControl) : List Byte :=
  num 1 b.queue.length ++ (b.queue.map fun i => num 1 i.val).flatten

/-- SPIN_UP by R107. -/
def actSpinUp (p : List Byte) (s : State) : Reply :=
  match strictBays (byteAt p 0) with
  | none => .refuse s .badArgument
  | some set =>
    let t := demand set s
    .ok t ((allBays.map fun i => num 1 t.bay.bays[i].state.code).flatten ++ queueBytes t.bay)

/-- SPIN_DOWN by R108. A bay that is ABSENT and needed is answered NOT_FOUND: the rule gives no order to that check and
the one for BUSY (assumption log 42). -/
def actSpinDown (p : List Byte) (s : State) : Reply :=
  if h : natAt p 0 1 < 4 then
    let bay : Bay := ⟨natAt p 0 1, h⟩
    let left := s.bay.bays[bay].state
    if left = .absent then .refuse s .notFound
    else if 0 < s.bay.bays[bay].needed then .refuse s .busy
    else .ok (takeDown bay .off s) (num 1 left.code)
  else .refuse s .badArgument

/-- The idle timer of a bay after its settings have changed (R109). -/
def BayRecord.idleAfter (b : BayRecord) (new : BaySettings) : Option Nat :=
  if new.idle = 0 then none
  else if b.settings.idle = 0 ∧ b.state = .ready ∧ b.needed = 0 then new.idleStart
  else b.idleTimer

/-- The settings of one bay as carried: cost, spin interval, idle interval, activity edge (R109). -/
def BaySettings.carried (b : BaySettings) : List Byte :=
  num 1 b.cost ++ num 1 b.spin ++ num 1 b.idle ++ num 1 b.edge.code

/-- SET_BAYS by R109: the edges are checked first, then the settings are clamped and stored (R91). -/
def actSetBays (p : List Byte) (s : State) : Reply :=
  if !(allBays.all fun i => (activityEdgeOf (byteAt p (4 * i.val + 3))).isSome) then .refuse s .badArgument
  else if allBays.any fun i => decide (s.bay.bays[i].state = .queued) || decide (s.bay.bays[i].state = .spinning) then
    .refuse s .busy
  else
    let new := parseBays (fun b => (activityEdgeOf b).getD .rising) p
    .ok
      { s with
        bay.bays := Vector.ofFn fun i =>
          { s.bay.bays[i] with settings := new.1[i], idleTimer := s.bay.bays[i].idleAfter new.1[i] },
        bay.budget := new.2 }
      ((allBays.map fun i => new.1[i].carried).flatten ++ num 1 new.2)

/-- A bay as READ_BAYS reports it; at most one of its two timers runs (R110). -/
def BayRecord.carried (b : BayRecord) : List Byte :=
  num 1 b.state.code ++ b.settings.carried ++ num 1 b.needed ++
    timeLeft (if b.spinTimer.isSome then b.spinTimer else b.idleTimer)

/-- READ_BAYS by R110. The level of a line is carried as 01h for asserted and 00h for withdrawn, the presence lines
before the activity lines (assumption log 3); an activity line is asserted after a rising edge (assumption log 44). -/
def actReadBays (_p : List Byte) (s : State) : Reply :=
  let b := s.bay
  .ok s
    ((allBays.map fun i => b.bays[i].carried).flatten ++ (allBays.map fun i => flag b.bays[i].present).flatten ++
      (allBays.map fun i => flag b.bays[i].active).flatten ++ num 1 b.budget ++ num 1 b.freeBudget ++ queueBytes b)

/-- SPIN_UP (R107). -/
def execSpinUp (s : State) : Host.Outcome State Fault Refusal :=
  .next (takePlain .spinUp actSpinUp s)

/-- SPIN_DOWN (R108). -/
def execSpinDown (s : State) : Host.Outcome State Fault Refusal :=
  .next (takePlain .spinDown actSpinDown s)

/-- SET_BAYS (R109). -/
def execSetBays (s : State) : Host.Outcome State Fault Refusal :=
  .next (takePlain .setBays actSetBays s)

/-- READ_BAYS (R110). -/
def execReadBays (s : State) : Host.Outcome State Fault Refusal :=
  .next (takePlain .readBays actReadBays s)

end Sys2Proof.Machine
end

