-- ==== Sys2Proof/Machine/Sessions.lean ====
section
/-! DEFINITION. The pacing engine's messages, grants and expiries, and the requests of the Sessions family
(chapter 7). -/

namespace Sys2Proof.Machine

/-! ## Handed-over pacing frames -/

/-- The head of the handed-over pacing frames taken when it is acted on as the given message, `none` standing for a
malformed frame (R111); where the head is another frame the event does not occur (assumption log 2). -/
def takeHandover (message : Option MsgKind) (act : Handover → State → State) (s : State) : State :=
  match s.pac.incoming with
  | [] => s
  | h :: rest => if h.message = message then act h { s with pac.incoming := rest } else s

/-- The offer an OFFER carries: its tag and NB, and the profile and bay set of its handover (R116, R117). -/
def Handover.asOffer (h : Handover) : FollowOn :=
  { tag := h.tag, nb := h.nb, profile := h.profile, bays := h.bays }

/-- The lowest-numbered IDLE session slot (R115). -/
def Pacing.idleSlot (p : Pacing) : Option Slot :=
  allSlots.find? fun i => p.slots[i].session.isNone

/-- A DECLINE of an OFFER, with the OFFER's tag (R115). -/
def declineOffer (h : Handover) (reason : DeclineReason) (s : State) : State :=
  queueMsg (declineMsg h.peer h.tag reason) s

/-- The outcome of a well-formed OFFER, by the rows of Table 7.4 in their order (R115). -/
def takeOffer (h : Handover) (s : State) : State :=
  if h.nb = 0 then declineOffer h .badOffer s
  else if s.pow.latch then declineOffer h .wakeFault s
  else if s.cells.part.slots = 0 then declineOffer h .noStage s
  else
    match s.pac.slotOf h.peer with
    | some (i, x) =>
      if h.followOn && x.followOn.isNone && s.pac.profiles[h.profile].followOn then
        onSlot i (fun slot => { slot with session := some { x with followOn := some h.asOffer } }) s
      else declineOffer h .peerBusy s
    | none =>
      match s.pac.idleSlot with
      | none => declineOffer h .noSlot s
      | some i => startSession i 0 h.peer h.asOffer s

/-- The session after an accepted BLOCK: the grant record gone, the counts up, DRAINING when every block has come
(R123, R128). -/
def Session.accepted (seq : Nat) (x : Session) : Session :=
  { x with
    outstanding := x.outstanding.filter fun g => g.seq ≠ seq,
    received := x.received + 1, undelivered := x.undelivered + 1, expiries := 0,
    draining := decide (x.received + 1 = x.nb),
    stallAcc := if x.received + 1 = x.nb then 0 else x.stallAcc }

/-- An accepted BLOCK: payload and delivery header fields written, the stage slot FILLED and on the delivery FIFO, the
session's counts changed, delivery started where it can be (R32, R123, R126, Table 12.3). -/
def acceptBlock (i : Slot) (x : Session) (g : Grant) (h : Handover) (s : State) : State :=
  let base := stageAddress s.cells.part g.stage
  let written :=
    writeCells (base + 64) (slice h.payload 12 h.value)
      (writeCells (base + 22) (num 2 x.tag.toNat ++ num 4 g.seq ++ num 6 x.peer.toNat ++ num 2 h.value) s)
  let filled := setStage g.stage (.filled { slot := i, tag := x.tag, seq := g.seq } h.value) written
  startDelivery
    (onSlot i (fun slot => { slot with session := some (x.accepted g.seq) })
      { filled with
        pac.fifo := s.pac.fifo ++ [g.stage], pac.blocksTaken := satAdd s.pac.blocksTaken 1 })

/-- A stray BLOCK of a session (R124). -/
def strayBlock (i : Slot) (x : Session) (s : State) : State :=
  onSlot i (fun slot => { slot with session := some { x with strays := satAdd x.strays 1 } }) s

/-- A well-formed BLOCK: accepted, stray, or of no session (R123, R124). -/
def takeBlock (h : Handover) (s : State) : State :=
  match s.pac.slotOf h.peer with
  | none => protocolError s
  | some (i, x) =>
    if x.tag = h.tag then
      match x.outstanding.find? fun g => decide (g.seq = h.seq) with
      | some g => acceptBlock i x g h s
      | none => strayBlock i x s
    else protocolError s

/-- A WITHDRAW: the session's tag is tested before the follow-on's (R118). -/
def takeWithdraw (h : Handover) (s : State) : State :=
  match s.pac.slotOf h.peer with
  | none => protocolError s
  | some (i, x) =>
    if x.tag = h.tag then arbitrate (haltSession i .withdrawn s)
    else if x.followOn.any fun f => decide (f.tag = h.tag) then
      onSlot i (fun slot => { slot with session := some { x with followOn := none } }) s
    else protocolError s

/-- OFFER (R115 to R117). -/
def execOffer (s : State) : Host.Outcome State Fault Refusal :=
  .next (takeHandover (some .offer) takeOffer s)

/-- BLOCK (R123, R124). -/
def execBlock (s : State) : Host.Outcome State Fault Refusal :=
  .next (takeHandover (some .block) takeBlock s)

/-- WITHDRAW (R118). -/
def execWithdraw (s : State) : Host.Outcome State Fault Refusal :=
  .next (takeHandover (some .withdraw) takeWithdraw s)

/-- PACING_FRAME_MALFORMED (R111). -/
def execPacingFrameMalformed (s : State) : Host.Outcome State Fault Refusal :=
  .next (takeHandover none (fun _ t => protocolError t) s)

/-! ## Grants, expiries and halts -/

/-- GRANT_ISSUE (R119, R120). -/
def execGrantIssue (s : State) : Host.Outcome State Fault Refusal :=
  .next (arbitrate s)

/-- The session of a slot halts with a cause where a condition holds of it, and the freed stage slots go to the
arbiter (R130). -/
def haltIf (cond : State → Session → Bool) (slot : Slot) (cause : HaltCause) (s : State) : State :=
  match s.pac.slots[slot].session with
  | some x => if cond s x then arbitrate (haltSession slot cause s) else s
  | none => s

/-- SEQ_EXHAUSTED (R121). -/
def execSeqExhausted (slot : Slot) (s : State) : Host.Outcome State Fault Refusal :=
  .next (haltIf sequencesOut slot .seqExhausted s)

/-- Whether the stall timer of a session runs and its accumulated time has reached the stall limit (R122). -/
def stallOut (s : State) (x : Session) : Bool :=
  stallRuns s x && decide (x.profile.stallLimit * 1000 ≤ x.stallAcc)

/-- STALL_EXPIRY (R122). -/
def execStallExpiry (slot : Slot) (s : State) : Host.Outcome State Fault Refusal :=
  .next (haltIf stallOut slot .stalled s)

/-- The session after a grant has expired (R125). -/
def Session.expired (seq : Nat) (x : Session) : Session :=
  { x with
    outstanding := x.outstanding.filter fun g => g.seq ≠ seq, todo := x.todo + 1, expiries := x.expiries + 1 }

/-- An expired grant: record and stage slot given back, SENDER_SILENT at the expiry limit, then the arbiter (R125). -/
def expireGrant (slot : Slot) (x : Session) (g : Grant) (s : State) : State :=
  let t := onSlot slot (fun r => { r with session := some (x.expired g.seq) }) (setStage g.stage .free s)
  arbitrate (if x.expiries + 1 = x.profile.expiryLimit then haltSession slot .senderSilent t else t)

/-- The time left to a grant's deadline; a deadline that has come lies at most half the counter's range behind
(R188; assumption log 29). -/
def Grant.left (g : Grant) (now : Word32) : Nat :=
  let d := (g.deadline - now).toNat
  if d < 2147483648 then d else 0

/-- GRANT_EXPIRY (R125) of a grant still on a RUNNING session's outstanding list, whose deadline has come. -/
def execGrantExpiry (slot : Slot) (seq : Nat) (s : State) : Host.Outcome State Fault Refusal :=
  .next
    (match s.pac.slots[slot].session with
     | none => s
     | some x =>
       match x.outstanding.find? fun g => decide (g.seq = seq) with
       | some g => if x.draining = false ∧ g.left s.time.ms = 0 then expireGrant slot x g s else s
       | none => s)

/-! ## Requests -/

/-- A profile's parameters in the order of Table 7.3 (R134, R188). -/
def Profile.carried (p : Profile) : List Byte :=
  num 2 p.floor ++ num 2 p.peak ++ num 2 p.rise ++ num 2 p.fall ++ num 1 p.margin ++ num 1 p.taper.code ++
    flag p.revision ++ num 2 p.manualPoint ++ num 2 p.ceiling ++ num 1 p.window ++ num 2 p.deadline ++
    num 1 p.expiryLimit ++ num 2 p.stallLimit ++ flag p.followOn

/-- SET_PROFILE by R134 and R136. -/
def actSetProfile (p : List Byte) (s : State) : Reply :=
  if h : natAt p 0 1 < 4 then
    match parseProfile (p.drop 1) with
    | none => .refuse s .badArgument
    | some profile =>
      .ok { s with pac.profiles := s.pac.profiles.set (natAt p 0 1) profile.clamped } profile.clamped.carried
  else .refuse s .badArgument

/-- HALT_SESSION by R132. -/
def actHaltSession (p : List Byte) (s : State) : Reply :=
  if h : natAt p 0 1 < 4 then
    let slot : Slot := ⟨natAt p 0 1, h⟩
    match s.pac.slots[slot].session with
    | none => .refuse s .notFound
    | some x =>
      if x.tag.toNat = natAt p 1 2 then
        .ok (arbitrate (haltSession slot .hostHalt s)) (num 4 x.received ++ num 4 x.undelivered)
      else .refuse s .notFound
  else .refuse s .badArgument

/-- The outstanding list, each grant with the time left to its deadline right behind the deadline (R135; assumption
log 3). -/
def Session.outstandingCarried (now : Word32) (x : Session) : List Byte :=
  num 1 x.outstanding.length ++
    (x.outstanding.map fun g =>
      num 4 g.seq ++ num 1 g.stage ++ num 4 g.deadline.toNat ++ num 4 (g.left now)).flatten

/-- The profile state, a field of Table 7.2: phase, cr, P, TP and next due time (R137). -/
def Session.profileStateCarried (x : Session) : List Byte :=
  num 1 x.phase.code ++ num 2 x.rate ++ num 2 x.peak ++ num 2 x.taperPoint ++ num 8 x.nextDue.toNat

/-- The fields of Table 7.2 that only a session has, in its order. A field is a row of the table (R113), and each is one
that can be absent, with a presence byte of its own (R188): an absent list is that of no items. R135 gives no place to
the times it adds: the time left to a deadline stands behind that deadline, and the time to the next due time, a field
of its own, behind the profile state with the next due time, before the bay set. The follow-on offer, the last such
field of the table, is not among them: it is carried once, as the field that R135 names behind them (assumption
log 3). -/
def sessionFields (s : State) (session : Option Session) : List Byte :=
  let field (width : Nat) (carried : Session → List Byte) : List Byte := optField width (session.map carried)
  field 6 (fun x => num 6 x.peer.toNat) ++ field 2 (fun x => num 2 x.tag.toNat) ++ field 4 (fun x => num 4 x.nb) ++
    field 4 (fun x => num 4 x.received) ++ field 1 (Session.outstandingCarried s.time.ms) ++
    field 8 (fun x => num 8 x.nextSeq) ++ field 4 (fun x => num 4 x.todo) ++ field 4 (fun x => num 4 x.undelivered) ++
    field 1 (fun x => num 1 x.expiries) ++ field 1 (fun x => num 1 x.strays.toNat) ++
    field 5 (fun x => flag (stallRuns s x) ++ num 4 x.stallAcc) ++ field 22 (fun x => x.profile.carried) ++
    field 15 Session.profileStateCarried ++ field 8 (fun x => num 8 (x.nextDue.toNat - s.time.us.toNat)) ++
    field 1 (fun x => baySetByte x.bays)

/-- A follow-on offer as READ_SESSION reports it (R135). -/
def FollowOn.carried (f : FollowOn) : List Byte :=
  num 2 f.tag.toNat ++ num 4 f.nb ++ num 1 f.profile.val ++ baySetByte f.bays

/-- The state of a slot: IDLE 0, RUNNING 1, DRAINING 2 (Table 7.2). -/
def slotStateCode : Option Session → Nat
  | none => 0
  | some x => if x.draining then 2 else 1

/-- The time left on the share timer, which the owning rules give in every case: 4 bytes, 0 when it is stopped (R135,
R163, R188; assumption log 3). -/
def Share.left (h : Share) : List Byte :=
  num 4 (h.timer.getD 0)

/-- The data of READ_SESSION (R135). -/
def sessionStatus (slot : Slot) (s : State) : List Byte :=
  let r := s.pac.slots[slot]
  num 1 (slotStateCode r.session) ++ num 1 r.leftBehind ++ sessionFields s r.session ++
    optField 8 ((r.session.bind fun x => x.followOn).map FollowOn.carried) ++
    (s.pac.profiles.toList.map Profile.carried).flatten ++ stageCounts s.pac.stage ++ num 1 s.pac.fifo.length ++
    num 1 s.pac.queue.length ++ num 2 s.pac.protocolErrors.toNat ++ num 2 s.pac.replyLost.toNat ++
    num 4 s.pac.blocksTaken.toNat ++ flag s.share.active ++ s.share.left

/-- The counts that READ_SESSION with clear YES makes 0 (R135). -/
def clearCounts (slot : Slot) (s : State) : State :=
  onSlot slot (fun r => { r with session := r.session.map fun x => { x with strays := 0 } })
    { s with pac.protocolErrors := 0, pac.replyLost := 0, pac.blocksTaken := 0 }

/-- READ_SESSION by R135. -/
def actReadSession (p : List Byte) (s : State) : Reply :=
  if h : natAt p 0 1 < 4 then
    let slot : Slot := ⟨natAt p 0 1, h⟩
    .ok (if byteAt p 1 ≠ 0 then clearCounts slot s else s) (sessionStatus slot s)
  else .refuse s .badArgument

/-- SET_PROFILE (R134). -/
def execSetProfile (s : State) : Host.Outcome State Fault Refusal :=
  .next (takePlain .setProfile actSetProfile s)

/-- READ_SESSION (R135). -/
def execReadSession (s : State) : Host.Outcome State Fault Refusal :=
  .next (takePlain .readSession actReadSession s)

/-- HALT_SESSION (R132). -/
def execHaltSession (s : State) : Host.Outcome State Fault Refusal :=
  .next (takePlain .haltSession actHaltSession s)

/-! ## Sharing (chapter 9) -/

/-- SHARE_WINDOW_EXPIRY (R157): a timer that a report has restarted has time left and does not expire. -/
def execShareWindowExpiry (s : State) : Host.Outcome State Fault Refusal :=
  .next (if s.share.timer = some 0 then { s with share.active := false, share.timer := none } else s)

/-- SET_SHARE by R163: a running timer keeps its time left. -/
def actSetShare (p : List Byte) (s : State) : Reply :=
  let window := clamp 1 60 (natAt p 0 1)
  .ok { s with share.window := window } (num 1 window ++ flag s.share.active ++ s.share.left)

/-- SET_SHARE (R163). -/
def execSetShare (s : State) : Host.Outcome State Fault Refusal :=
  .next (takePlain .setShare actSetShare s)

end Sys2Proof.Machine
end

