-- ==== Sys2Proof/Machine/Links.lean ====
section
/-! DEFINITION. The events of the LAN port unit and the host link unit (chapter 10), the building of notices, and the
requests of no known kind. -/

namespace Sys2Proof.Machine

/-! ## The LAN link -/

/-- LAN_LINK_DOWN (R131, R170): what waits for the LAN or is being sent is discarded, every session halts with
LINK_DOWN, the change is reported. -/
def execLanLinkDown (s : State) : Host.Outcome State Fault Refusal :=
  .next
    (if s.lan.up then
       raise .linkChange (.linkChange .lan false)
         (haltWhere (fun _ => true) .linkDown
           { s with
             lan.up := false, lan.sending := none, lan.hostFrames := [], pac.queue := [], ans.answers := [],
             ans.sending := none })
     else s)

/-- LAN_LINK_UP (R170, R171): the change is reported, and the link, now free and UP, takes a waiting frame. The link
stays DOWN while a reset is held (R185). -/
def execLanLinkUp (s : State) : Host.Outcome State Fault Refusal :=
  .next (if s.lan.up || s.pow.held.isSome then s else lanKick (raise .linkChange (.linkChange .lan true) { s with lan.up := true }))

/-- LAN_FRAME_SENT (R87, R171): the frame has left, and the next one starts. -/
def execLanFrameSent (s : State) : Host.Outcome State Fault Refusal :=
  .next
    (match s.lan.sending with
     | none => s
     | some (.answer _) => lanKick { s with lan.sending := none, ans.sending := none }
     | some (.pacing _) => lanKick { s with lan.sending := none }
     | some (.host _) => lanKick { s with lan.sending := none })

/-! ## Frames from the host -/

/-- A frame from the host that is not a management frame, handed to the LAN port unit (R166, R170, R171). -/
def forwardToLan (data : List Byte) (s : State) : State :=
  if s.lan.up && decide (s.lan.hostFrames.length < 32) then
    lanKick { s with lan.hostFrames := s.lan.hostFrames ++ [data] }
  else s

/-- HOST_FRAME_RECEIVED (R166): a good frame joins the request queue or goes to the LAN. -/
def execHostFrameReceived (frame : List Byte) (s : State) : Host.Outcome State Fault Refusal :=
  .next
    (let data := frameData frame
     if s.host.up && frameGood frame then
       if etherTypeOf data = s.cfg.mgmtType then
         if s.host.requests.length < 8 then { s with host.requests := s.host.requests ++ [data] } else s
       else forwardToLan data s
     else s)

/-! ## The H-port -/

/-- Three consequences of one event that have no order between them, in the order of free choices (assumption
log 4). -/
def inAnyOrder (f g h : State → State) (s : State) : State :=
  let c := s.choices
  let t : State := { s with choices := c + 3 }
  match Config.freeChoice c, Config.freeChoice (c + 1), Config.freeChoice (c + 2) with
  | true, true, _ => h (g (f t))
  | true, false, true => g (h (f t))
  | true, false, false => g (f (h t))
  | false, true, _ => f (g (h t))
  | false, false, true => f (h (g t))
  | false, false, false => h (f (g t))

/-- H_PORT_UP (R70, R126, R164, R167, R178): the host brings its end up with the rail on and the reset released; the
arbiter acts, and in RUN the hold queue, the pacing engine and the notice unit each act on the report, with no order
among them (assumption log 4). LINK_CHANGE is raised before the notice unit builds, an order that R178 leaves open
(assumption log 38). -/
def execHPortUp (s : State) : Host.Outcome State Fault Refusal :=
  .next
    (if s.pow.pwrEn && !s.pow.rst && !s.host.up then
       let t := hostKick (raise .linkChange (.linkChange .host true) { s with host.up := true })
       if s.pow.box = .run then inAnyOrder buildNotices release startDelivery t else t
     else s)

/-- H_PORT_DOWN (R169): the host stops its end. -/
def execHPortDown (s : State) : Host.Outcome State Fault Refusal :=
  .next (portDown s)

/-- The report of a sent frame to its source (R69, R126, R167). -/
def reportSent (sent : HostSending) (s : State) : State :=
  match sent with
  | .response _ => s
  | .direct _ => s
  | .held _ => heldSent s
  | .deliver _ => deliverySent s

/-- Whether the management unit too has a claim on a place of the response queue: a request waits to be taken, or a
completed programming's response to be built (R167, R172, R176). -/
def managementClaims (s : State) : Bool :=
  !s.host.requests.isEmpty || !s.mgmt.deferred.isEmpty

/-- HOST_LINK_FRAME_SENT (R167, R178): sent is reported, the next frame starts, and where that takes a frame from the
response queue the notices that qualify are built. Where the management unit claims a place too, the first claim taken
gets it: the notices then wait for their own command (assumption log 13). What the source raises at the report,
STALE_DROPPED by release or SESSION_END by a completion, is raised before the notices are built, an order that R178
leaves open (assumption log 38). -/
def execHostLinkFrameSent (s : State) : Host.Outcome State Fault Refusal :=
  .next
    (match s.host.sending with
     | none => s
     | some f =>
       let t := hostKick (reportSent f { s with host.sending := none })
       if t.host.responses.length < s.host.responses.length ∧ managementClaims t = false then buildNotices t else t)

/-- NOTICE_BUILD (R178). -/
def execNoticeBuild (s : State) : Host.Outcome State Fault Refusal :=
  .next (buildNotices s)

/-! ## Requests of no known kind -/

/-- UNKNOWN_REQUEST (R174 case 1, R187). -/
def execUnknownRequest (s : State) : Host.Outcome State Fault Refusal :=
  .next (takeUnknown s)

/-- MGMT_FRAME_TOO_SHORT (R174). -/
def execMgmtFrameTooShort (s : State) : Host.Outcome State Fault Refusal :=
  .next (discardShort s)

end Sys2Proof.Machine
end

