-- ==== Sys2Proof/Machine/Records.lean ====
section
/-! DEFINITION. The retained store's programmings and the requests of the Notices and Retained families (chapter 11). -/

namespace Sys2Proof.Machine

/-! ## Notices -/

/-- The nine enables, then the nine pending flags (R180). -/
def enablesAndPending (n : Notices) : List Byte :=
  (n.kinds.toList.map fun k => flag k.enable).flatten ++ (n.kinds.toList.map fun k => flag k.pending).flatten

/-- SET_NOTICES by R180. -/
def actSetNotices (_r : Request) (p : List Byte) (s : State) : Reply :=
  if (List.finRange 9).all fun i => (strictFlag (byteAt p i.val)).isSome then
    let note := { s.note with
      kinds := Vector.ofFn fun i => { s.note.kinds[i] with enable := (strictFlag (byteAt p i.val)).getD false } }
    .ok { s with note := note } (enablesAndPending note)
  else .refuse s .badArgument

/-- A kind as READ_NOTICES reports it; the detail is carried behind its length (R181; assumption log 3). -/
def NoticeState.carried (n : Notices) (k : NoticeState) : List Byte :=
  let detail := keptDetail n k.detail
  flag k.enable ++ flag k.pending ++ num 1 k.count.toNat ++ num 1 detail.length ++ detail

/-- READ_NOTICES by R181: the list is carried oldest first, the lost count behind it; then everything but the enables
is cleared. -/
def actReadNotices (_p : List Byte) (s : State) : Reply :=
  let n := s.note
  .ok { s with note := allNotices.foldl (fun m kind => clearKind kind m) n }
    ((n.kinds.toList.map (NoticeState.carried n)).flatten ++
      (num 1 n.outcomes.length ++ (n.outcomes.map fun o => num 2 o.1.toNat ++ num 1 o.2.code).flatten) ++
      num 2 n.lost.toNat)

/-- SET_NOTICES (R178, R180): the response is built, then the notices that a kind's enabling makes possible. -/
def execSetNotices (s : State) : Host.Outcome State Fault Refusal :=
  .next (takeRequest .setNotices actSetNotices buildNotices s)

/-- READ_NOTICES (R181). -/
def execReadNotices (s : State) : Host.Outcome State Fault Refusal :=
  .next (takePlain .readNotices actReadNotices s)

/-! ## Programming retained records -/

/-- PROGRAM_RETAINED by R183: the checks in their order; an accepted request is answered when its programming
completes. Contents shorter than the record's are a request too short for its kind (R190). -/
def actProgramRetained (r : Request) (p : List Byte) (s : State) : Reply :=
  if h : natAt p 0 1 < 8 then
    if p.length < 1 + contentsLength (natAt p 0 1) then .refuse s .badArgument
    else if s.ret.inFlight.isSome then .refuse s .busy
    else if 3 ≤ (s.ret.copies[natAt p 0 1]).length then .refuse s .worn
    else
      { state :=
          { s with
            ret.inFlight :=
              some { index := ⟨_, h⟩, contents := slice p 1 (contentsLength (natAt p 0 1)), dst := r.src,
                     tag := r.tag } },
        answer := none }
  else .refuse s .badArgument

/-- The response to a completed programming: OK with the record index and the new program count (R183). -/
def programResponse (cfg : InForce) (d : DeferredResponse) : List Byte :=
  mgmtFrame cfg d.dst d.tag ReqKind.programRetained.code .ok (num 1 d.index.val ++ num 1 d.count)

/-- PROGRAMMING_COMPLETE (R183): the copy and the count change together, and the response is built, or waits for a
place in the response queue, behind one that waits there already (R176). -/
def execProgrammingComplete (s : State) : Host.Outcome State Fault Refusal :=
  .next
    (match s.ret.inFlight with
     | none => s
     | some p =>
       let copies := vecMod s.ret.copies p.index fun c => c ++ [p.contents]
       let t : State := { s with ret.copies := copies, ret.inFlight := none }
       let d : DeferredResponse := { dst := p.dst, tag := p.tag, index := p.index, count := copies[p.index].length }
       if s.mgmt.deferred = [] ∧ s.host.responses.length < 16 then queueResponse (programResponse s.cfg d) t
       else { t with mgmt.deferred := s.mgmt.deferred ++ [d] })

/-- PROGRAM_RESPONSE_BUILT (R176): the response that waits joins the response queue once it has a place. -/
def execProgramResponseBuilt (s : State) : Host.Outcome State Fault Refusal :=
  .next
    (match s.mgmt.deferred with
     | [] => s
     | d :: rest =>
       if s.host.responses.length < 16 then
         queueResponse (programResponse s.cfg d) { s with mgmt.deferred := rest }
       else s)

/-- READ_RETAINED by R184. Whether a programming is in flight is the presence byte of the record's index (assumption
log 3). -/
def actReadRetained (p : List Byte) (s : State) : Reply :=
  if h : natAt p 0 1 < 8 then
    let i : Fin 8 := ⟨natAt p 0 1, h⟩
    let copies := s.ret.copies[i]
    let differs := decide (s.ret.contents i ≠ s.ret.loaded[i])
    .ok s
      (num 1 copies.length ++ (num 1 copies.length ++ copies.flatten) ++ s.ret.factoryValue i ++ flag differs ++
        optField 1 (s.ret.inFlight.map fun f => num 1 f.index.val))
  else .refuse s .badArgument

/-- PROGRAM_RETAINED (R183). -/
def execProgramRetained (s : State) : Host.Outcome State Fault Refusal :=
  .next (takeRequest .programRetained actProgramRetained id s)

/-- READ_RETAINED (R184). -/
def execReadRetained (s : State) : Host.Outcome State Fault Refusal :=
  .next (takePlain .readRetained actReadRetained s)

end Sys2Proof.Machine
end

