-- ==== Sys2Proof/Machine/Time.lean ====
section
/-! DEFINITION. What happens with no command waiting (assumption log 11): a reset that is held ends (R185, R186), else
the frame in hand stops being in hand (R17) and one microsecond of the grant clock passes, at every thousandth of them
with one tick of the millisecond counter (R52, R67, R122, R153). The expiry of a timer is a command of its own; a tick
only takes from its time left. -/

namespace Sys2Proof.Machine

/-- A millisecond taken from a running timer's time left; a timer with none left waits for its expiry. -/
def runDown (timer : Option Nat) : Option Nat :=
  timer.map fun left => left - 1

/-- The timers of the power controller, one millisecond on. -/
def Power.tick (p : Power) : Power :=
  { p with
    entryTimer := runDown p.entryTimer, stabTimer := runDown p.stabTimer, bootTimer := runDown p.bootTimer,
    retryTimer := runDown p.retryTimer, heartbeatTimer := runDown p.heartbeatTimer }

/-- The stall timer of a session, one millisecond on while it runs (R122). -/
def Session.tick (s : State) (x : Session) : Session :=
  if stallRuns s x then { x with stallAcc := x.stallAcc + 1 } else x

/-- Every timer one millisecond on, each read in the state before the tick. -/
def tickTimers (s : State) : State :=
  { s with
    pow := s.pow.tick,
    share.timer := runDown s.share.timer,
    ans.records := vecMap (fun r => { r with timer := runDown r.timer }) s.ans.records,
    bay.bays := vecMap
      (fun b => { b with spinTimer := runDown b.spinTimer, idleTimer := runDown b.idleTimer }) s.bay.bays,
    pac.slots := vecMap (fun r => { r with session := r.session.map (Session.tick s) }) s.pac.slots }

/-- The stale flags at a millisecond: a record whose age exceeds the limit is STALE from then on (R67). -/
def markStale (s : State) : State :=
  { s with hold.records := s.hold.records.map (HeldRecord.aged s.hold.limit s.time.ms) }

/-- The minute-of-week clock, one millisecond on while it is SET: where the count would reach 60,000 the entering of the
next minute is due (R52). A tick that finds it still due makes it, and then counts itself (assumption log 15). -/
def tickClock (s : State) : State :=
  if s.pow.clock.set then
    if s.pow.clock.due then
      let t := enterMinute s
      { t with pow.clock.count := 1 }
    else if s.pow.clock.count + 1 < 60000 then { s with pow.clock.count := s.pow.clock.count + 1 }
    else { s with pow.clock.due := true }
  else s

/-- One tick of the millisecond counter: the counter first, then the stale flags, the timers and the clock. -/
def tickMs (s : State) : State :=
  tickClock (tickTimers (markStale { s with time.ms := s.time.ms + 1 }))

/-- One microsecond of the grant clock (R153). Both timebases start from 0 together, so every thousandth microsecond
is a tick of the millisecond counter. -/
def tick (s : State) : State :=
  let t : State := { s with time.us := s.time.us + 1 }
  if t.time.us.toNat % 1000 = 0 then tickMs t else t

/-- What happens in a step with no command waiting. -/
def idle (s : State) : State :=
  match s.pow.held with
  | some ms => endReset ms s
  | none => tick { s with cls := endFrame s.cls }

end Sys2Proof.Machine
end

