-- ==== Sys2Proof/Machine/Dispatch.lean ====
section
/-! DEFINITION. The one dispatch: each command calls its meaning. -/

namespace Sys2Proof.Machine

/-- The effect of a command on everything but the queue of waiting commands. -/
def exec (i : Instr) (s : State) : Host.Outcome State Fault Refusal :=
  match i with
  | .powerOn presence activity => Sys2Proof.Machine.execPowerOn presence activity s
  | .panelReset presence activity heldMs => Sys2Proof.Machine.execPanelReset presence activity heldMs s
  | .lanFrameTaken frame => Sys2Proof.Machine.execLanFrameTaken frame s
  | .questionTaken => Sys2Proof.Machine.execQuestionTaken s
  | .holdoffExpiry record => Sys2Proof.Machine.execHoldoffExpiry record s
  | .offer => Sys2Proof.Machine.execOffer s
  | .block => Sys2Proof.Machine.execBlock s
  | .withdraw => Sys2Proof.Machine.execWithdraw s
  | .pacingFrameMalformed => Sys2Proof.Machine.execPacingFrameMalformed s
  | .grantIssue => Sys2Proof.Machine.execGrantIssue s
  | .seqExhausted slot => Sys2Proof.Machine.execSeqExhausted slot s
  | .grantExpiry slot seq => Sys2Proof.Machine.execGrantExpiry slot seq s
  | .stallExpiry slot => Sys2Proof.Machine.execStallExpiry slot s
  | .shareWindowExpiry => Sys2Proof.Machine.execShareWindowExpiry s
  | .recordStale position => Sys2Proof.Machine.execRecordStale position s
  | .hostDownAsserted => Sys2Proof.Machine.execHostDownAsserted s
  | .entryDeadlineExpiry => Sys2Proof.Machine.execEntryDeadlineExpiry s
  | .stabilizationExpiry => Sys2Proof.Machine.execStabilizationExpiry s
  | .bootDeadlineExpiry => Sys2Proof.Machine.execBootDeadlineExpiry s
  | .retryOffExpiry => Sys2Proof.Machine.execRetryOffExpiry s
  | .heartbeatLapse => Sys2Proof.Machine.execHeartbeatLapse s
  | .buttonEvent edge => Sys2Proof.Machine.execButtonEvent edge s
  | .minuteEntered => Sys2Proof.Machine.execMinuteEntered s
  | .bayInsertion bay => Sys2Proof.Machine.execBayInsertion bay s
  | .bayRemoval bay => Sys2Proof.Machine.execBayRemoval bay s
  | .spinExpiry bay => Sys2Proof.Machine.execSpinExpiry bay s
  | .idleExpiry bay => Sys2Proof.Machine.execIdleExpiry bay s
  | .activityEdge bay edge => Sys2Proof.Machine.execActivityEdge bay edge s
  | .lanLinkDown => Sys2Proof.Machine.execLanLinkDown s
  | .lanLinkUp => Sys2Proof.Machine.execLanLinkUp s
  | .lanFrameSent => Sys2Proof.Machine.execLanFrameSent s
  | .hostFrameReceived frame => Sys2Proof.Machine.execHostFrameReceived frame s
  | .hPortUp => Sys2Proof.Machine.execHPortUp s
  | .hPortDown => Sys2Proof.Machine.execHPortDown s
  | .hostLinkFrameSent => Sys2Proof.Machine.execHostLinkFrameSent s
  | .noticeBuild => Sys2Proof.Machine.execNoticeBuild s
  | .programmingComplete => Sys2Proof.Machine.execProgrammingComplete s
  | .programResponseBuilt => Sys2Proof.Machine.execProgramResponseBuilt s
  | .unknownRequest => Sys2Proof.Machine.execUnknownRequest s
  | .mgmtFrameTooShort => Sys2Proof.Machine.execMgmtFrameTooShort s
  | .loadFlows => Sys2Proof.Machine.execLoadFlows s
  | .continueFlows => Sys2Proof.Machine.execContinueFlows s
  | .settleFlows => Sys2Proof.Machine.execSettleFlows s
  | .unsettleFlows => Sys2Proof.Machine.execUnsettleFlows s
  | .readFlow => Sys2Proof.Machine.execReadFlow s
  | .readFlowStatus => Sys2Proof.Machine.execReadFlowStatus s
  | .setDefaultAction => Sys2Proof.Machine.execSetDefaultAction s
  | .setPartition => Sys2Proof.Machine.execSetPartition s
  | .readPartition => Sys2Proof.Machine.execReadPartition s
  | .loadAnswer => Sys2Proof.Machine.execLoadAnswer s
  | .clearAnswer => Sys2Proof.Machine.execClearAnswer s
  | .readAnswer => Sys2Proof.Machine.execReadAnswer s
  | .sleep => Sys2Proof.Machine.execSleep s
  | .ready => Sys2Proof.Machine.execReady s
  | .heartbeat => Sys2Proof.Machine.execHeartbeat s
  | .setWake => Sys2Proof.Machine.execSetWake s
  | .readWake => Sys2Proof.Machine.execReadWake s
  | .setClock => Sys2Proof.Machine.execSetClock s
  | .setAlarms => Sys2Proof.Machine.execSetAlarms s
  | .setTiming => Sys2Proof.Machine.execSetTiming s
  | .readHold => Sys2Proof.Machine.execReadHold s
  | .clearHold => Sys2Proof.Machine.execClearHold s
  | .spinUp => Sys2Proof.Machine.execSpinUp s
  | .spinDown => Sys2Proof.Machine.execSpinDown s
  | .setBays => Sys2Proof.Machine.execSetBays s
  | .readBays => Sys2Proof.Machine.execReadBays s
  | .setProfile => Sys2Proof.Machine.execSetProfile s
  | .readSession => Sys2Proof.Machine.execReadSession s
  | .haltSession => Sys2Proof.Machine.execHaltSession s
  | .setShare => Sys2Proof.Machine.execSetShare s
  | .setNotices => Sys2Proof.Machine.execSetNotices s
  | .readNotices => Sys2Proof.Machine.execReadNotices s
  | .programRetained => Sys2Proof.Machine.execProgramRetained s
  | .readRetained => Sys2Proof.Machine.execReadRetained s

end Sys2Proof.Machine
end

