-- ==== Sys2Proof/Safety.lean ====
section
/-! DEFINITION. What the spec says holds of the part at all times: the conditions that statements use as invariants, and
the conditions under which a management request is taken. Each names its rule. -/

namespace Sys2Proof.Machine

/-! ## Power (chapter 3) -/

/-- The line HOST_PWR_EN that Figure 3.1 gives for a box state: asserted. -/
def BoxState.powered : BoxState → Bool
  | .run | .sleepEntry | .waking .railSettle | .waking .hostBoot => true
  | .sleep | .waking .retryOff => false

/-- The line HOST_RST that Figure 3.1 gives for a box state: asserted. -/
def BoxState.heldInReset : BoxState → Bool
  | .run | .sleepEntry | .waking .hostBoot => false
  | .sleep | .waking .railSettle | .waking .retryOff => true

/-- Figure 3.1 and R164: the two lines stand as the box state says, and the H-port is UP only while the rail is on and
the host out of reset. -/
def LinesAgree (s : State) : Prop :=
  s.pow.pwrEn = s.pow.box.powered ∧ s.pow.rst = s.pow.box.heldInReset ∧
    (s.host.up = true → s.pow.pwrEn = true ∧ s.pow.rst = false)

/-- R35: each of the first four timers runs in its own state or substate and in no other, and the heartbeat timer runs
in RUN while its window is not 0 (R56). -/
def TimersAgree (s : State) : Prop :=
  s.pow.entryTimer.isSome = decide (s.pow.box = .sleepEntry) ∧
  s.pow.stabTimer.isSome = decide (s.pow.box = .waking .railSettle) ∧
  s.pow.bootTimer.isSome = decide (s.pow.box = .waking .hostBoot) ∧
  s.pow.retryTimer.isSome = decide (s.pow.box = .waking .retryOff) ∧
  s.pow.heartbeatTimer.isSome = (decide (s.pow.box = .run) && decide (s.pow.timing.heartbeat ≠ 0))

/-- R47 with Table 3.1, note 1, and R59: the wake-fault latch is clear in RUN and SLEEP_ENTRY, and a wake source is
pending in SLEEP_ENTRY alone. -/
def LatchesAgree (s : State) : Prop :=
  (s.pow.latch = true → s.pow.box ≠ .run ∧ s.pow.box ≠ .sleepEntry) ∧
    (s.pow.anyPending = true → s.pow.box = .sleepEntry)

/-- R47 and R51: a presence edge is an event of the BAY source, enabled, with the wake-fault latch clear. -/
def BayEventHeard (edge : PresenceEdge) (s : State) : Prop :=
  s.pow.bayEdge = edge ∧ s.pow.bay.enable = true ∧ s.pow.latch = false

/-- R98 at a wake start with the demanded bay set `cause`: its bays and the OFF bays whose needed count is above 0 are
demanded, together (assumption log 19). -/
def WakeDemands (cause : BaySet) (s t : State) : Prop :=
  ∀ set : BaySet,
    (∀ b : Bay, hasBay set b =
      (hasBay cause b || (decide (s.bay.bays[b].state = .off) && decide (0 < s.bay.bays[b].needed)))) →
    t.bay = (demand set s).bay

/-- R39a and R40 from a state with the wake-fault latch clear: a wake has started from the BAY source alone. -/
def BayWakeStarted (s t : State) : Prop :=
  t.pow.box = .waking .railSettle ∧ t.pow.attempts = 1 ∧ t.pow.pwrEn = true ∧ t.pow.rst = true ∧
    t.pow.stabTimer = some s.pow.timing.stabilization ∧ t.pow.anyPending = false ∧
    t.pow.record =
      { causes := .sources false false false false true, attempts := 1, fault := false,
        demanded := s.pow.bay.bays } ∧
    t.pow.bay.enable = decide (s.pow.bay.arm = .continuous)

/-! ## Resets (R182, R185) -/

/-- R182: the contents that each retained record gives at a reset, the latest copy or with none the factory value, of
which those of records 0 and 1 come from the factory address. -/
def Retained.gives (r : Retained) (c : Fin 8 → List Byte) : Prop :=
  ∀ i : Fin 8,
    (∀ copy, r.copies[i].getLast? = some copy → c i = copy) ∧
    (r.copies[i] = [] →
      c i = if i = 0 then num 6 r.factory.toNat else if i = 1 then num 6 (r.factory + 1).toNat
        else factoryContents[i])

/-- R48: a wake source as its group of record 5 gives it, a value not allowed replaced by the factory value. The bay set
of LAN, group 0, is the accumulated one, which is empty. -/
def SourceApplied (c : List Byte) (group : Nat) (w : WakeSource) : Prop :=
  w.enable = decide (byteAt c (4 * group) ≠ 0) ∧ w.pending = false ∧
  w.arm = (if byteAt c (4 * group + 1) = 0 then .oneShot else .continuous) ∧
  w.bays =
    (if group ≠ 0 ∧ natAt c (4 * group + 2) 1 ≤ 15 then BitVec.ofNat 4 (natAt c (4 * group + 2) 1) else 0)

/-- R35: the power controller's state, wake record and timers as record 4 gives them, every value but that of
STAY_ASLEEP being WAKE. -/
def BehaviourApplied (c : List Byte) (p : Power) : Prop :=
  p.entryTimer = none ∧ p.bootTimer = none ∧ p.retryTimer = none ∧ p.heartbeatTimer = none ∧
  (byteAt c 0 = 1 →
    p.box = .sleep ∧ p.attempts = 0 ∧ p.stabTimer = none ∧
    p.record =
      { causes := .sources false false false false false, attempts := 0, fault := false, demanded := 0 }) ∧
  (byteAt c 0 ≠ 1 →
    p.box = .waking .railSettle ∧ p.attempts = 1 ∧ p.stabTimer = some p.timing.stabilization ∧
    p.record = { causes := .powerOn, attempts := 1, fault := false, demanded := 0 })

/-- R58: the four timing settings as record 6 gives them, the two from a list clamped to the nearest value, halfway to
the larger. -/
def TimingApplied (c : List Byte) (t : Timing) : Prop :=
  t.stabilization =
    (if natAt c 0 1 < 12 then 8 else if natAt c 0 1 < 24 then 16 else if natAt c 0 1 < 48 then 32 else 64) ∧
  t.boot =
    (if natAt c 1 1 < 4 then 2 else if natAt c 1 1 < 8 then 5 else if natAt c 1 1 < 20 then 10
      else if natAt c 1 1 < 45 then 30 else 60) ∧
  t.heartbeat = natAt c 2 1 ∧ t.entry = max 1 (min 60 (natAt c 3 1))

/-- R91: the spin budget and the settings of each bay as record 7 gives them, each cost at most the budget. -/
def BaysApplied (c : List Byte) (b : BayControl) : Prop :=
  b.budget = max 1 (min 8 (natAt c 16 1)) ∧
  ∀ i : Bay, b.bays[i].settings =
    { cost := min (max 1 (min 4 (natAt c (4 * i.val) 1))) b.budget,
      spin := max 1 (min 30 (natAt c (4 * i.val + 1) 1)),
      idle :=
        if natAt c (4 * i.val + 2) 1 = 0 then 0 else if natAt c (4 * i.val + 2) 1 < 8 then 5
        else if natAt c (4 * i.val + 2) 1 < 15 then 10 else if natAt c (4 * i.val + 2) 1 < 25 then 20
        else if natAt c (4 * i.val + 2) 1 < 45 then 30 else 60,
      edge :=
        if natAt c (4 * i.val + 3) 1 = 1 then .falling else if natAt c (4 * i.val + 3) 1 = 2 then .both
        else .rising }

/-- R22 and R26: the partition as record 3 gives it, the factory default where it is unprogrammed or fails a check. -/
def PartitionApplied (programmed : Bool) (c : List Byte) (p : Partition) : Prop :=
  p =
    if programmed = true ∧ 16 ≤ natAt c 0 2 ∧ natAt c 0 2 ≤ 256 ∧ natAt c 2 2 % 32 = 0 ∧
      natAt c 0 2 + natAt c 2 2 ≤ 3840 then
      { answer := natAt c 0 2, hold := 4096 - natAt c 0 2 - natAt c 2 2, stage := natAt c 2 2, source := .retained }
    else { answer := 64, hold := 2048, stage := 1984, source := .factory }

/-- R182 with the rules that Table 11.2 names: what every block has applied from the retained records of `r` in the
state after a reset. -/
def RetainedApplied (r : Retained) (t : State) : Prop :=
  ∀ c : Fin 8 → List Byte, r.gives c →
    t.cfg =
      { boxAddr := BitVec.ofNat 48 (beNat (c 0)), linkAddr := BitVec.ofNat 48 (beNat (c 1)),
        mgmtType := BitVec.ofNat 16 (natAt (c 2) 0 2), pacingType := BitVec.ofNat 16 (natAt (c 2) 2 2) } ∧
    PartitionApplied (!r.copies[(3 : Fin 8)].isEmpty) (c 3) t.cells.part ∧ t.cells.atReset = t.cells.part ∧
    BehaviourApplied (c 4) t.pow ∧
    SourceApplied (c 5) 0 t.pow.lan ∧ SourceApplied (c 5) 1 t.pow.signature ∧ SourceApplied (c 5) 2 t.pow.button ∧
    SourceApplied (c 5) 3 t.pow.alarm ∧ SourceApplied (c 5) 4 t.pow.bay ∧
    t.pow.buttonEdge = (if byteAt (c 5) 11 = 1 then .release else .press) ∧
    t.pow.bayEdge = (if byteAt (c 5) 19 = 1 then .remove else .insert) ∧
    TimingApplied (c 6) t.pow.timing ∧ t.hold.limit = max 1 (min 60 (natAt (c 6) 4 1)) ∧
    t.share.window = max 1 (min 60 (natAt (c 6) 5 1)) ∧ BaysApplied (c 7) t.bay ∧ ∀ i : Fin 8, t.ret.loaded[i] = c i

/-! ## Hold queue and ring (chapters 2 and 4) -/

/-- The cells that a list of held records takes. -/
def heldCells (records : List HeldRecord) : Nat :=
  records.foldr (fun r n => r.cells + n) 0

/-- R21, R28 and R61: the three regions add up to 4096 cells, HOLD being at least 256, the list holds at most 512
records, their cells are the used count, which is at most h, and none is held while the wake-fault latch is set. -/
def HoldAgrees (s : State) : Prop :=
  s.cells.part.answer + s.cells.part.hold + s.cells.part.stage = 4096 ∧ 256 ≤ s.cells.part.hold ∧
  s.hold.records.length ≤ 512 ∧ heldCells s.hold.records = s.cells.ring.used ∧
  s.cells.ring.used ≤ s.cells.part.hold ∧ (s.pow.latch = true → s.hold.records = [])

/-! ## Bays (chapter 6) -/

/-- R90 and R99: power is on in SPINNING and READY alone, the spin timer runs in SPINNING alone and the idle timer in
READY alone, and the spin-up queue holds each QUEUED bay once and no other. -/
def BaysAgree (s : State) : Prop :=
  (∀ i : Bay, s.bay.bays[i].pwr =
      (decide (s.bay.bays[i].state = .spinning) || decide (s.bay.bays[i].state = .ready))) ∧
  (∀ i : Bay, s.bay.bays[i].spinTimer.isSome = decide (s.bay.bays[i].state = .spinning)) ∧
  (∀ i : Bay, s.bay.bays[i].idleTimer.isSome = true → s.bay.bays[i].state = .ready) ∧
  (∀ i : Bay, i ∈ s.bay.queue ↔ s.bay.bays[i].state = .queued) ∧ s.bay.queue.Nodup

/-- R91 and R99: no cost exceeds the spin budget, nor does the sum of the costs of the SPINNING bays. -/
def BudgetKept (s : State) : Prop :=
  (∀ i : Bay, s.bay.bays[i].settings.cost ≤ s.bay.budget) ∧ s.bay.spinningCost ≤ s.bay.budget

/-- R148: the READY set holds the bays that are READY. -/
def ReadySetAgrees (s : State) : Prop :=
  ∀ i : Bay, hasBay s.pac.readySet i = decide (s.bay.bays[i].state = .ready)

/-! ## Sessions (chapters 7 and 8) -/

/-- R113, R119 and R121 of one session: received + outstanding + T is NB, the outstanding list is in ascending sequence
order below the next sequence, which is at most one above the last sequence there is. -/
def Session.lawful (x : Session) : Prop :=
  x.received + x.outstanding.length + x.todo = x.nb ∧
  x.outstanding.Pairwise (fun g h => g.seq < h.seq) ∧ (∀ g ∈ x.outstanding, g.seq < x.nextSeq) ∧
  x.nextSeq ≤ 4294967296 ∧ (x.draining = true → x.received = x.nb)

/-- R113 for every session slot. -/
def SessionsLawful (s : State) : Prop :=
  ∀ i : Slot, ∀ x, s.pac.slots[i].session = some x → x.lawful

/-- R33 and R34: the stage region gives the number of stage slots; a slot is RESERVED for the slot, tag and sequence of
an outstanding grant exactly while that grant is outstanding; the delivery FIFO holds each FILLED slot once and no other;
the slot in the delivery position is the one that is SENDING. -/
def StageAgrees (s : State) : Prop :=
  s.pac.stage.length = s.cells.part.slots ∧
  (∀ (i : Slot) (x : Session), s.pac.slots[i].session = some x → ∀ g ∈ x.outstanding,
    s.pac.stage[g.stage]? = some (.reserved { slot := i, tag := x.tag, seq := g.seq })) ∧
  (∀ (k : Nat) (o : StageOwner), s.pac.stage[k]? = some (.reserved o) →
    ∃ x : Session, s.pac.slots[o.slot].session = some x ∧ x.tag = o.tag ∧
      ∃ g ∈ x.outstanding, g.seq = o.seq ∧ g.stage = k) ∧
  s.pac.fifo.Nodup ∧
  (∀ k : Nat, k ∈ s.pac.fifo ↔ ∃ (o : StageOwner) (n : Nat), s.pac.stage[k]? = some (.filled o n)) ∧
  ∀ k : Nat, s.pac.delivery = some k ↔ ∃ (o : StageOwner) (n : Nat), s.pac.stage[k]? = some (.sending o n)

/-- R134, R136 and Table 7.3: the numbers of a stored profile are in their ranges. -/
def Profile.inRange (p : Profile) : Prop :=
  16 ≤ p.floor ∧ p.floor ≤ p.peak ∧ p.peak ≤ 16000 ∧ p.floor ≤ p.ceiling ∧ p.ceiling ≤ 16000 ∧
  1 ≤ p.rise ∧ p.rise ≤ 4095 ∧ 1 ≤ p.fall ∧ p.fall ≤ 4095 ∧ p.margin ≤ 255 ∧ p.manualPoint ≤ 65535 ∧
  1 ≤ p.window ∧ p.window ≤ 16 ∧ 2 ≤ p.deadline ∧ p.deadline ≤ 2000 ∧ 1 ≤ p.expiryLimit ∧ p.expiryLimit ≤ 15 ∧
  1 ≤ p.stallLimit ∧ p.stallLimit ≤ 600

/-- R137: a session's current rate satisfies FLOOR ≤ cr ≤ P ≤ 16,000. -/
def Session.rateInRange (x : Session) : Prop :=
  x.profile.inRange ∧ x.profile.floor ≤ x.rate ∧ x.rate ≤ x.peak ∧ x.peak ≤ 16000

/-- R136 and R137 for every profile and every session slot. -/
def RatesInRange (s : State) : Prop :=
  (∀ i : Fin 4, s.pac.profiles[i].inRange) ∧
    ∀ i : Slot, ∀ x, s.pac.slots[i].session = some x → x.rateInRange

/-- R149: a session that may still take grant steps is in phase RISE, CRUISE or YIELD only while the box is in RUN and
every bay of its bay set is in the READY set. -/
def RiseOnlyWhenReady (s : State) : Prop :=
  ∀ i : Slot, ∀ x, s.pac.slots[i].session = some x → x.draining = false →
    (x.phase = .rise ∨ x.phase = .cruise ∨ x.phase = .yield) →
    s.pow.box = .run ∧ x.bays &&& s.pac.readySet = x.bays

/-! ## Capacities -/

/-- The capacities of the queues and lists: response queue 16, request queue 8 (Table 10.1, R166), direct frames of the
L path 16 (R167), host-frame queue 32 (R171), pacing-message queue 32 (R112), question queue 4 (R89), answer queue 4 with
the answer being sent (R86, R87), held-frame list 512 (R61), outcome list 8 (R179), three copies of a retained record
with one programming in flight counted (R182, R183). -/
def WithinCapacities (s : State) : Prop :=
  s.host.responses.length ≤ 16 ∧ s.host.requests.length ≤ 8 ∧
  (s.host.lpath.filter fun f => !f.released).length ≤ 16 ∧ s.lan.hostFrames.length ≤ 32 ∧
  s.pac.queue.length ≤ 32 ∧ s.ans.questions.length ≤ 4 ∧
  s.ans.answers.length + s.ans.sending.isSome.toNat ≤ 4 ∧ s.hold.records.length ≤ 512 ∧
  s.note.outcomes.length ≤ 8 ∧
  ∀ i : Fin 8, s.ret.copies[i].length + (s.ret.inFlight.any fun p => decide (p.index = i)).toNat ≤ 3

/-! ## A request at the head of the request queue -/

/-- The head of the request queue is a request `r` of a kind, `rest` stands behind it, and the management unit can take
it: none is in hand, the response queue has room, and no completed programming's response waits for that room (R172,
R176). -/
def Waits (s : State) (kind : ReqKind) (r : Request) (rest : List (List Byte)) : Prop :=
  s.mgmt.inHand = none ∧ s.mgmt.deferred = [] ∧ s.host.responses.length < 16 ∧
    ∃ f, s.host.requests = f :: rest ∧ parseRequest f = some r ∧ r.kind = kind.code

/-- Such a request, in a box state that takes its kind (Table 10.3), with parameters `p` of at least the kind's fixed
length (R190): it reaches the kind's own rule. -/
def Taken (s : State) (kind : ReqKind) (r : Request) (p : List Byte) (rest : List (List Byte)) : Prop :=
  Waits s kind r rest ∧ admission s.pow.box kind = .taken ∧ r.params = some p ∧ kind.fixedLength ≤ p.length

/-- The command that takes a request of a kind. -/
def ReqKind.command : ReqKind → Instr
  | .loadFlows => .loadFlows
  | .continueFlows => .continueFlows
  | .settleFlows => .settleFlows
  | .unsettleFlows => .unsettleFlows
  | .readFlow => .readFlow
  | .readFlowStatus => .readFlowStatus
  | .setDefaultAction => .setDefaultAction
  | .setPartition => .setPartition
  | .readPartition => .readPartition
  | .loadAnswer => .loadAnswer
  | .clearAnswer => .clearAnswer
  | .readAnswer => .readAnswer
  | .sleep => .sleep
  | .ready => .ready
  | .heartbeat => .heartbeat
  | .setWake => .setWake
  | .readWake => .readWake
  | .setClock => .setClock
  | .setAlarms => .setAlarms
  | .setTiming => .setTiming
  | .readHold => .readHold
  | .clearHold => .clearHold
  | .spinUp => .spinUp
  | .spinDown => .spinDown
  | .setBays => .setBays
  | .readBays => .readBays
  | .setProfile => .setProfile
  | .readSession => .readSession
  | .haltSession => .haltSession
  | .setShare => .setShare
  | .setNotices => .setNotices
  | .readNotices => .readNotices
  | .programRetained => .programRetained
  | .readRetained => .readRetained

/-! ## A received LAN frame -/

/-- A good LAN frame with the LAN link UP, its key, and the result of its match against the bank that is active once the
frame before it is no longer in hand (R1, R6, R17). -/
def Received (s : State) (frame : List Byte) (k : FrameKey) (m : MatchResult) : Prop :=
  s.lan.up = true ∧ frameGood frame = true ∧ k = frameKey s.cfg (frameData frame) frame.length ∧
    m = resolve (endFrame s.cls) k

/-- The classifier after such a frame has been taken: its match is counted in the active bank, and it is in hand with
the time of its arrival (R1, R7, R17). -/
def classifierTaking (frame : List Byte) (k : FrameKey) (m : MatchResult) (s : State) : Classifier :=
  { countMatch m (endFrame s.cls) with inHand := some { frame := frame, key := k, arrival := s.time.ms } }

/-- R12: where such a frame, handed over as in the state `u`, leaves the part in the state `t`. Its wake events touch the
power controller, and in SLEEP the bays that a wake demands; the frame stays where its class took it. With no event that
the power controller hears (R47) nothing at all is added. The count `choices` is the model's own (assumption log 4). -/
def WakesRaised (s : State) (k : FrameKey) (m : MatchResult) (u t : State) : Prop :=
  t = { u with pow := t.pow, bay := t.bay, choices := t.choices } ∧
  (s.pow.box ≠ .sleep → t = { u with pow := t.pow }) ∧
  (s.pow.box = .run ∨ (∃ sub, s.pow.box = .waking sub) ∨ s.pow.latch = true ∨
    ((m.wake && m.entry.isSome && s.pow.lan.enable) = false ∧ (k.wakeSig && s.pow.signature.enable) = false) → t = u)

/-! ## The shadow bank's window -/

/-- R14 with note 1 of Table 12.4: the 28 bytes of a carried entry for which a request is refused: an unknown class, a
profile index above 3, an answer index above 15, a dst port range that ends below its start. -/
def EntryRefused (b : List Byte) : Prop :=
  4 < natAt b 23 1 ∨ (natAt b 23 1 = 2 ∧ 3 < natAt b 26 1) ∨ (natAt b 23 1 = 3 ∧ 15 < natAt b 26 1) ∨
    (natAt b 2 2 / 32 % 2 = 1 ∧ natAt b 20 2 < natAt b 18 2)

/-- R14 and R190: the count and the entries for which a request is refused: a count of 0 or above 16, or one that needs
more bytes than there are, or an entry refused. -/
def EntriesRefused (b : List Byte) : Prop :=
  natAt b 0 1 = 0 ∨ 16 < natAt b 0 1 ∨ b.length < 1 + 28 * natAt b 0 1 ∨
    ∃ i < natAt b 0 1, EntryRefused (slice b (1 + 28 * i) 28)

/-- R14 and R188: the bytes carry 1 to 16 entries behind their count. -/
def Carries (b : List Byte) (es : List FlowEntry) : Prop :=
  natAt b 0 1 = es.length ∧ 1 ≤ es.length ∧ es.length ≤ 16 ∧ 1 + 28 * es.length ≤ b.length ∧
    ∀ i : Fin es.length, parseEntry (slice b (1 + 28 * i.val) 28) = some es[i]

/-- R13: the load pointer once `n` entries have been written from it on; in WRAP mode it returns to the window's start
behind its end. -/
def Loader.after (l : Loader) (n : Nat) : Nat :=
  if l.mode = .wrap ∧ l.last.val < l.pointer + n then
    l.first.val + (l.pointer + n - (l.last.val + 1)) % (l.last.val + 1 - l.first.val)
  else l.pointer + n

/-- R14: how many of `n` carried entries are written: in WRAP mode all of them, else as many as the window still
takes. -/
def Loader.written (l : Loader) (n : Nat) : Nat :=
  if l.mode = .wrap ∧ l.first ≤ l.last then n else min n (l.last.val + 1 - l.pointer)

/-- R13 to R16: entries `es` written by a request into the shadow bank of `c` under the loader record `l` leave `d`, and
the response carries `data`. Of two entries written at one index the later stands there. -/
def FlowsWritten (l : Loader) (es : List FlowEntry) (c d : Classifier) (data : List Byte) : Prop :=
  d.active = c.active ∧ d.bank c.active = c.bank c.active ∧ d.shadow = .loading ∧
  d.defaultClass = c.defaultClass ∧ d.defaultCount = c.defaultCount ∧ d.inHand = c.inHand ∧
  d.loader = { l with pointer := l.after (l.written es.length) } ∧
  data =
    num 1 (l.written es.length) ++ num 1 d.loader.pointer ++ flag (decide (l.last.val < d.loader.pointer)) ∧
  ∀ j : Fin 64,
    ((∀ i < l.written es.length, l.after i ≠ j.val) → (d.bank c.active.other)[j] = (c.bank c.active.other)[j]) ∧
    ∀ i < l.written es.length, l.after i = j.val →
      (∀ later < l.written es.length, i < later → l.after later ≠ j.val) →
      (d.bank c.active.other)[j] = { es.getD i .blank with hits := 0 }

end Sys2Proof.Machine
end

