-- ==== Sys2Proof/Certificates/Slice0/Obligations.lean ====
section
/-! DEFINITION. The statements for the provers, in the order of the spec's chapters. -/

open Sys2Proof Sys2Proof.Machine

/-! ## The machine and its resets -/

/-- O1. A step runs the command that stands first in the queue of waiting commands, on the state with the rest of the
queue. -/
def Obligations.StepRunsTheFrontCommand : Prop :=
  ∀ (c : Instr) (rest : List Instr) (s : State), s.pending = c :: rest → step s = exec c { s with pending := rest }

/-- O2. With no command waiting and no reset held, a step ends the frame in hand, which makes the bank swap that waits
for it, and lets one microsecond of the grant clock pass; between the ticks of the millisecond counter nothing else
changes. Every thousandth microsecond is such a tick: a record whose age has passed the hold age limit is STALE, every
running timer loses a millisecond, the stall time of a ready session grows while no stage slot is FREE, and a SET clock
counts; at 60,000 its minute is due, and a tick that finds it still due does all this and then what MINUTE_ENTERED
does, counting itself. That an idle step is a microsecond, ends the frame in hand and leaves expiries and due minutes
to their commands is the model's own (assumption logs 11, 14, 15 and 16). That an idle step builds no pending notice
and issues no grant that falls due is the model's own too (assumption logs 21 and 17). -/
def Obligations.IdleStepLetsAMicrosecondPass : Prop :=
  ∀ s : State, s.pending = [] → s.pow.held = none → ∃ t, step s = .next t ∧ t.pending = [] ∧
    t.time.us = s.time.us + 1 ∧ t.cls = endFrame s.cls ∧
    ((s.time.us + 1).toNat % 1000 ≠ 0 → t = { s with time.us := s.time.us + 1, cls := endFrame s.cls }) ∧
    ((s.time.us + 1).toNat % 1000 = 0 →
      t.time.ms = s.time.ms + 1 ∧ ∃ w : State,
      w = { s with
            time := t.time, cls := t.cls, pow := w.pow, hold := w.hold, ans := w.ans, bay := w.bay, pac := w.pac,
            share := w.share } ∧
      w.share = { s.share with timer := s.share.timer.map fun left => left - 1 } ∧
      w.hold =
        { s.hold with
          records := s.hold.records.map fun r =>
            if s.hold.limit * 1000 < (s.time.ms + 1 - r.arrival).toNat then { r with stale := true } else r } ∧
      (∃ records, w.ans = { s.ans with records := records } ∧ ∀ i : Fin 16, records[i] =
        { s.ans.records[i] with timer := s.ans.records[i].timer.map fun left => left - 1 }) ∧
      (∃ slots, w.pac = { s.pac with slots := slots } ∧ ∀ i : Slot, slots[i] =
        { s.pac.slots[i] with
          session := s.pac.slots[i].session.map fun x =>
            if sessionReady w x = true ∧ ∀ slot ∈ s.pac.stage, slot ≠ .free then
              { x with stallAcc := x.stallAcc + 1 }
            else x }) ∧
      (∃ bays, w.bay = { s.bay with bays := bays } ∧ ∀ i : Bay, bays[i] =
        { s.bay.bays[i] with
          spinTimer := s.bay.bays[i].spinTimer.map fun left => left - 1,
          idleTimer := s.bay.bays[i].idleTimer.map fun left => left - 1 }) ∧
      w.pow =
        { s.pow with
          entryTimer := s.pow.entryTimer.map fun left => left - 1,
          stabTimer := s.pow.stabTimer.map fun left => left - 1,
          bootTimer := s.pow.bootTimer.map fun left => left - 1,
          retryTimer := s.pow.retryTimer.map fun left => left - 1,
          heartbeatTimer := s.pow.heartbeatTimer.map fun left => left - 1 } ∧
      (s.pow.clock.set = false → t = w) ∧
      (s.pow.clock.set = true → s.pow.clock.due = false →
        t = { w with
              pow.clock :=
                if s.pow.clock.count + 1 < 60000 then { s.pow.clock with count := s.pow.clock.count + 1 }
                else { s.pow.clock with due := true } }) ∧
      (s.pow.clock.set = true → s.pow.clock.due = true → ∃ v, exec .minuteEntered w = .next v ∧
        t = { v with pow.clock.count := 1 } ∧
        t.pow.clock =
          { minute := if s.pow.clock.minute < 10079 then s.pow.clock.minute + 1 else 0, count := 1, set := true,
            due := false }))

/-- O3. Every command of the table ends in a next state, and leaves the queue of waiting commands as it is. That no
command stops, that none adds to the queue and that a reset keeps it are the model's own (assumption logs 36, 12 and
26). -/
def Obligations.EveryCommandKeepsTheWaitingQueue : Prop :=
  ∀ (c : Instr) (s : State), ∃ t, exec c s = .next t ∧ t.pending = s.pending

/-- O4. The state after reset holds the values that the spec gives for reset with an unprogrammed retained store, whose
factory values are those of Table 11.2. That the store is unprogrammed and that the reset is no longer held in this
state is the model's choice (assumption logs 6 and 39). -/
def Obligations.ResetHoldsTheValuesOfTheSpec : Prop :=
  State.reset.time = { ms := 0, us := 0 } ∧ State.reset.lan.up = false ∧ State.reset.host.up = false ∧
  State.reset.host.hostAddr = 0xFFFFFFFFFFFF ∧ State.reset.cls.active = .a ∧ State.reset.cls.shadow = .loading ∧
  State.reset.cls.loader = { first := 0, last := 63, mode := .stop, pointer := 0 } ∧
  (∀ i : Fin 64, State.reset.cls.bankA[i] = .blank ∧ State.reset.cls.bankB[i] = .blank) ∧
  State.reset.cells.part = { answer := 64, hold := 2048, stage := 1984, source := .factory } ∧
  State.reset.cells.ring = { head := 0, tail := 0, used := 0 } ∧
  State.reset.pow.held = none ∧ State.reset.pow.box = .waking .railSettle ∧ State.reset.pow.attempts = 1 ∧
  State.reset.pow.latch = false ∧
  State.reset.pow.record = { causes := .powerOn, attempts := 1, fault := false, demanded := 0 } ∧
  State.reset.pow.timing = { stabilization := 32, boot := 30, heartbeat := 0, entry := 10 } ∧
  State.reset.hold.records = [] ∧ State.reset.hold.limit = 10 ∧ State.reset.share.window = 5 ∧
  State.reset.share.active = false ∧ (∀ i : Fin 16, State.reset.ans.records[i].valid = false) ∧
  State.reset.bay.budget = 2 ∧ State.reset.bay.queue = [] ∧
  (∀ i : Slot, State.reset.pac.slots[i] = { session := none, leftBehind := 0 }) ∧
  (∀ i : Fin 4, State.reset.pac.profiles[i] = .default) ∧ State.reset.pac.readySet = 0 ∧
  (∀ i : Fin 9, State.reset.note.kinds[i] = { pending := false, enable := true, count := 0, detail := none }) ∧
  State.reset.cfg.mgmtType = 0x88B6 ∧ State.reset.cfg.pacingType = 0x88B5 ∧
  State.reset.ret.loaded = factoryContents ∧ factoryContents[(2 : Fin 8)] = num 2 0x88B6 ++ num 2 0x88B5 ∧
  factoryContents[(3 : Fin 8)] = num 2 64 ++ num 2 1984 ∧ factoryContents[(4 : Fin 8)] = [0] ∧
  factoryContents[(6 : Fin 8)] = num 1 32 ++ num 1 30 ++ num 1 0 ++ num 1 10 ++ num 1 10 ++ num 1 5 ∧
  factoryContents[(7 : Fin 8)] = (List.replicate 4 (num 1 1 ++ num 1 8 ++ num 1 20 ++ num 1 0)).flatten ++ num 1 2

/-- O5. POWER_ON and PANEL_RESET hold the part in reset: HOST_PWR_EN withdrawn, HOST_RST asserted, every BAY_PWRn
withdrawn, both links DOWN, and no command but another reset has any effect. When the reset ends, every block takes its
reset state, whatever the state before: timebases at 0, links DOWN, tables and queues empty, the pacing counts 0, the
release position empty, no notice pending, the bays OFF or ABSENT as their presence lines say with their timers
stopped, WAKING or SLEEP as retained record 4 names, the lines as that state says; the cells' contents and the retained
copies stay and a programming in flight is gone. Each retained record is applied, by its latest copy or its factory
value: addresses and EtherTypes, partition, wake record with attempts and stabilization timer, wake sources, timing,
hold age limit, share window, bay settings; the alarm table is off. PANEL_RESET leaves what POWER_ON leaves, but for
the minute-of-week clock: it keeps its set indication, an UNSET clock stays as it is, and a SET clock has run on,
modulo one week, for as long as the line was asserted, a minute whose entering was due counted in. That the reset ends
in the first step with no command waiting is the model's choice (assumption log 39), as are a minute that is due (log
15) and a PANEL_RESET that carries the time of its assertion as one command (log 25). -/
def Obligations.PowerOnResetsEveryBlock : Prop :=
  (∀ (presence activity : BaySet) (s : State), ∃ h t, exec (.powerOn presence activity) s = .next h ∧
    h.pow.pwrEn = false ∧ h.pow.rst = true ∧ (∀ i : Bay, h.bay.bays[i].pwr = false) ∧ h.lan.up = false ∧
    h.host.up = false ∧
    (∀ c : Instr, (∀ a b, c ≠ .powerOn a b) → (∀ a b n, c ≠ .panelReset a b n) → exec c h = .next h) ∧
    step { h with pending := [] } = .next t ∧ t.pow.held = none ∧
    t.time = { ms := 0, us := 0 } ∧ t.lan = State.reset.lan ∧ t.cls = State.reset.cls ∧ t.ans = State.reset.ans ∧
    t.host = State.reset.host ∧ t.mgmt = State.reset.mgmt ∧ t.note = State.reset.note ∧
    t.hold.records = [] ∧ t.hold.overflow = false ∧ t.hold.drops = 0 ∧ t.hold.stales = 0 ∧ t.hold.sending = false ∧
    t.cells.ring = { head := 0, tail := 0, used := 0 } ∧ t.cells.mem = s.cells.mem ∧
    t.pac.slots = State.reset.pac.slots ∧ t.pac.profiles = State.reset.pac.profiles ∧ t.pac.fifo = [] ∧
    t.pac.delivery = none ∧ t.pac.readySet = 0 ∧ t.pac.queue = [] ∧ t.pac.incoming = [] ∧ t.pac.protocolErrors = 0 ∧
    t.pac.replyLost = 0 ∧ t.pac.blocksTaken = 0 ∧
    t.pac.stage = List.replicate (t.cells.part.stage / 32) .free ∧
    t.share.active = false ∧ t.share.timer = none ∧ t.bay.queue = [] ∧
    (∀ i : Bay, t.bay.bays[i].state = (if hasBay presence i then .off else .absent) ∧
      t.bay.bays[i].pwr = false ∧ t.bay.bays[i].needed = 0 ∧ t.bay.bays[i].spinTimer = none ∧
      t.bay.bays[i].idleTimer = none) ∧
    t.ret.copies = s.ret.copies ∧ t.ret.inFlight = none ∧
    t.pow.latch = false ∧ t.pow.clock = { minute := 0, count := 0, set := false, due := false } ∧
    t.pow.box = (if byteAt (s.ret.contents 4) 0 = 1 then .sleep else .waking .railSettle) ∧
    t.pow.pwrEn = decide (byteAt (s.ret.contents 4) 0 ≠ 1) ∧ t.pow.rst = true ∧ RetainedApplied s.ret t ∧
    ∀ i : Fin 8, t.pow.alarms[i] = { on := false, minute := 0 }) ∧
  ∀ (presence activity : BaySet) (held : Nat) (s : State), ∃ g h t u,
    exec (.panelReset presence activity held) s = .next h ∧ exec (.powerOn presence activity) s = .next g ∧
    h.pow.pwrEn = false ∧ h.pow.rst = true ∧ (∀ i : Bay, h.bay.bays[i].pwr = false) ∧ h.lan.up = false ∧
    h.host.up = false ∧
    (∀ c : Instr, (∀ a b, c ≠ .powerOn a b) → (∀ a b n, c ≠ .panelReset a b n) → exec c h = .next h) ∧
    step { h with pending := [] } = .next t ∧ step { g with pending := [] } = .next u ∧
    t = { u with pow.clock := t.pow.clock } ∧ t.pow.clock.set = s.pow.clock.set ∧
    (s.pow.clock.set = false → t.pow.clock = s.pow.clock) ∧
    (s.pow.clock.set = true →
      t.pow.clock.minute * 60000 + t.pow.clock.count =
        (s.pow.clock.minute * 60000 + s.pow.clock.count + s.pow.clock.due.toNat + s.pow.held.getD 0 + held) %
          604800000)

/-! ## The classifier -/

/-- O6. The key of a frame: dst kind, src address, the vlan id of one tag, the ethertype behind it, the ip protocol of
IPv4 and IPv6, the dst port of TCP and UDP in a first fragment, syn where the TCP flags are there, the pacing type of a
full pacing header, the wake signature anywhere in the payload. A valid entry meets a key when each of its nine
conditions is ANY, or names the value that the field has; a value on an absent field is not met. A key is resolved by
the lowest-numbered such entry of the active bank, and by the default action when there is none; the match raises that
entry's hit count, or the default count, by 1, as far as a saturating count goes, and no other entry of the bank
changes. That BOX comes before the other kinds, and that a pacing EtherType of 8100h has its pacing type, is the
model's choice (assumption logs 43 and 41). -/
def Obligations.TheLowestMatchingEntryWins : Prop :=
  (∀ (cfg : InForce) (data pl : List Byte) (length et proto start flags : Nat) (firstFragment : Prop) (k : FrameKey),
    60 ≤ data.length → k = frameKey cfg data length →
    et = (if natAt data 12 2 = 0x8100 then natAt data 16 2 else natAt data 12 2) →
    pl = data.drop (if natAt data 12 2 = 0x8100 then 18 else 14) →
    proto = natAt pl (if et = 0x0800 then 9 else 6) 1 →
    (firstFragment ↔ (et = 0x0800 ∧ 5 ≤ natAt pl 0 1 % 16 ∧ natAt pl 6 2 % 8192 = 0) ∨ et = 0x86DD) →
    start = (if et = 0x0800 then 4 * (natAt pl 0 1 % 16) else 40) → flags = natAt pl (start + 13) 1 →
    payloadOf data = pl ∧ k.length = length ∧ k.src.toNat = natAt data 6 6 ∧ k.ethertype.toNat = et ∧
    k.dstKind =
      (if natAt data 0 6 = cfg.boxAddr.toNat then .box else if natAt data 0 6 = 0xFFFFFFFFFFFF then .broadcast
       else if natAt data 0 1 % 2 = 1 then .multicast else .other) ∧
    (natAt data 12 2 = 0x8100 → k.vlan = some (BitVec.ofNat 12 (natAt data 14 2))) ∧
    (natAt data 12 2 ≠ 0x8100 → k.vlan = none) ∧
    (et = 0x0800 ∨ et = 0x86DD → k.ipProto = some (BitVec.ofNat 8 proto)) ∧
    (et ≠ 0x0800 → et ≠ 0x86DD → k.ipProto = none) ∧
    (firstFragment ∧ (proto = 6 ∨ proto = 17) ∧ start + 4 ≤ pl.length →
      k.dstPort = some (BitVec.ofNat 16 (natAt pl (start + 2) 2))) ∧
    (¬(firstFragment ∧ (proto = 6 ∨ proto = 17) ∧ start + 4 ≤ pl.length) → k.dstPort = none) ∧
    (firstFragment ∧ proto = 6 ∧ start + 14 ≤ pl.length →
      k.syn = some (decide (flags / 2 % 2 = 1 ∧ flags / 16 % 2 = 0))) ∧
    (¬(firstFragment ∧ proto = 6 ∧ start + 14 ≤ pl.length) → k.syn = none) ∧
    (et = cfg.pacingType.toNat ∧ 12 ≤ pl.length → k.pacingType = some (BitVec.ofNat 8 (natAt pl 0 1))) ∧
    (¬(et = cfg.pacingType.toNat ∧ 12 ≤ pl.length) → k.pacingType = none) ∧
    (k.wakeSig = true ↔ ∃ before after, pl =
      before ++ (List.replicate 6 255 ++ (List.replicate 16 (num 6 cfg.boxAddr.toNat)).flatten) ++ after)) ∧
  (∀ (w : Nat) (count : BitVec w) (n : Nat), (satAdd count n).toNat = min (count.toNat + n) (2 ^ w - 1)) ∧
  (∀ (e : FlowEntry) (k : FrameKey), e.meets k = true ↔
    e.valid = true ∧ (∀ x, e.dstKind = some x → k.dstKind = x) ∧ (∀ x, e.src = some x → k.src = x) ∧
    (∀ x, e.vlan = some x → k.vlan = some x) ∧ (∀ x, e.ethertype = some x → k.ethertype = x) ∧
    (∀ x, e.ipProto = some x → k.ipProto = some x) ∧
    (∀ x, e.dstPort = some x → ∃ port, k.dstPort = some port ∧ x.lo.toNat ≤ port.toNat ∧ port.toNat ≤ x.hi.toNat) ∧
    (∀ x, e.syn = some x → k.syn = some x) ∧ (∀ x, e.pacingType = some x → k.pacingType = some x) ∧
    ∀ x, e.wakeSig = some x → k.wakeSig = x) ∧
  ∀ (c : Classifier) (k : FrameKey),
    (∀ i : Fin 64, (c.bank c.active)[i].meets k = true → (∀ j : Fin 64, j < i → (c.bank c.active)[j].meets k = false) →
      resolve c k =
          { entry := some i, action := (c.bank c.active)[i].action, wake := (c.bank c.active)[i].wake,
            bays := (c.bank c.active)[i].bays } ∧
        (∀ j : Fin 64, ((countMatch (resolve c k) c).bank c.active)[j] =
          if j = i then
            { (c.bank c.active)[j] with hits := satAdd (c.bank c.active)[j].hits 1 }
          else (c.bank c.active)[j]) ∧
        (countMatch (resolve c k) c).defaultCount = c.defaultCount) ∧
    ((∀ j : Fin 64, (c.bank c.active)[j].meets k = false) →
      (resolve c k).entry = none ∧ (resolve c k).wake = false ∧ (resolve c k).bays = 0 ∧
        (resolve c k).action = (if c.defaultClass = .pass then .pass else .drop) ∧
        countMatch (resolve c k) c = { c with defaultCount := satAdd c.defaultCount 1 })

/-- O7. LAN_FRAME_TAKEN: nothing is taken while the LAN link is DOWN, nor a frame whose length or frame check sequence
is wrong; of the others, one of class DROP is only counted, a pacing frame of class BACKUP is handed to the pacing
engine in every box state, and one of class PROXY outside RUN becomes a question while fewer than 4 wait; with 4
waiting it is dropped and raises the suppressed count of the record it names, or the invalid count when that record is
invalid. The frame is then the one in hand. That is where the frame goes whether or not it raises a wake source: a wake
event that is heard adds its changes to the power controller, and in SLEEP to the bays, and to nothing else. That
receipt and taking are one instant, and the count of free choices that two wakes at once advance, are the model's
choice (assumption logs 16 and 4). -/
def Obligations.FramesAreHandedOverByClass : Prop :=
  (∀ (frame : List Byte) (s : State), s.lan.up = false ∨ frameGood frame = false →
    exec (.lanFrameTaken frame) s = .next s) ∧
  ∀ (frame : List Byte) (s u : State) (k : FrameKey) (m : MatchResult), Received s frame k m →
    u = { s with cls := classifierTaking frame k m s } →
    (m.action = .drop → ∃ t, exec (.lanFrameTaken frame) s = .next t ∧ WakesRaised s k m u t) ∧
    (∀ p, m.action = .backup p → k.ethertype = s.cfg.pacingType → ∃ t, exec (.lanFrameTaken frame) s = .next t ∧
      WakesRaised s k m
        { u with
          pac.incoming := s.pac.incoming ++
            [{ peer := k.src, ptype := k.pacingType, payload := payloadOf (frameData frame), length := frame.length,
               profile := p, bays := m.bays }] } t) ∧
    ∀ a, m.action = .proxy a → s.pow.box ≠ .run → ∃ t, exec (.lanFrameTaken frame) s = .next t ∧
      (s.ans.questions.length < 4 →
        WakesRaised s k m
          { u with
            ans.questions := s.ans.questions ++ [{ index := a, data := frameData frame, length := frame.length }] } t) ∧
      (4 ≤ s.ans.questions.length →
        (s.ans.records[a].valid = true → ∃ records, WakesRaised s k m { u with ans.records := records } t ∧
          ∀ i : Fin 16, records[i] =
            if i = a then { s.ans.records[a] with suppressed := satAdd s.ans.records[a].suppressed 1 }
            else s.ans.records[i]) ∧
        (s.ans.records[a].valid = false →
          WakesRaised s k m { u with ans.invalid := satAdd s.ans.invalid 1 } t))

/-- O8. A frame of class PASS, one of class BACKUP that is no pacing frame, one of class PROXY in RUN and one of class
SHARE outside RUN: in RUN while no record is held it joins the L path, starting at once on a link with nothing to send,
or is discarded with the H-port DOWN or 16 direct frames waiting there; in RUN while a record is held, in SLEEP_ENTRY
and in WAKING it joins the hold queue's tests with its class; in SLEEP it does so when its entry's wake is YES, and is
dropped when it is NO. A SHARE frame in RUN goes the same way, and also sets share-active with the full window and
demands its bay set. So it is whether or not the frame raises a wake source: a wake event that is heard adds its
changes to the power controller, and in SLEEP to the bays, and to nothing else. That receipt and taking are one
instant, and the count of free choices that two wakes at once advance, are the model's choice (assumption logs 16 and
4). That a raised HOLD_OVERFLOW waits for a build of its own is the model's choice (assumption log 21). -/
def Obligations.HostBoundFramesPassOrAreHeld : Prop :=
  ∀ (frame : List Byte) (s u : State) (k : FrameKey) (m : MatchResult), Received s frame k m →
    u = { s with cls := classifierTaking frame k m s } →
    (∀ cls : HeldClass,
      (m.action = .pass ∧ cls = .pass) ∨ (m.action = .share ∧ s.pow.box ≠ .run ∧ cls = .share) ∨
          ((∃ p, m.action = .backup p) ∧ k.ethertype ≠ s.cfg.pacingType ∧ cls = .backup) ∨
          ((∃ a, m.action = .proxy a) ∧ s.pow.box = .run ∧ cls = .proxy) →
      ∃ t, exec (.lanFrameTaken frame) s = .next t ∧
      (s.pow.box = .run → s.hold.records = [] →
        (s.host.up = true → s.host.lpath.length < 16 → s.host.sending.isSome = true →
          t = { u with host.lpath := s.host.lpath ++ [{ released := false, data := frameData frame }] }) ∧
        (s.host.up = true → s.host.sending = none → s.host.responses = [] → s.host.lpath = [] →
          t = { u with host.sending := some (.direct frame) }) ∧
        (s.host.up = false ∨ 16 ≤ s.host.lpath.length → t = u)) ∧
      ((s.pow.box = .run ∧ s.hold.records ≠ []) ∨ s.pow.box = .sleepEntry ∨ (∃ sub, s.pow.box = .waking sub) ∨
          (s.pow.box = .sleep ∧ m.wake = true) →
        WakesRaised s k m
          { holdFrame frame cls m.entry s.time.ms s with cls := classifierTaking frame k m s } t) ∧
      (s.pow.box = .sleep → m.wake = false → WakesRaised s k m u t)) ∧
    (m.action = .share → s.pow.box = .run → ∃ t, exec (.lanFrameTaken frame) s = .next t ∧
      t.share = { s.share with active := true, timer := some (s.share.window * 1000) } ∧
      t.bay = (demand m.bays s).bay ∧ t.cls = classifierTaking frame k m s ∧
      (∃ v, t = { v with share := t.share, bay := t.bay, cls := t.cls } ∧
        (s.hold.records = [] →
          (s.host.up = true → s.host.lpath.length < 16 → s.host.sending.isSome = true →
            v = { s with host.lpath := s.host.lpath ++ [{ released := false, data := frameData frame }] }) ∧
          (s.host.up = true → s.host.sending = none → s.host.responses = [] → s.host.lpath = [] →
            v = { s with host.sending := some (.direct frame) }) ∧
          (s.host.up = false ∨ 16 ≤ s.host.lpath.length → v = s)) ∧
        (s.hold.records ≠ [] → v = holdFrame frame .share m.entry s.time.ms s)))

/-- O9. The wake events of a received frame: LAN with the entry's bay set when a wake-YES entry has won, SIGNATURE when
the key's wake signature is true. In RUN and WAKING, with the wake-fault latch set, and for a disabled source, nothing
changes in the power controller. In SLEEP_ENTRY each is latched, LAN adding the bay set to what its source has
accumulated. In SLEEP with no source pending either alone starts a wake: its cause set, attempts 1, fault clear, its
source's bay set demanded together with every OFF bay that a session needs; RAIL_SETTLE with the rail on and the host
in reset, no source pending, a ONE_SHOT source disabled. Where both occur in SLEEP one of them is the cause; which one
is a free choice (assumption log 4). That receipt and taking are one instant, and that the two sets of bays are one
demand, is the model's choice (assumption logs 16 and 19). -/
def Obligations.LanFrameWakesTheSleepingBox : Prop :=
  ∀ (frame : List Byte) (s : State) (k : FrameKey) (m : MatchResult) (lan sig : Bool), Received s frame k m →
    lan = (m.wake && m.entry.isSome && s.pow.lan.enable) → sig = (k.wakeSig && s.pow.signature.enable) →
    ∃ t, exec (.lanFrameTaken frame) s = .next t ∧
      (s.pow.box = .run ∨ (∃ sub, s.pow.box = .waking sub) ∨ s.pow.latch = true ∨ (lan = false ∧ sig = false) →
        t.pow = s.pow) ∧
      (s.pow.box = .sleepEntry → s.pow.latch = false →
        t.pow =
          { s.pow with
            lan :=
              if lan then { s.pow.lan with pending := true, bays := s.pow.lan.bays ||| m.bays } else s.pow.lan,
            signature := { s.pow.signature with pending := sig || s.pow.signature.pending } }) ∧
      (s.pow.box = .sleep → s.pow.latch = false → s.pow.anyPending = false → lan = true ∨ sig = true →
        t.pow.box = .waking .railSettle ∧ t.pow.attempts = 1 ∧ t.pow.pwrEn = true ∧ t.pow.rst = true ∧
        t.pow.stabTimer = some s.pow.timing.stabilization ∧ t.pow.anyPending = false ∧
        WakeDemands t.pow.record.demanded s t ∧
        ((lan = true ∧
            t.pow.record =
              { causes := .sources true false false false false, attempts := 1, fault := false,
                demanded := s.pow.lan.bays ||| m.bays } ∧
            t.pow.lan =
              { s.pow.lan with pending := false, bays := 0, enable := decide (s.pow.lan.arm = .continuous) } ∧
            t.pow.signature = s.pow.signature) ∨
          (sig = true ∧
            t.pow.record =
              { causes := .sources false true false false false, attempts := 1, fault := false,
                demanded := s.pow.signature.bays } ∧
            t.pow.signature =
              { s.pow.signature with
                pending := false, enable := decide (s.pow.signature.arm = .continuous) })))

/-- O10. SETTLE_FLOWS with no frame in hand swaps the banks at once: the shadow becomes the active bank with every hit
count and the default count 0, and the former active bank, entry for entry as it was, the LOADING shadow. With a frame
in hand the shadow is PRIMED and the response says so; the same swap follows when that frame stops being in hand,
unless the shadow has become LOADING again, as UNSETTLE_FLOWS makes it: then no bank changes. SET_DEFAULT_ACTION takes
PASS and DROP and no other class. -/
def Obligations.SettleSwapsTheBanks : Prop :=
  (∀ (s : State) r p rest, Taken s .settleFlows r p rest → s.cls.inHand = none → ∃ c,
    exec .settleFlows s = .next (respond r .ok [0, if c.active = .a then 0 else 1] { dequeue r rest s with cls := c }) ∧
    c.active = s.cls.active.other ∧ c.shadow = .loading ∧ c.defaultCount = 0 ∧ c.loader = s.cls.loader ∧
    c.defaultClass = s.cls.defaultClass ∧ c.inHand = none ∧ c.bank s.cls.active = s.cls.bank s.cls.active ∧
    ∀ i : Fin 64, (c.bank c.active)[i] = { (s.cls.bank s.cls.active.other)[i] with hits := 0 }) ∧
  (∀ (s : State) r p rest, Taken s .settleFlows r p rest → s.cls.inHand ≠ none →
    exec .settleFlows s =
      .next
        (respond r .ok [1, if s.cls.active = .a then 0 else 1] { dequeue r rest s with cls.shadow := .primed })) ∧
  (∀ c d : Classifier, d = endFrame c →
    (c.shadow = .loading → d = { c with inHand := none }) ∧
    (c.shadow = .primed →
      d.active = c.active.other ∧ d.shadow = .loading ∧ d.defaultCount = 0 ∧ d.loader = c.loader ∧
      d.defaultClass = c.defaultClass ∧ d.inHand = none ∧ d.bank c.active = c.bank c.active ∧
      ∀ i : Fin 64, (d.bank d.active)[i] = { (c.bank c.active.other)[i] with hits := 0 })) ∧
  (∀ (s : State) r p rest, Taken s .unsettleFlows r p rest →
    exec .unsettleFlows s = .next (respond r .ok [] { dequeue r rest s with cls.shadow := .loading })) ∧
  ∀ (s : State) r p rest, Taken s .setDefaultAction r p rest →
    exec .setDefaultAction s =
      .next
        (if byteAt p 0 = 0 then respond r .ok [] { dequeue r rest s with cls.defaultClass := .pass }
         else if byteAt p 0 = 4 then respond r .ok [] { dequeue r rest s with cls.defaultClass := .drop }
         else respond r .badArgument [] (dequeue r rest s))

/-- O11. LOAD_FLOWS writes its 1 to 16 entries, in order and with hit count 0, into the shadow bank from the window's
first entry on, and CONTINUE_FLOWS from the load pointer on. In STOP mode the entries behind the window's end are
ignored; in WRAP mode writing goes on from its start, a later entry over an earlier one. Every other entry, the active
bank and the active-bank pointer stay, a PRIMED shadow becomes LOADING, and LOAD_FLOWS sets the window. The response
carries the number of entries written, the pointer and whether the window is exhausted. On a window already exhausted
CONTINUE_FLOWS changes nothing and carries the count of 0 alone, which is the model's choice of form (assumption log
3). A window that ends below its start or above 63, a mode that is neither STOP nor WRAP, a count of 0 or above 16, and
a carried entry that Table 12.4 does not allow are refused with BAD_ARGUMENT and change nothing. -/
def Obligations.LoadingFillsTheShadowWindow : Prop :=
  (∀ (s : State) r p rest (l : Loader) es, Taken s .loadFlows r p rest → l.first.val = natAt p 0 1 →
    l.last.val = natAt p 1 1 → natAt p 0 1 ≤ natAt p 1 1 → natAt p 2 1 = (if l.mode = .stop then 0 else 1) →
    l.pointer = natAt p 0 1 → Carries (p.drop 3) es → ∃ c data,
      exec .loadFlows s = .next (respond r .ok data { dequeue r rest s with cls := c }) ∧
      FlowsWritten l es s.cls c data) ∧
  (∀ (s : State) r p rest, Taken s .loadFlows r p rest →
    natAt p 1 1 < natAt p 0 1 ∨ 63 < natAt p 1 1 ∨ 1 < natAt p 2 1 ∨ EntriesRefused (p.drop 3) →
      exec .loadFlows s = .next (respond r .badArgument [] (dequeue r rest s))) ∧
  ∀ (s : State) r p rest, Taken s .continueFlows r p rest →
    (EntriesRefused p → exec .continueFlows s = .next (respond r .badArgument [] (dequeue r rest s))) ∧
    ∀ es, Carries p es →
      (s.cls.loader.last.val < s.cls.loader.pointer →
        exec .continueFlows s = .next (respond r .ok [0] (dequeue r rest s))) ∧
      (s.cls.loader.pointer ≤ s.cls.loader.last.val → ∃ c data,
        exec .continueFlows s = .next (respond r .ok data { dequeue r rest s with cls := c }) ∧
        FlowsWritten s.cls.loader es s.cls c data)

/-! ## Requests in general -/

/-- O12. The nine read requests with nothing to clear change nothing but the request queue and the host address, and
are answered OK with what their rules list: READ_FLOW the entry, its hit count and the active bank; READ_PARTITION the
sizes, the source, the ring and the counts of stage slots; READ_WAKE the box state, attempts, latch, wake record,
sources, clock, alarms, timing and timers; READ_BAYS each bay, the lines, the budgets and the queue; READ_RETAINED
copies, factory value and programming; READ_FLOW_STATUS, READ_ANSWER, READ_HOLD and READ_SESSION their status.
READ_FLOW of no bank or of an entry above 63, READ_ANSWER of a record above 15, READ_SESSION of a slot above 3 and
READ_RETAINED of a record above 7 are refused with BAD_ARGUMENT. A field that is absent is 00h and zero bytes of its
width. It is the model's choice that READ_RETAINED's 'differs' compares the present carried contents (the latest copy,
else the factory value) with those loaded at the last reset, before any clamping (assumption log 28), that READ_SESSION
gives time left 0 for a deadline 2,147,483,648 or more ahead (log 29), that READ_FLOW carries zero bytes for a
condition that is ANY (log 32), and the order and the form of some of the fields (log 3). -/
def Obligations.ReadRequestsChangeNothing : Prop :=
  (∀ (s : State) r p rest (e : FlowEntry), Taken s .readFlow r p rest → natAt p 0 1 ≤ 1 → (h : natAt p 1 1 < 64) →
    e = (s.cls.bank (if natAt p 0 1 = 0 then .a else .b))[natAt p 1 1] →
    exec .readFlow s =
      .next
        (respond r .ok (e.carried ++ num 2 e.hits.toNat ++ num 1 (if s.cls.active = .a then 0 else 1))
          (dequeue r rest s))) ∧
  (∀ (kind : ReqKind) (s : State) r p rest, Taken s kind r p rest →
    (kind = .readFlow ∧ (1 < natAt p 0 1 ∨ 63 < natAt p 1 1)) ∨ (kind = .readAnswer ∧ 15 < natAt p 0 1) ∨
        (kind = .readSession ∧ 3 < natAt p 0 1) ∨ (kind = .readRetained ∧ 7 < natAt p 0 1) →
      exec kind.command s = .next (respond r .badArgument [] (dequeue r rest s))) ∧
  (∀ (s : State) r p rest, Taken s .readFlowStatus r p rest → byteAt p 0 = 0 →
    exec .readFlowStatus s = .next (respond r .ok (flowStatus s.cls) (dequeue r rest s))) ∧
  (∀ c : Classifier, flowStatus c =
    num 1 (if c.active = .a then 0 else 1) ++ num 1 (if c.shadow = .loading then 0 else 1) ++
      num 1 c.loader.first.val ++ num 1 c.loader.last.val ++ num 1 (if c.loader.mode = .stop then 0 else 1) ++
      num 1 c.loader.pointer ++ flag (decide (c.loader.last.val < c.loader.pointer)) ++
      num 1 (if c.defaultClass = .pass then 0 else 4) ++ num 2 c.defaultCount.toNat ++
      ((List.finRange 64).map fun i => num 2 (c.bank c.active)[i].hits.toNat).flatten) ∧
  (∀ (s : State) r p rest, Taken s .readPartition r p rest →
    exec .readPartition s =
      .next
        (respond r .ok
          (num 2 s.cells.part.answer ++ num 2 s.cells.part.hold ++ num 2 s.cells.part.stage ++
            num 1 (s.cells.part.stage / 32) ++ num 1 (if s.cells.part.source = .retained then 0 else 1) ++
            num 2 s.cells.ring.head ++ num 2 s.cells.ring.tail ++ num 2 s.cells.ring.used ++
            num 2 (s.cells.part.hold - s.cells.ring.used) ++ num 1 (s.pac.stage.countP StageSlot.isFree) ++
            num 1 (s.pac.stage.countP StageSlot.isReserved) ++ num 1 (s.pac.stage.countP StageSlot.isFilled) ++
            num 1 (s.pac.stage.countP StageSlot.isSending) ++ num 1 s.pac.fifo.length)
          (dequeue r rest s))) ∧
  (∀ (s : State) r p rest, Taken s .readAnswer r p rest → (h : natAt p 0 1 < 16) → byteAt p 1 = 0 →
    exec .readAnswer s =
      .next (respond r .ok (answerStatus s s.ans.records[natAt p 0 1]) (dequeue r rest s))) ∧
  (∀ (s : State) (x : AnswerRecord), answerStatus s x =
    flag x.valid ++ num 1 x.offset ++ num 2 x.length ++
      (num 1 x.checks.length ++
        (x.checks.map fun c =>
          num 1 c.offset ++ num 1 c.expected.length ++ c.expected ++
            List.replicate (16 - c.expected.length) 0).flatten) ++
      (num 1 x.substs.length ++
        (x.substs.map fun u => num 1 u.offset ++ num 1 u.count ++ num 2 u.target).flatten) ++
      num 2 x.holdoff ++ (if x.valid then 1 :: templateBytes s x else List.replicate (1 + x.length) 0) ++
      flag x.timer.isSome ++ num 4 (x.timer.getD 0) ++ flag x.last.isSome ++ num 4 (x.last.getD 0).toNat ++
      flag x.last.isSome ++ num 4 (x.last.elim 0 fun last => s.time.ms - last).toNat ++ num 2 x.answered.toNat ++
      num 2 x.suppressed.toNat ++ num 2 x.declined.toNat ++ num 2 s.ans.invalid.toNat ++
      num 1 s.ans.answers.length ++ flag s.ans.sending.isSome) ∧
  (∀ (s : State) r p rest (sub : List Byte) (source : WakeSource → List Byte → List Byte), Taken s .readWake r p rest →
    (∀ x, s.pow.box = .waking x → sub = 1 :: num 1 x.code) →
    ((∀ x, s.pow.box ≠ .waking x) → sub = [0, 0]) →
    (∀ w edge, source w edge =
      flag w.enable ++ flag w.pending ++ num 1 (if w.arm = .oneShot then 0 else 1) ++ num 1 w.bays.toNat ++ edge) →
    exec .readWake s =
      .next
        (respond r .ok
          (num 1 s.pow.box.code ++ sub ++ num 1 s.pow.attempts ++ flag s.pow.latch ++
            (num 1 s.pow.record.causes.codes.length ++ (s.pow.record.causes.codes.map (num 1)).flatten) ++
            num 1 s.pow.record.attempts ++ flag s.pow.record.fault ++ num 1 s.pow.record.demanded.toNat ++
            source s.pow.lan [0, 0] ++ source s.pow.signature [0, 0] ++
            source s.pow.button [1, if s.pow.buttonEdge = .press then 0 else 1] ++ source s.pow.alarm [0, 0] ++
            source s.pow.bay [1, if s.pow.bayEdge = .insert then 0 else 1] ++ num 2 s.pow.clock.minute ++
            num 2 s.pow.clock.count ++ flag s.pow.clock.set ++
            ((List.finRange 8).map fun i => flag s.pow.alarms[i].on ++ num 2 s.pow.alarms[i].minute).flatten ++
            num 1 s.pow.timing.stabilization ++ num 1 s.pow.timing.boot ++ num 1 s.pow.timing.heartbeat ++
            num 1 s.pow.timing.entry ++ flag s.pow.heartbeatTimer.isSome ++ num 4 (s.pow.heartbeatTimer.getD 0) ++
            flag s.pow.entryTimer.isSome ++ num 4 (s.pow.entryTimer.getD 0))
          (dequeue r rest s))) ∧
  (∀ (s : State) r p rest, Taken s .readHold r p rest → byteAt p 0 = 0 →
    exec .readHold s = .next (respond r .ok (holdStatus s) (dequeue r rest s))) ∧
  (∀ (s : State) (head : Nat → (HeldRecord → List Byte) → List Byte),
    (∀ width g, head width g = s.hold.records.head?.elim (List.replicate (1 + width) 0) fun x => 1 :: g x) →
    holdStatus s =
      num 2 s.hold.records.length ++ num 2 s.cells.ring.used ++ num 2 (s.cells.part.hold - s.cells.ring.used) ++
        num 2 s.cells.part.hold ++
        (([.pass, .share, .backup, .proxy] : List HeldClass).map fun cls =>
          num 2 (s.hold.records.countP fun x => decide (x.cls = cls))).flatten ++
        head 1 (fun x => num 1 x.cls.code) ++ head 1 (fun x => num 1 (x.entry.elim 255 fun i => i.val)) ++
        head 2 (fun x => num 2 x.length) ++ head 4 (fun x => num 4 (s.time.ms - x.arrival).toNat) ++
        head 1 (fun _ => flag s.hold.sending) ++ flag s.hold.overflow ++
        (if s.pow.box = .run then 1 :: flag (decide (s.hold.records ≠ [])) else [0, 0]) ++ num 2 s.hold.drops.toNat ++
        num 2 s.hold.stales.toNat ++ num 1 s.hold.limit) ∧
  (∀ (s : State) r p rest, Taken s .readBays r p rest →
    exec .readBays s =
      .next
        (respond r .ok
          ((allBays.map fun i =>
              num 1 s.bay.bays[i].state.code ++ num 1 s.bay.bays[i].settings.cost ++
                num 1 s.bay.bays[i].settings.spin ++ num 1 s.bay.bays[i].settings.idle ++
                num 1 s.bay.bays[i].settings.edge.code ++ num 1 s.bay.bays[i].needed ++
                flag (s.bay.bays[i].spinTimer.isSome || s.bay.bays[i].idleTimer.isSome) ++
                num 4 (s.bay.bays[i].spinTimer.getD (s.bay.bays[i].idleTimer.getD 0))).flatten ++
            (allBays.map fun i => flag s.bay.bays[i].present).flatten ++
            (allBays.map fun i => flag s.bay.bays[i].active).flatten ++ num 1 s.bay.budget ++
            num 1 (s.bay.budget - s.bay.spinningCost) ++
            (num 1 s.bay.queue.length ++ (s.bay.queue.map fun i => num 1 i.val).flatten))
          (dequeue r rest s))) ∧
  (∀ (s : State) r p rest, Taken s .readSession r p rest → (h : natAt p 0 1 < 4) → byteAt p 1 = 0 →
    exec .readSession s =
      .next (respond r .ok (sessionStatus ⟨natAt p 0 1, h⟩ s) (dequeue r rest s))) ∧
  (∀ (s : State) (i : Slot) (field : Nat → (Session → List Byte) → List Byte),
    (∀ width g, field width g = s.pac.slots[i].session.elim (List.replicate (1 + width) 0) fun x => 1 :: g x) →
    sessionStatus i s =
      num 1 (s.pac.slots[i].session.elim 0 fun x => if x.draining then 2 else 1) ++ num 1 s.pac.slots[i].leftBehind ++
        field 6 (fun x => num 6 x.peer.toNat) ++ field 2 (fun x => num 2 x.tag.toNat) ++
        field 4 (fun x => num 4 x.nb) ++ field 4 (fun x => num 4 x.received) ++
        field 1 (fun x =>
          num 1 x.outstanding.length ++
            (x.outstanding.map fun g =>
              num 4 g.seq ++ num 1 g.stage ++ num 4 g.deadline.toNat ++ num 4 (g.left s.time.ms)).flatten) ++
        field 8 (fun x => num 8 x.nextSeq) ++ field 4 (fun x => num 4 x.todo) ++
        field 4 (fun x => num 4 x.undelivered) ++ field 1 (fun x => num 1 x.expiries) ++
        field 1 (fun x => num 1 x.strays.toNat) ++ field 5 (fun x => flag (stallRuns s x) ++ num 4 x.stallAcc) ++
        field 22 (fun x => x.profile.carried) ++
        field 15 (fun x =>
          num 1 x.phase.code ++ num 2 x.rate ++ num 2 x.peak ++ num 2 x.taperPoint ++ num 8 x.nextDue.toNat) ++
        field 8 (fun x => num 8 (x.nextDue.toNat - s.time.us.toNat)) ++ field 1 (fun x => num 1 x.bays.toNat) ++
        ((s.pac.slots[i].session.bind Session.followOn).elim (List.replicate 9 0) fun f =>
          1 :: (num 2 f.tag.toNat ++ num 4 f.nb ++ num 1 f.profile.val ++ num 1 f.bays.toNat)) ++
        ((List.finRange 4).map fun j => s.pac.profiles[j].carried).flatten ++
        num 1 (s.pac.stage.countP StageSlot.isFree) ++ num 1 (s.pac.stage.countP StageSlot.isReserved) ++
        num 1 (s.pac.stage.countP StageSlot.isFilled) ++ num 1 (s.pac.stage.countP StageSlot.isSending) ++
        num 1 s.pac.fifo.length ++ num 1 s.pac.queue.length ++ num 2 s.pac.protocolErrors.toNat ++
        num 2 s.pac.replyLost.toNat ++ num 4 s.pac.blocksTaken.toNat ++ flag s.share.active ++
        num 4 (s.share.timer.getD 0)) ∧
  (∀ x : Profile, x.carried =
    num 2 x.floor ++ num 2 x.peak ++ num 2 x.rise ++ num 2 x.fall ++ num 1 x.margin ++
      num 1 (if x.taper = .auto then 0 else 1) ++ flag x.revision ++ num 2 x.manualPoint ++ num 2 x.ceiling ++
      num 1 x.window ++ num 2 x.deadline ++ num 1 x.expiryLimit ++ num 2 x.stallLimit ++ flag x.followOn) ∧
  (([.run, .sleepEntry, .sleep, .waking .railSettle] : List BoxState).map BoxState.code = [0, 1, 2, 3] ∧
    (∀ x, (BoxState.waking x).code = 3) ∧
    ([.railSettle, .hostBoot, .retryOff] : List Substate).map Substate.code = [0, 1, 2] ∧
    ([.absent, .off, .queued, .spinning, .ready] : List BayState).map BayState.code = [0, 1, 2, 3, 4] ∧
    ([.rising, .falling, .both] : List ActivityEdge).map ActivityEdge.code = [0, 1, 2] ∧
    ([.pass, .share, .backup, .proxy] : List HeldClass).map HeldClass.code = [0, 1, 2, 3] ∧
    ([.floor, .rise, .cruise, .yield, .taper, .tail] : List Phase).map Phase.code = [0, 1, 2, 3, 4, 5] ∧
    CauseSet.hostLost.codes = [5] ∧ CauseSet.powerOn.codes = [6] ∧
    ∀ lan signature button alarm bay, (CauseSet.sources lan signature button alarm bay).codes =
      ([(lan, 0), (signature, 1), (button, 2), (alarm, 3), (bay, 4)].filter (·.1)).map (·.2)) ∧
  ∀ (s : State) r p rest (c : Fin 8 → List Byte), Taken s .readRetained r p rest → (h : natAt p 0 1 < 8) →
    s.ret.gives c →
    exec .readRetained s =
      .next
        (respond r .ok
          (num 1 s.ret.copies[natAt p 0 1].length ++
            (num 1 s.ret.copies[natAt p 0 1].length ++ s.ret.copies[natAt p 0 1].flatten) ++
            (if natAt p 0 1 = 0 then num 6 s.ret.factory.toNat
             else if natAt p 0 1 = 1 then num 6 (s.ret.factory + 1).toNat
             else factoryContents[natAt p 0 1]) ++
            flag (decide (c ⟨natAt p 0 1, h⟩ ≠ s.ret.loaded[natAt p 0 1])) ++ flag s.ret.inFlight.isSome ++
            num 1 (s.ret.inFlight.elim 0 fun f => f.index.val))
          (dequeue r rest s))

/-- O13. A read request with clear YES is answered with the values before the clearing, and clears its own counts and
nothing else; READ_NOTICES clears every pending flag, count, detail and outcome, and keeps the enables. Some bytes of
the answers of READ_HOLD, READ_ANSWER, READ_SESSION and READ_NOTICES are the model's choice (assumption log 3), as is a
grant's time left in READ_SESSION where the deadline is 2,147,483,648 or more ahead (log 29). -/
def Obligations.ClearingReadsClearTheirCounts : Prop :=
  (∀ (s : State) r p rest, Taken s .readFlowStatus r p rest → byteAt p 0 ≠ 0 → ∃ c,
    exec .readFlowStatus s =
      .next (respond r .ok (flowStatus s.cls) { dequeue r rest s with cls := c }) ∧
    c.defaultCount = 0 ∧ c.active = s.cls.active ∧ c.bank c.active.other = s.cls.bank s.cls.active.other ∧
    c.shadow = s.cls.shadow ∧ c.loader = s.cls.loader ∧ c.defaultClass = s.cls.defaultClass ∧
    c.inHand = s.cls.inHand ∧
    ∀ i : Fin 64, (c.bank c.active)[i] = { (s.cls.bank s.cls.active)[i] with hits := 0 }) ∧
  (∀ (s : State) r p rest, Taken s .readHold r p rest → byteAt p 0 ≠ 0 →
    exec .readHold s =
      .next (respond r .ok (holdStatus s) { dequeue r rest s with hold.drops := 0, hold.stales := 0 })) ∧
  (∀ (s : State) r p rest, Taken s .readSession r p rest → (h : natAt p 0 1 < 4) → byteAt p 1 ≠ 0 →
    exec .readSession s =
      .next
        (respond r .ok (sessionStatus ⟨natAt p 0 1, h⟩ s)
          { dequeue r rest s with
            pac.protocolErrors := 0, pac.replyLost := 0, pac.blocksTaken := 0,
            pac.slots := vecMod s.pac.slots ⟨natAt p 0 1, h⟩ fun slot =>
              { slot with session := slot.session.map fun x => { x with strays := 0 } } })) ∧
  (∀ (s : State) r p rest, Taken s .readAnswer r p rest → (h : natAt p 0 1 < 16) → byteAt p 1 ≠ 0 →
    exec .readAnswer s =
      .next
        (respond r .ok (answerStatus s s.ans.records[natAt p 0 1])
          { dequeue r rest s with
            ans.invalid := 0,
            ans.records := vecMod s.ans.records ⟨natAt p 0 1, h⟩ fun record =>
              { record with answered := 0, suppressed := 0, declined := 0 } })) ∧
  ∀ (s : State) r p rest (detail : Fin 9 → List Byte), Taken s .readNotices r p rest →
    (∀ i, detail i = s.note.kinds[i].detail.elim [] (detailBytes s.note)) →
    exec .readNotices s =
      .next
        (respond r .ok
          (((List.finRange 9).map fun i =>
              flag s.note.kinds[i].enable ++ flag s.note.kinds[i].pending ++ num 1 s.note.kinds[i].count.toNat ++
                num 1 (detail i).length ++ detail i).flatten ++
            (num 1 s.note.outcomes.length ++
              (s.note.outcomes.map fun o => num 2 o.1.toNat ++ num 1 o.2.code).flatten) ++
            num 2 s.note.lost.toNat)
          { dequeue r rest s with
            note :=
              { kinds := vecMap (fun k => { k with pending := false, count := 0, detail := none }) s.note.kinds,
                outcomes := [], lost := 0 } })

/-- O14. A request that its box state refuses (Table 10.3) is answered REFUSED_STATE, one whose parameters are too
short is answered BAD_ARGUMENT, and one of no known kind UNKNOWN_REQUEST, with no data and nothing else changed; in the
states that do not answer it, a request is only discarded, as is, in every state, a frame that carries no tag or kind.
Table 10.3: RUN takes every kind but READY, SLEEP_ENTRY the read requests, HOST_BOOT READY alone, refusing the others;
SLEEP, RAIL_SETTLE and RETRY_OFF answer none. The fixed parameters of each kind have the length that its fields give
(R188, R190). That a frame without tag or kind leaves the host address is the model's choice (assumption log 31), as is
that PROGRAM_RETAINED's fixed parameters are its index alone, its contents being tested on their own (log 23). -/
def Obligations.RefusedRequestsChangeNothing : Prop :=
  ((∀ (kind : ReqKind) (s : State) r rest, Waits s kind r rest →
    (admission s.pow.box kind = .refused →
      exec kind.command s = .next (respond r .refusedState [] (dequeue r rest s))) ∧
    (admission s.pow.box kind = .notAnswered → exec kind.command s = .next (dequeue r rest s)) ∧
    (admission s.pow.box kind = .taken →
      r.params = none ∨ (∃ p, r.params = some p ∧ p.length < kind.fixedLength) →
      exec kind.command s = .next (respond r .badArgument [] (dequeue r rest s)))) ∧
  (∀ (s : State) f r rest, s.mgmt.inHand = none → s.mgmt.deferred = [] → s.host.responses.length < 16 →
    s.host.requests = f :: rest → parseRequest f = some r → (∀ kind : ReqKind, r.kind ≠ kind.code) →
    exec .unknownRequest s =
      .next
        (if s.pow.box = .run ∨ s.pow.box = .sleepEntry ∨ s.pow.box = .waking .hostBoot then
           respond r .unknownRequest [] (dequeue r rest s)
         else dequeue r rest s)) ∧
  ∀ (s : State) f rest, s.mgmt.inHand = none → s.mgmt.deferred = [] → s.host.responses.length < 16 →
    s.host.requests = f :: rest → f.length < 18 → exec .mgmtFrameTooShort s = .next { s with host.requests := rest }) ∧
  ∀ kind : ReqKind,
    (admission .run kind = if kind = .ready then .refused else .taken) ∧
    (admission .sleepEntry kind =
      if kind ∈ [.readFlow, .readFlowStatus, .readPartition, .readWake, .readHold, .readAnswer, .readBays,
        .readSession, .readNotices, .readRetained] then .taken else .refused) ∧
    (admission (.waking .hostBoot) kind = if kind = .ready then .taken else .refused) ∧
    admission .sleep kind = .notAnswered ∧ admission (.waking .railSettle) kind = .notAnswered ∧
    admission (.waking .retryOff) kind = .notAnswered ∧
    (([(.loadFlows, 3), (.readFlow, 2), (.readFlowStatus, 1), (.setDefaultAction, 1), (.setPartition, 4),
      (.loadAnswer, 10), (.clearAnswer, 1), (.readAnswer, 2), (.setWake, 5), (.setClock, 2), (.setAlarms, 24),
      (.setTiming, 4), (.readHold, 1), (.spinUp, 1), (.spinDown, 1), (.setBays, 17), (.setProfile, 23),
      (.readSession, 2), (.haltSession, 3), (.setShare, 1), (.setNotices, 9), (.programRetained, 1),
      (.readRetained, 1)] : List (ReqKind × Nat)).lookup kind).getD 0 = kind.fixedLength

/-- O15. The envelope of every response the part builds is that of Table 12.2 behind the Ethernet header, padded to 60
bytes, with the codes of R187 and Table 12.2, and reads back with the request's tag and kind and with its data. A
response goes to the request's source address, which taking the request makes the host address; it is discarded with
the H-port DOWN, joins the response queue while the host link is sending, and starts at once on a link with nothing to
send. A frame the part sends carries its frame data and a check sequence that a receiver accepts. Which bits that
sequence takes is the model's choice (assumption log 7). -/
def Obligations.ResponseEnvelopeReadsBack : Prop :=
  (∀ (cfg : InForce) (dst : MacAddr) (tag : Word16) (kind : Nat) (result : ResultCode) (data : List Byte),
    kind < 65536 → data.length < 65536 →
    parseRequest (mgmtFrame cfg dst tag kind result data) =
        some { src := cfg.linkAddr, tag := tag, kind := kind, params := some data } ∧
      mgmtFrame cfg dst tag kind result data =
        num 6 dst.toNat ++ num 6 cfg.linkAddr.toNat ++ num 2 cfg.mgmtType.toNat ++ num 2 tag.toNat ++ num 2 kind ++
          [BitVec.ofNat 8 result.code, 0] ++ num 2 data.length ++ data ++ List.replicate (38 - data.length) 0) ∧
  (([.ok, .busy, .refusedState, .badArgument, .notFound, .worn, .unknownRequest] : List ResultCode).map
    ResultCode.code = [0, 1, 2, 3, 4, 5, 6]) ∧
  (([[.loadFlows, .continueFlows, .settleFlows, .unsettleFlows, .readFlow, .readFlowStatus, .setDefaultAction],
      [.setPartition, .readPartition], [.loadAnswer, .clearAnswer, .readAnswer],
      [.sleep, .ready, .heartbeat, .setWake, .readWake, .setClock, .setAlarms, .setTiming], [.readHold, .clearHold],
      [.spinUp, .spinDown, .setBays, .readBays], [.setProfile, .readSession, .haltSession], [.setShare],
      [.setNotices, .readNotices], [.programRetained, .readRetained]] : List (List ReqKind)).map
        (·.map ReqKind.code) =
    ([(1, 7), (2, 2), (3, 3), (4, 8), (5, 2), (6, 4), (7, 3), (8, 1), (9, 2), (10, 2)] : List (Nat × Nat)).map
      fun family => (List.range family.2).map fun i => 256 * family.1 + i + 1) ∧
  (∀ (s : State) (r : Request) (rest : List (List Byte)) (result : ResultCode) (data : List Byte),
    dequeue r rest s = { s with host.requests := rest, host.hostAddr := r.src } ∧
    respond r result data s = queueResponse (mgmtFrame s.cfg r.src r.tag r.kind result data) s) ∧
  (∀ (s : State) (frame : List Byte),
    (s.host.up = false → queueResponse frame s = s) ∧
    (s.host.up = true → s.host.sending.isSome = true →
      queueResponse frame s = { s with host.responses := s.host.responses ++ [frame] }) ∧
    (s.host.up = true → s.host.sending = none → s.host.responses = [] →
      queueResponse frame s = { s with host.sending := some (.response (withFcs frame)) })) ∧
  ∀ data frame : List Byte,
    (60 ≤ data.length → data.length ≤ 9212 →
      (withFcs data).length = data.length + 4 ∧ frameData (withFcs data) = data ∧ frameGood (withFcs data) = true) ∧
    (frameGood frame = true ↔ 64 ≤ frame.length ∧ frame.length ≤ 9216 ∧ frame = withFcs (frameData frame))

/-! ## Partition and answers -/

/-- O16. SET_PARTITION: taken in RUN alone and refused in SLEEP_ENTRY. Arguments outside R22 are refused with
BAD_ARGUMENT before anything else is looked at; then, unless no record is held, every stage slot is FREE, every session
slot IDLE and no answer record valid, it is refused with BUSY; else the regions take their sizes, the source is
RETAINED when the partition applied at the last reset was and the new values equal it, the ring is empty and the stage
slots are rebuilt, all FREE, the cells as they were. -/
def Obligations.SetPartitionChecksThenRebuilds : Prop :=
  (admission .run .setPartition = .taken ∧ admission .sleepEntry .setPartition = .refused ∧
    ∀ box : BoxState, box ≠ .run → admission box .setPartition ≠ .taken) ∧
  ∀ (s : State) r p rest a st, Taken s .setPartition r p rest → a = natAt p 0 2 → st = natAt p 2 2 →
    (a < 16 ∨ 256 < a ∨ st % 32 ≠ 0 ∨ 3840 < a + st →
      exec .setPartition s = .next (respond r .badArgument [] (dequeue r rest s))) ∧
    (16 ≤ a → a ≤ 256 → st % 32 = 0 → a + st ≤ 3840 →
      (s.hold.records ≠ [] ∨ (∃ slot ∈ s.pac.stage, slot ≠ .free) ∨
          (∃ i : Slot, s.pac.slots[i].session ≠ none) ∨ (∃ i : Fin 16, s.ans.records[i].valid = true) →
        exec .setPartition s = .next (respond r .busy [] (dequeue r rest s))) ∧
      (s.hold.records = [] → (∀ slot ∈ s.pac.stage, slot = .free) → (∀ i : Slot, s.pac.slots[i].session = none) →
        (∀ i : Fin 16, s.ans.records[i].valid = false) →
        exec .setPartition s =
          .next
            (respond r .ok (num 2 a ++ num 2 (4096 - a - st) ++ num 2 st ++ num 1 (st / 32))
              { dequeue r rest s with
                cells.part :=
                  { answer := a, hold := 4096 - a - st, stage := st,
                    source :=
                      if s.cells.atReset.source = .retained ∧ s.cells.atReset.answer = a ∧
                        s.cells.atReset.stage = st then .retained else .factory },
                cells.ring := { head := 0, tail := 0, used := 0 },
                pac.stage := List.replicate (st / 32) .free, pac.fifo := [], pac.delivery := none })))

/-- O17. LOAD_ANSWER of a template that fits and meets no other valid record's cells, with allowed checks and
substitutions, laid out by Table 12.5, makes the record valid with them and with its holdoff clamped and its counts 0;
the template's bytes stand in its cells, and every other byte of the store, every other record and all other state is
as it was. The response carries index, holdoff and the first and the last cell. In each case of R81 the request is
refused with BAD_ARGUMENT and changes nothing. -/
def Obligations.LoadAnswerStoresTheTemplate : Prop :=
  ∀ (s : State) r p rest index c n offset length template (checks : List (Check × Nat)) (substs : List Subst),
    Taken s .loadAnswer r p rest →
    index = natAt p 0 1 → c = natAt p 1 1 → n = natAt p 2 1 → offset = natAt p 4 2 → length = natAt p 6 2 →
    template = p.drop (10 + 18 * c + 4 * n) →
    checks = (List.range c).map (fun i =>
      ({ offset := natAt p (10 + 18 * i) 1, expected := slice p (12 + 18 * i) (natAt p (11 + 18 * i) 1) },
        natAt p (11 + 18 * i) 1)) →
    substs = (List.range n).map (fun i =>
      { offset := natAt p (10 + 18 * c + 4 * i) 1, count := natAt p (11 + 18 * c + 4 * i) 1,
        target := natAt p (12 + 18 * c + 4 * i) 2 }) →
    (s.cells.part.answer ≤ 256 → index < 16 → c ≤ 4 → n ≤ 4 → 10 + 18 * c + 4 * n ≤ p.length →
      60 ≤ length → length ≤ 1518 → template.length = length →
      offset + (length + 255) / 256 ≤ s.cells.part.answer →
      (∀ j : Fin 16, j.val ≠ index → s.ans.records[j].valid = true →
        offset + (length + 255) / 256 ≤ s.ans.records[j].offset ∨
          s.ans.records[j].offset + (s.ans.records[j].length + 255) / 256 ≤ offset) →
      (∀ k ∈ checks, 1 ≤ k.2 ∧ k.2 ≤ 16 ∧ k.1.offset ≤ 127) →
      (∀ t ∈ substs,
        1 ≤ t.count ∧ t.count ≤ 16 ∧ t.offset ≤ 127 ∧ t.target + t.count ≤ length) → ∃ mem records,
        exec .loadAnswer s =
          .next
            (respond r .ok
              (num 1 index ++ num 2 (min 1000 (natAt p 8 2)) ++ num 1 offset ++
                num 1 (offset + (length + 255) / 256 - 1))
              { dequeue r rest s with cells.mem := mem, ans.records := records }) ∧
        (∀ a, a < storeBytes → mem.read a =
          if 256 * offset ≤ a ∧ a < 256 * offset + length then template.getD (a - 256 * offset) 0
          else s.cells.mem.read a) ∧
        ∀ i : Fin 16, records[i] =
          if i.val = index then
            { valid := true, offset := offset, length := length,
              checks := checks.map (·.1), substs := substs,
              holdoff := min 1000 (natAt p 8 2), timer := none, last := none, answered := 0, suppressed := 0,
              declined := 0 }
          else s.ans.records[i]) ∧
    (16 ≤ index ∨ 4 < c ∨ 4 < n ∨ length < 60 ∨ 1518 < length ∨ template.length ≠ length ∨
        s.cells.part.answer < offset + (length + 255) / 256 ∨
        (∃ (i j : Fin 16) (cell : Nat), i.val = index ∧ j ≠ i ∧ s.ans.records[j].valid = true ∧
          offset ≤ cell ∧ cell < offset + (length + 255) / 256 ∧ s.ans.records[j].offset ≤ cell ∧
          cell < s.ans.records[j].offset + (s.ans.records[j].length + 255) / 256) ∨
        (∃ k ∈ checks, k.2 = 0 ∨ 16 < k.2 ∨ 127 < k.1.offset) ∨
        (∃ t ∈ substs,
          t.count = 0 ∨ 16 < t.count ∨ 127 < t.offset ∨ length < t.target + t.count) →
      exec .loadAnswer s = .next (respond r .badArgument [] (dequeue r rest s)))

/-- O18. QUESTION_TAKEN: a question of an invalid record is dropped and counted, one too short for its record or that
fails a check is declined, one during the holdoff or with 4 answers queued or being sent is suppressed; otherwise the
answer built from template and substitutions joins the answer queue, and the record counts it, notes the time and
starts its holdoff timer. It is too short when a check or substitution reaches past its data, and a check fails when
the bytes at its offset differ from the expected ones. The answer is as long as the template; under each substitution
stand the question's bytes, the last one's where two overlap, and elsewhere the template's, as its cells hold it.
HOLDOFF_EXPIRY stops one record's timer that has run out; CLEAR_ANSWER makes one record invalid and stops its timer,
keeping everything else, and refuses an index above 15. That the expiry of a timer with time left, or of a stopped one,
has no effect is the model's choice (assumption logs 2 and 14). -/
def Obligations.QuestionsAreTestedInOrder : Prop :=
  (∀ (s : State) (q : Question) (rest : List Question), s.ans.questions = q :: rest →
    (s.ans.records[q.index].valid = false →
      exec .questionTaken s =
        .next { s with ans.questions := rest, ans.invalid := satAdd s.ans.invalid 1 }) ∧
    (s.ans.records[q.index].valid = true →
      (s.ans.records[q.index].tooShort (q.length - 4) = true ∨ s.ans.records[q.index].checksHold q.data = false →
        exec .questionTaken s =
          .next
            { s with
              ans.questions := rest,
              ans.records := vecMod s.ans.records q.index fun t => { t with declined := satAdd t.declined 1 } }) ∧
      (s.ans.records[q.index].tooShort (q.length - 4) = false → s.ans.records[q.index].checksHold q.data = true →
        ((s.ans.records[q.index].timer ≠ none ∨ 4 ≤ s.ans.answers.length + s.ans.sending.isSome.toNat) →
          exec .questionTaken s =
            .next
              { s with
                ans.questions := rest,
                ans.records := vecMod s.ans.records q.index fun t =>
                  { t with suppressed := satAdd t.suppressed 1 } }) ∧
        (s.ans.records[q.index].timer = none → s.ans.answers.length + s.ans.sending.isSome.toNat < 4 →
          s.lan.sending.isSome = true →
          exec .questionTaken s =
            .next
              { s with
                ans.questions := rest,
                ans.answers := s.ans.answers ++
                  [{ record := q.index,
                     data := s.ans.records[q.index].fill (templateBytes s s.ans.records[q.index]) q.data }],
                ans.records := vecMod s.ans.records q.index fun t =>
                  { t with
                    answered := satAdd t.answered 1, last := some s.time.ms,
                    timer := if t.holdoff = 0 then none else some t.holdoff } })))) ∧
  (∀ (x : AnswerRecord) (n : Nat), x.tooShort n = true ↔
    (∃ c ∈ x.checks, n < c.offset + c.expected.length) ∨ ∃ u ∈ x.substs, n < u.offset + u.count) ∧
  (∀ (x : AnswerRecord) (data : List Byte), x.checksHold data = true ↔
    ∀ c ∈ x.checks, (data.drop c.offset).take c.expected.length = c.expected) ∧
  (∀ (s : State) (x : AnswerRecord), (templateBytes s x).length = x.length ∧
    ∀ i < x.length, (templateBytes s x).getD i 0 = s.cells.mem.read (256 * x.offset + i)) ∧
  (∀ (x : AnswerRecord) (template data built : List Byte), built = x.fill template data →
    (∀ u ∈ x.substs, u.offset + u.count ≤ data.length ∧ u.target + u.count ≤ template.length) →
    built.length = template.length ∧
    (∀ i, (∀ u ∈ x.substs, i < u.target ∨ u.target + u.count ≤ i) → built.getD i 0 = template.getD i 0) ∧
    ∀ earlier u later, x.substs = earlier ++ u :: later → ∀ i, u.target ≤ i → i < u.target + u.count →
      (∀ v ∈ later, i < v.target ∨ v.target + v.count ≤ i) →
      built.getD i 0 = data.getD (u.offset + (i - u.target)) 0) ∧
  (∀ (i : Fin 16) (s : State),
    (s.ans.records[i].timer = some 0 →
      exec (.holdoffExpiry i) s =
        .next { s with ans.records := vecMod s.ans.records i fun t => { t with timer := none } }) ∧
    (s.ans.records[i].timer ≠ some 0 → exec (.holdoffExpiry i) s = .next s)) ∧
  ∀ (s : State) r p rest, Taken s .clearAnswer r p rest →
    ((h : natAt p 0 1 < 16) →
      exec .clearAnswer s =
        .next
          (respond r .ok []
            { dequeue r rest s with
              ans.records := vecMod s.ans.records ⟨natAt p 0 1, h⟩ fun t =>
                { t with valid := false, timer := none } })) ∧
    (16 ≤ natAt p 0 1 → exec .clearAnswer s = .next (respond r .badArgument [] (dequeue r rest s)))

/-! ## Power -/

/-- O19. SLEEP is refused with BUSY while any session slot is not IDLE; else SLEEP_ENTRY begins with its deadline, the
heartbeat stops and share-active clears, and hold queue, cells and answer records keep what they hold. -/
def Obligations.SleepNeedsEverySlotIdle : Prop :=
  ∀ (s : State) r p rest, Taken s .sleep r p rest →
    ((∃ i : Slot, s.pac.slots[i].session ≠ none) →
      exec .sleep s = .next (respond r .busy [] (dequeue r rest s))) ∧
    ((∀ i : Slot, s.pac.slots[i].session = none) → ∃ slots,
      exec .sleep s =
        .next
          (respond r .ok []
            { dequeue r rest s with
              pow.box := .sleepEntry, pow.entryTimer := some (s.pow.timing.entry * 1000), pow.heartbeatTimer := none,
              share.active := false, share.timer := none, pac.slots := slots }) ∧
      ∀ i : Slot, slots[i] = s.pac.slots[i])

/-- O20. In SLEEP_ENTRY an assertion of HOST_DOWN completes entry, and the expiry of the deadline makes ENTRY_FORCED
pending and completes it: the rail is off with the host in reset, the H-port DOWN, every bay that is not ABSENT OFF and
the spin-up queue empty; with no wake source pending the box is in SLEEP, with one pending it is WAKING in RAIL_SETTLE
with exactly the pending sources as causes, attempts 1, the fault as the latch stands and the union of those sources'
bay sets as the demanded set; none is pending any more, those in mode ONE_SHOT are disabled, LAN's accumulated set is
empty, and the demanded set is demanded together with every OFF bay that a session needs. Elsewhere neither has an
effect, nor has the expiry with time left. That such an expiry does nothing, and that the two sets of bays are one
demand, is the model's choice (assumption logs 2, 14 and 19). -/
def Obligations.SleepEntryCompletes : Prop :=
  (∀ s : State, s.pow.box ≠ .sleepEntry → exec .hostDownAsserted s = .next s) ∧
  (∀ s : State, s.pow.box ≠ .sleepEntry ∨ s.pow.entryTimer ≠ some 0 → exec .entryDeadlineExpiry s = .next s) ∧
  ∀ (s : State) (c : Instr), s.pow.box = .sleepEntry →
    (c = .hostDownAsserted ∨ (c = .entryDeadlineExpiry ∧ s.pow.entryTimer = some 0)) → ∃ t, exec c s = .next t ∧
      t.host.up = false ∧ t.pow.rst = true ∧ t.pow.entryTimer = none ∧ t.pow.anyPending = false ∧
      (c = .entryDeadlineExpiry → t.note.kinds[(6 : Fin 9)].pending = true ∧
        t.note.kinds[(6 : Fin 9)].detail = some (.entryForced s.pow.timing.entry)) ∧
      (s.pow.anyPending = false →
        t.pow = { s.pow with box := .sleep, entryTimer := none, pwrEn := false, rst := true } ∧ t.bay.queue = [] ∧
        ∀ i : Bay, t.bay.bays[i].state = (if s.bay.bays[i].state = .absent then .absent else .off) ∧
          t.bay.bays[i].needed = s.bay.bays[i].needed) ∧
      (s.pow.anyPending = true → ∀ (demanded : BaySet) (spent : WakeSource → WakeSource),
        (∀ b : Bay, hasBay demanded b =
          ((s.pow.lan.pending && hasBay s.pow.lan.bays b) ||
            (s.pow.signature.pending && hasBay s.pow.signature.bays b) ||
            (s.pow.button.pending && hasBay s.pow.button.bays b) ||
            (s.pow.alarm.pending && hasBay s.pow.alarm.bays b) ||
            (s.pow.bay.pending && hasBay s.pow.bay.bays b))) →
        (∀ w : WakeSource, spent w =
          { w with pending := false, enable := if w.pending = true ∧ w.arm = .oneShot then false else w.enable }) →
        t.pow =
          { s.pow with
            box := .waking .railSettle, attempts := 1, pwrEn := true, rst := true, entryTimer := none,
            stabTimer := some s.pow.timing.stabilization,
            record :=
              { causes :=
                  .sources s.pow.lan.pending s.pow.signature.pending s.pow.button.pending s.pow.alarm.pending
                    s.pow.bay.pending,
                attempts := 1, fault := s.pow.latch, demanded := demanded },
            lan := { spent s.pow.lan with bays := 0 }, signature := spent s.pow.signature,
            button := spent s.pow.button, alarm := spent s.pow.alarm, bay := spent s.pow.bay } ∧
        WakeDemands demanded
          { s with
            bay.queue := [],
            bay.bays := vecMap
              (fun b =>
                if b.state = .absent then b
                else { b with state := .off, pwr := false, spinTimer := none, idleTimer := none }) s.bay.bays } t)

/-- O21. The wake sequence: the end of the stabilization interval releases HOST_RST and starts the boot deadline; the
end of the boot deadline switches the rail off for 2 s with the attempt count unchanged; after it, attempt count 1
becomes 2 and RAIL_SETTLE is entered again. In another state, or with time left, none of the three has an effect, which
is the model's choice (assumption logs 2 and 14). -/
def Obligations.TheWakeSequenceRunsByItsTimers : Prop :=
  (∀ s : State, s.pow.box = .waking .railSettle → s.pow.stabTimer = some 0 →
    exec .stabilizationExpiry s =
      .next
        { s with
          pow.rst := false, pow.stabTimer := none, pow.box := .waking .hostBoot,
          pow.bootTimer := some (s.pow.timing.boot * 1000) }) ∧
  (∀ s : State, s.pow.box = .waking .hostBoot → s.pow.bootTimer = some 0 → ∃ t,
    exec .bootDeadlineExpiry s = .next t ∧ t.pow.box = .waking .retryOff ∧ t.pow.rst = true ∧
    t.pow.pwrEn = false ∧ t.pow.retryTimer = some 2000 ∧ t.pow.bootTimer = none ∧
    t.pow.attempts = s.pow.attempts ∧ t.pow.record = s.pow.record ∧ t.host.up = false ∧ t.bay = s.bay ∧
    t.hold.records = s.hold.records ∧ t.pac.slots = s.pac.slots) ∧
  (∀ s : State, s.pow.box = .waking .retryOff → s.pow.retryTimer = some 0 → s.pow.attempts = 1 →
    exec .retryOffExpiry s =
      .next
        { s with
          pow.attempts := 2, pow.retryTimer := none, pow.box := .waking .railSettle, pow.pwrEn := true,
          pow.rst := true, pow.stabTimer := some s.pow.timing.stabilization }) ∧
  ∀ s : State,
    (s.pow.box ≠ .waking .railSettle ∨ s.pow.stabTimer ≠ some 0 → exec .stabilizationExpiry s = .next s) ∧
    (s.pow.box ≠ .waking .hostBoot ∨ s.pow.bootTimer ≠ some 0 → exec .bootDeadlineExpiry s = .next s) ∧
    (s.pow.box ≠ .waking .retryOff ∨ s.pow.retryTimer ≠ some 0 → exec .retryOffExpiry s = .next s)

/-- O22. The end of the retry off interval at attempt count 2 is a wake fault: SLEEP with the latch set, the hold queue
and its ring empty with every record counted as dropped, every session slot IDLE with nothing left behind, no stage
slot FILLED, the delivery FIFO empty, every bay that is not ABSENT OFF. -/
def Obligations.WakeFaultDiscardsWhatWaited : Prop :=
  ∀ s : State, s.pow.box = .waking .retryOff → s.pow.retryTimer = some 0 → s.pow.attempts = 2 → ∃ t,
    exec .retryOffExpiry s = .next t ∧ t.pow.box = .sleep ∧ t.pow.latch = true ∧ t.pow.pwrEn = s.pow.pwrEn ∧
    t.pow.rst = s.pow.rst ∧ t.pow.record = s.pow.record ∧ t.hold.records = [] ∧ t.hold.overflow = false ∧
    t.hold.drops = satAdd s.hold.drops s.hold.records.length ∧ t.hold.stales = s.hold.stales ∧
    t.cells.ring = { head := s.cells.ring.tail, tail := s.cells.ring.tail, used := 0 } ∧
    t.cells.mem = s.cells.mem ∧
    (∀ i : Slot, t.pac.slots[i] = { session := none, leftBehind := 0 }) ∧
    (∀ slot ∈ t.pac.stage, slot.isFilled = false) ∧ t.pac.fifo = [] ∧ t.bay.queue = [] ∧
    ∀ i : Bay, t.bay.bays[i].state = if s.bay.bays[i].state = .absent then .absent else .off

/-- O23. READY taken in HOST_BOOT ends the wake: the record takes the attempt count and the latch as it stands, RUN is
reached with the latch clear and the boot deadline stopped, the heartbeat starts when its window is not 0. For cause
set {HOST_LOST} HOST_RECOVERED is raised with the attempts as its detail: it stays pending while its kind is disabled
or the H-port DOWN, and its notice is built at once where it qualifies and the response queue has room for it and the
kinds before it. For another cause set the kind stays as it is while it is disabled or the H-port DOWN. The response,
behind what stood in the queue and before any notice, carries the whole record, the latch not yet cleared. With the
H-port UP a FRESH head of the hold queue takes the release position, and the head of the delivery FIFO becomes SENDING.
Some bytes of the wake record, that the raising comes before the building, and the result byte of a notice are the
model's choice (assumption logs 3, 38 and 40). -/
def Obligations.ReadyReachesRun : Prop :=
  ∀ (s : State) r p rest, Taken s .ready r p rest → ∃ t record, exec .ready s = .next t ∧
    record = { s.pow.record with attempts := s.pow.attempts, fault := s.pow.latch } ∧
    t.pow =
      { s.pow with
        box := .run, latch := false, bootTimer := none, record := record,
        heartbeatTimer :=
          if s.pow.timing.heartbeat = 0 then none else some (s.pow.timing.heartbeat * 1000) } ∧
    (s.host.up = true → s.host.sending.isSome = true →
      (s.host.responses ++ [mgmtFrame s.cfg r.src r.tag 0x0402 .ok record.carried]) <+: t.host.responses) ∧
    (s.pow.record.causes ≠ .hostLost → s.note.kinds[(7 : Fin 9)].enable = false ∨ s.host.up = false →
      t.note.kinds[(7 : Fin 9)] = s.note.kinds[(7 : Fin 9)]) ∧
    (s.pow.record.causes = .hostLost →
      (s.note.kinds[(7 : Fin 9)].enable = false ∨ s.host.up = false →
        t.note.kinds[(7 : Fin 9)] =
          { s.note.kinds[(7 : Fin 9)] with
            pending := true, count := satAdd s.note.kinds[(7 : Fin 9)].count 1,
            detail := some (.hostRecovered s.pow.attempts) }) ∧
      (s.note.kinds[(7 : Fin 9)].enable = true → s.host.up = true → s.host.sending.isSome = true →
        s.host.responses.length ≤ 7 →
        mgmtFrame s.cfg r.src 0 0xFF08 .ok
            (num 1 (satAdd s.note.kinds[(7 : Fin 9)].count 1).toNat ++ num 1 1 ++ num 1 s.pow.attempts) ∈
          t.host.responses ∧
        t.note.kinds[(7 : Fin 9)] =
          { s.note.kinds[(7 : Fin 9)] with pending := false, count := 0, detail := none })) ∧
    (s.host.up = true → ∀ q qs, s.hold.records = q :: qs → q.stale = false → s.hold.sending = false →
      t.hold = { s.hold with sending := true }) ∧
    (s.host.up = true → s.pac.delivery = none → ∀ k ks owner n, s.pac.fifo = k :: ks →
      s.pac.stage.getD k .free = .filled owner n →
      t.pac = { s.pac with stage := s.pac.stage.set k (.sending owner n), fifo := ks, delivery := some k }) ∧
    t.host.requests = rest ∧ t.host.hostAddr = r.src ∧ t.bay = s.bay ∧ t.cls = s.cls ∧ t.ans = s.ans

/-- O24. A lapse of the heartbeat window in RUN: the rail is off, the retry off interval runs, WAKING in RETRY_OFF with
attempt count 1 and a wake record of cause {HOST_LOST}; share-active clears; the bays and the held records stay, and no
session is halted. Elsewhere, or with time left, the command has no effect, which is the model's choice (assumption
logs 2 and 14). -/
def Obligations.HeartbeatLapseLosesTheHost : Prop :=
  (∀ s : State, s.pow.box ≠ .run ∨ s.pow.heartbeatTimer ≠ some 0 → exec .heartbeatLapse s = .next s) ∧
  ∀ s : State, s.pow.box = .run → s.pow.heartbeatTimer = some 0 → ∃ t, exec .heartbeatLapse s = .next t ∧
    t.pow.box = .waking .retryOff ∧ t.pow.attempts = 1 ∧ t.pow.retryTimer = some 2000 ∧
    t.pow.heartbeatTimer = none ∧ t.pow.rst = true ∧ t.pow.pwrEn = false ∧
    t.pow.record = { causes := .hostLost, attempts := 1, fault := false, demanded := 0 } ∧
    t.host.up = false ∧ t.share.active = false ∧ t.share.timer = none ∧ t.bay = s.bay ∧
    t.hold.records = s.hold.records ∧ t.cells = s.cells ∧
    ∀ i : Slot, t.pac.slots[i].session = s.pac.slots[i].session.map Session.fallen

/-- O25. The button: the edge the edge select does not name does nothing, nor does a press while a reset is held, as
R185 says of a press during the reset; that a reset is held until the first step with no command waiting is the model's
choice (assumption log 39). The other edge raises its notice in RUN and nothing else; in SLEEP_ENTRY it is latched
where the source is enabled; in SLEEP it starts a wake even while the latch is set, the record showing the latch, its
bay set demanded together with every OFF bay that a session needs (one demand: assumption log 19); in WAKING, and for a
disabled source outside RUN, it does nothing. That a kind raised here waits for a build of its own is the model's
choice (assumption log 21). -/
def Obligations.ButtonEventsByBoxState : Prop :=
  ∀ (edge : ButtonEdge) (s : State),
    (edge ≠ s.pow.buttonEdge ∨ s.pow.held ≠ none → exec (.buttonEvent edge) s = .next s) ∧
    (edge = s.pow.buttonEdge → s.pow.held = none →
      (s.pow.box = .run → exec (.buttonEvent edge) s = .next (raise .button (.button edge) s)) ∧
      ((∃ sub, s.pow.box = .waking sub) ∨ (s.pow.box ≠ .run ∧ s.pow.button.enable = false) →
        exec (.buttonEvent edge) s = .next s) ∧
      (s.pow.box = .sleepEntry → s.pow.button.enable = true →
        exec (.buttonEvent edge) s = .next { s with pow.button.pending := true }) ∧
      (s.pow.box = .sleep → s.pow.button.enable = true → s.pow.anyPending = false → ∃ t,
        exec (.buttonEvent edge) s = .next t ∧ t.pow.box = .waking .railSettle ∧ t.pow.attempts = 1 ∧
        t.pow.record =
          { causes := .sources false false true false false, attempts := 1, fault := s.pow.latch,
            demanded := s.pow.button.bays } ∧
        t.pow.latch = s.pow.latch ∧ t.pow.pwrEn = true ∧ t.pow.rst = true ∧
        t.pow.button.enable = decide (s.pow.button.arm = .continuous) ∧ WakeDemands s.pow.button.bays s t ∧
        t.pac = s.pac ∧ t.hold = s.hold))

/-- O26. MINUTE_ENTERED does nothing to an UNSET clock, before the minute is due, nor during a reset; else the clock
enters the next minute of the week with count 0, and where no enabled entry names that minute nothing else changes.
Where one does, in RUN the ALARM notice carries the lowest such entry; outside RUN the ALARM source has one event:
latched in SLEEP_ENTRY, the start of a wake in SLEEP, its bay set demanded together with every OFF bay that a session
needs, and neither in WAKING, for a disabled source or with the wake-fault latch set. When a minute is due, that a held
reset only counts the time, and that the two sets of bays are one demand, is the model's choice (assumption logs 2, 15,
19 and 39). That a kind raised here waits for a build of its own is the model's choice (assumption log 21). -/
def Obligations.MinutesAndAlarms : Prop :=
  (∀ s : State, s.pow.clock.set = false ∨ s.pow.clock.due = false ∨ s.pow.held ≠ none →
    exec .minuteEntered s = .next s) ∧
  ∀ (s u : State) (minute : Nat), s.pow.clock.set = true → s.pow.clock.due = true → s.pow.held = none →
    minute = (if s.pow.clock.minute < 10079 then s.pow.clock.minute + 1 else 0) →
    u = { s with pow.clock := { minute := minute, count := 0, set := true, due := false } } →
    ((∀ i : Fin 8, s.pow.alarms[i].on = true → s.pow.alarms[i].minute ≠ minute) →
      exec .minuteEntered s = .next u) ∧
    ∀ i : Fin 8, s.pow.alarms[i].on = true → s.pow.alarms[i].minute = minute →
      (∀ j : Fin 8, j < i → s.pow.alarms[j].on = true → s.pow.alarms[j].minute ≠ minute) →
      (s.pow.box = .run → exec .minuteEntered s = .next (raise .alarm (.alarm i minute) u)) ∧
      ((∃ sub, s.pow.box = .waking sub) ∨
          (s.pow.box ≠ .run ∧ (s.pow.alarm.enable = false ∨ s.pow.latch = true)) →
        exec .minuteEntered s = .next u) ∧
      (s.pow.box = .sleepEntry → s.pow.alarm.enable = true → s.pow.latch = false →
        exec .minuteEntered s = .next { u with pow.alarm.pending := true }) ∧
      (s.pow.box = .sleep → s.pow.alarm.enable = true → s.pow.latch = false → s.pow.anyPending = false → ∃ t,
        exec .minuteEntered s = .next t ∧ t.pow.box = .waking .railSettle ∧ t.pow.attempts = 1 ∧
        t.pow.record =
          { causes := .sources false false false true false, attempts := 1, fault := false,
            demanded := s.pow.alarm.bays } ∧
        t.pow.pwrEn = true ∧ t.pow.rst = true ∧ t.pow.anyPending = false ∧
        t.pow.alarm.enable = decide (s.pow.alarm.arm = .continuous) ∧ t.pow.clock = u.pow.clock ∧
        WakeDemands s.pow.alarm.bays s t ∧
        t.pow.alarms = s.pow.alarms ∧ t.note = s.note ∧ t.hold = s.hold ∧ t.cells = s.cells ∧ t.pac = s.pac)

/-- O27. The settings of clock, alarms, timing and heartbeat: SET_CLOCK sets the clamped minute with count 0;
SET_ALARMS replaces the whole table, each minute clamped; SET_TIMING stores its clamped values, stopping, starting or
leaving the heartbeat timer; HEARTBEAT restarts a timer whose window is not 0. Each is taken in RUN alone, and nothing
else changes. That SET_CLOCK makes nothing due, so that a minute which was due and not yet entered is dropped and never
entered, is the model's choice (assumption log 15). -/
def Obligations.PowerSettingsAreStored : Prop :=
  (∀ kind : ReqKind, kind ∈ [.setClock, .setAlarms, .setTiming, .heartbeat] →
    ∀ box : BoxState, admission box kind = .taken ↔ box = .run) ∧
  (∀ (s : State) r p rest, Taken s .setClock r p rest →
    exec .setClock s =
      .next
        (respond r .ok (num 2 (min (natAt p 0 2) 10079) ++ [0, 0] ++ [1])
          { dequeue r rest s with
            pow.clock := { minute := min (natAt p 0 2) 10079, count := 0, set := true, due := false } })) ∧
  (∀ (s : State) r p rest, Taken s .setAlarms r p rest → ∃ alarms,
    exec .setAlarms s =
      .next
        (respond r .ok ((List.finRange 8).map fun i => flag alarms[i].on ++ num 2 alarms[i].minute).flatten
          { dequeue r rest s with pow.alarms := alarms }) ∧
    ∀ i : Fin 8, alarms[i] =
      { on := decide (byteAt p (3 * i.val) ≠ 0), minute := min (natAt p (3 * i.val + 1) 2) 10079 }) ∧
  (∀ (s : State) r p rest, Taken s .setTiming r p rest → ∃ timing : Timing,
    exec .setTiming s =
      .next
        (respond r .ok timing.carried
          { dequeue r rest s with
            pow.timing := timing,
            pow.heartbeatTimer :=
              if timing.heartbeat = 0 then none
              else if s.pow.timing.heartbeat = 0 then some (timing.heartbeat * 1000)
              else s.pow.heartbeatTimer }) ∧
    timing.stabilization ∈ [8, 16, 32, 64] ∧ timing.boot ∈ [2, 5, 10, 30, 60] ∧
    timing.heartbeat = natAt p 2 1 ∧ timing.entry = max 1 (min 60 (natAt p 3 1)) ∧
    (∀ v ∈ [8, 16, 32, 64], (max timing.stabilization (natAt p 0 1) - min timing.stabilization (natAt p 0 1) <
        max v (natAt p 0 1) - min v (natAt p 0 1)) ∨
      (max timing.stabilization (natAt p 0 1) - min timing.stabilization (natAt p 0 1) =
        max v (natAt p 0 1) - min v (natAt p 0 1) ∧ v ≤ timing.stabilization)) ∧
    (∀ v ∈ [2, 5, 10, 30, 60], (max timing.boot (natAt p 1 1) - min timing.boot (natAt p 1 1) <
        max v (natAt p 1 1) - min v (natAt p 1 1)) ∨
      (max timing.boot (natAt p 1 1) - min timing.boot (natAt p 1 1) =
        max v (natAt p 1 1) - min v (natAt p 1 1) ∧ v ≤ timing.boot))) ∧
  ∀ (s : State) r p rest, Taken s .heartbeat r p rest →
    exec .heartbeat s =
      .next
        (respond r .ok []
          (if s.pow.timing.heartbeat = 0 then dequeue r rest s
           else
             { dequeue r rest s with
               pow.heartbeatTimer := some (s.pow.timing.heartbeat * 1000) }))

/-- O28. SET_WAKE replaces the enable, the arm mode, the bay set (but the LAN source's) and, for BUTTON and BAY, the
edge select of one source; a value that names nothing allowed is refused with BAD_ARGUMENT; an edge select carried for
the other three sources is ignored. That a bay set above 3 is refused for LAN too is the model's choice (assumption log
20). -/
def Obligations.SetWakeReplacesOneSource : Prop :=
  ∀ (s : State) r p rest, Taken s .setWake r p rest →
    ((4 < natAt p 0 1 ∨ 1 < natAt p 2 1 ∨ 15 < natAt p 3 1 ∨
        ((natAt p 0 1 = 2 ∨ natAt p 0 1 = 4) ∧ 1 < natAt p 4 1)) →
      exec .setWake s = .next (respond r .badArgument [] (dequeue r rest s))) ∧
    (natAt p 2 1 ≤ 1 → natAt p 3 1 ≤ 15 →
      (natAt p 0 1 = 0 → ∃ data,
        exec .setWake s =
          .next
            (respond r .ok data
              { dequeue r rest s with
                pow.lan :=
                  { s.pow.lan with
                    enable := decide (natAt p 1 1 ≠ 0),
                    arm := if natAt p 2 1 = 0 then .oneShot else .continuous } })) ∧
      (natAt p 0 1 = 1 → ∃ data,
        exec .setWake s =
          .next
            (respond r .ok data
              { dequeue r rest s with
                pow.signature :=
                  { s.pow.signature with
                    enable := decide (natAt p 1 1 ≠ 0),
                    arm := if natAt p 2 1 = 0 then .oneShot else .continuous,
                    bays := BitVec.ofNat 4 (natAt p 3 1) } })) ∧
      (natAt p 0 1 = 2 → natAt p 4 1 ≤ 1 → ∃ data,
        exec .setWake s =
          .next
            (respond r .ok data
              { dequeue r rest s with
                pow.button :=
                  { s.pow.button with
                    enable := decide (natAt p 1 1 ≠ 0),
                    arm := if natAt p 2 1 = 0 then .oneShot else .continuous,
                    bays := BitVec.ofNat 4 (natAt p 3 1) },
                pow.buttonEdge := if natAt p 4 1 = 0 then .press else .release })) ∧
      (natAt p 0 1 = 3 → ∃ data,
        exec .setWake s =
          .next
            (respond r .ok data
              { dequeue r rest s with
                pow.alarm :=
                  { s.pow.alarm with
                    enable := decide (natAt p 1 1 ≠ 0),
                    arm := if natAt p 2 1 = 0 then .oneShot else .continuous,
                    bays := BitVec.ofNat 4 (natAt p 3 1) } })) ∧
      (natAt p 0 1 = 4 → natAt p 4 1 ≤ 1 → ∃ data,
        exec .setWake s =
          .next
            (respond r .ok data
              { dequeue r rest s with
                pow.bay :=
                  { s.pow.bay with
                    enable := decide (natAt p 1 1 ≠ 0),
                    arm := if natAt p 2 1 = 0 then .oneShot else .continuous,
                    bays := BitVec.ofNat 4 (natAt p 3 1) },
                pow.bayEdge := if natAt p 4 1 = 0 then .insert else .remove })))

/-! ## The hold queue -/

/-- O29. A frame handed to the hold queue: with the wake-fault latch or the overflow latch set it is only counted as
dropped; at 512 records, or without room for its cells, it is dropped and counted, the overflow latch becomes set and
HOLD_OVERFLOW is raised with the limit; else it is appended at the tail of the list and of the ring, FRESH, with the
bytes that O30 speaks of. That a kind raised here waits for a build of its own is the model's choice (assumption log
21). -/
def Obligations.HeldFramesAreTestedInOrder : Prop :=
  ∀ (frame : List Byte) (cls : HeldClass) (entry : Option (Fin 64)) (arrival : Word32) (s : State) (n : Nat),
    n = (frame.length + 255) / 256 →
    (s.pow.latch = true ∨ s.hold.overflow = true →
      holdFrame frame cls entry arrival s = { s with hold.drops := satAdd s.hold.drops 1 }) ∧
    (s.pow.latch = false → s.hold.overflow = false →
      (512 ≤ s.hold.records.length ∨ s.cells.part.hold - s.cells.ring.used < n →
        holdFrame frame cls entry arrival s =
          { s with
            hold.drops := satAdd s.hold.drops 1, hold.overflow := true,
            note.kinds := vecMod s.note.kinds 4 fun k =>
              { k with
                pending := true, count := satAdd k.count 1,
                detail := some
                  (.holdOverflow (if 512 ≤ s.hold.records.length then .records else .cells) cls entry frame.length
                    s.hold.records.length s.cells.ring.used) } }) ∧
      (s.hold.records.length < 512 → n ≤ s.cells.part.hold - s.cells.ring.used →
        holdFrame frame cls entry arrival s =
          { s with
            cells.mem := (appendHeld frame cls entry arrival s).cells.mem,
            cells.ring.tail := (s.cells.ring.tail + n) % s.cells.part.hold,
            cells.ring.used := s.cells.ring.used + n,
            hold.records := s.hold.records ++
              [{ firstCell := s.cells.ring.tail, cells := n, length := frame.length, cls := cls, entry := entry,
                 arrival := arrival, stale := false }] }))

/-- O30. A frame appended to the ring reads back byte for byte from its first cell, also where its run wraps, and no
byte outside its cells is changed. -/
def Obligations.AppendedFramesReadBack : Prop :=
  ∀ (frame : List Byte) (cls : HeldClass) (entry : Option (Fin 64)) (arrival : Word32) (s : State) (n : Nat),
    n = (frame.length + 255) / 256 → s.cells.ring.tail < s.cells.part.hold → n ≤ s.cells.part.hold →
    s.cells.part.answer + s.cells.part.hold ≤ 4096 →
    readRing (appendHeld frame cls entry arrival s).cells.mem s.cells.part s.cells.ring.tail frame.length = frame ∧
    ∀ a, a < storeBytes →
      (∀ c < n, a / 256 ≠ s.cells.part.answer + (s.cells.ring.tail + c) % s.cells.part.hold) →
      (appendHeld frame cls entry arrival s).cells.mem.read a = s.cells.mem.read a

/-- O31. A step of release in RUN with the H-port UP and the release position empty: a FRESH head takes the release
position and its bytes, less the frame check sequence, join the L path; a STALE head leaves the list with its cells, is
counted, raises STALE_DROPPED, and release goes on from the next head. Outside RUN, with the H-port DOWN or the
position taken, nothing is released. RECORD_STALE makes one record of the list STALE when its age is greater than the
hold age limit, and changes nothing else; CLEAR_HOLD, taken in RUN alone, clears the overflow latch and answers with
the latch as it stood and the record count. That the tick which first finds a record so has made it STALE already is
the model's choice (assumption log 15), as is that STALE_DROPPED, once raised, waits for a build of its own (log 21).
-/
def Obligations.ReleaseJudgesTheHead : Prop :=
  (∀ s : State,
    (s.pow.box ≠ .run ∨ s.host.up = false ∨ s.hold.sending = true ∨ s.hold.records = [] → release s = s) ∧
    ∀ r rest, s.pow.box = .run → s.host.up = true → s.hold.sending = false → s.hold.records = r :: rest →
      (r.stale = false → s.host.sending.isSome = true →
        release s =
          { s with
            hold.sending := true,
            host.lpath := s.host.lpath ++
              [{ released := true,
                 data := frameData (readRing s.cells.mem s.cells.part r.firstCell r.length) }] }) ∧
      (r.stale = true →
        release s = release
          { s with
            cells.ring.head := (s.cells.ring.head + r.cells) % s.cells.part.hold,
            cells.ring.used := s.cells.ring.used - r.cells,
            hold.records := rest, hold.overflow := s.hold.overflow && !rest.isEmpty,
            hold.stales := satAdd s.hold.stales 1,
            note.kinds := vecMod s.note.kinds 5 fun k =>
              { k with
                pending := true, count := satAdd k.count 1,
                detail := some (.staleDropped r.cls r.entry (s.time.ms - r.arrival).toNat) } })) ∧
  (∀ (position : Nat) (s : State), ∃ records,
    exec (.recordStale position) s = .next { s with hold.records := records } ∧
    records.length = s.hold.records.length ∧
    ∀ k (h : k < records.length) (h' : k < s.hold.records.length),
      records[k] =
        if k = position ∧ s.hold.limit * 1000 < (s.time.ms - s.hold.records[k].arrival).toNat then
          { s.hold.records[k] with stale := true }
        else s.hold.records[k]) ∧
  (admission .run .clearHold = .taken ∧ admission .sleepEntry .clearHold = .refused ∧
    admission (.waking .hostBoot) .clearHold = .refused ∧ admission .sleep .clearHold = .notAnswered ∧
    admission (.waking .railSettle) .clearHold = .notAnswered ∧
    admission (.waking .retryOff) .clearHold = .notAnswered) ∧
  ∀ (s : State) r p rest, Taken s .clearHold r p rest →
    exec .clearHold s =
      .next
        (respond r .ok ((if s.hold.overflow then 1 else 0) :: num 2 s.hold.records.length)
          { dequeue r rest s with hold.overflow := false })

/-! ## Bays -/

/-- O32. A demand of a set that is not empty: the OFF bays of the set become QUEUED and join the tail of the spin-up
queue in ascending order, the idle timers of its READY bays that run restart, no other bay changes, and then the head
is tried; a demand of the empty set changes nothing. With no room to admit the head that is all. Trying the head: a
head whose cost the free budget covers leaves the queue, is SPINNING with its power on and its spin timer at the full
interval, and the next head is tried; a head it does not cover waits, and so does every bay behind it. The free budget
is the budget less the costs of the SPINNING bays. -/
def Obligations.DemandsQueueAndTheHeadIsTried : Prop :=
  (∀ b : BayControl, b.freeBudget = b.budget - b.spinningCost ∧
    b.spinningCost = ((allBays.filter fun i => b.bays[i].state = .spinning).map fun i => b.bays[i].settings.cost).sum) ∧
  (∀ s : State, demand 0 s = s) ∧
  (∀ (set : BaySet) (s : State) (bays : Vector BayRecord 4), set ≠ 0 →
    (∀ i : Bay, bays[i] =
      if hasBay set i = true ∧ s.bay.bays[i].state = .off then { s.bay.bays[i] with state := .queued }
      else if hasBay set i = true ∧ s.bay.bays[i].state = .ready ∧ s.bay.bays[i].idleTimer ≠ none then
        { s.bay.bays[i] with
          idleTimer :=
            if s.bay.bays[i].settings.idle = 0 then none else some (s.bay.bays[i].settings.idle * 60000) }
      else s.bay.bays[i]) →
    demand set s = tryHead
      { s with
        bay.bays := bays,
        bay.queue := s.bay.queue ++
          allBays.filter fun i => hasBay set i && decide (s.bay.bays[i].state = .off) }) ∧
  (∀ (set : BaySet) (s : State),
    (∀ i : Bay, s.bay.freeBudget < s.bay.bays[i].settings.cost) →
    (demand set s).bay.queue =
      s.bay.queue ++ allBays.filter fun i => hasBay set i && decide (s.bay.bays[i].state = .off) ∧
    demand set s = { s with bay := (demand set s).bay } ∧ (demand set s).bay.budget = s.bay.budget ∧
    ∀ i : Bay, (demand set s).bay.bays[i] =
      if hasBay set i = true ∧ s.bay.bays[i].state = .off then { s.bay.bays[i] with state := .queued }
      else if hasBay set i = true ∧ s.bay.bays[i].state = .ready ∧ s.bay.bays[i].idleTimer ≠ none then
        { s.bay.bays[i] with
          idleTimer :=
            if s.bay.bays[i].settings.idle = 0 then none else some (s.bay.bays[i].settings.idle * 60000) }
      else s.bay.bays[i]) ∧
  ∀ (s : State),
    (s.bay.queue = [] → tryHead s = s) ∧
    ∀ b rest, s.bay.queue = b :: rest →
      (s.bay.freeBudget < s.bay.bays[b].settings.cost → tryHead s = s) ∧
      (s.bay.bays[b].settings.cost ≤ s.bay.freeBudget → tryHead s = tryHead
        { s with
          bay.queue := rest,
          bay.bays := vecMod s.bay.bays b fun x =>
            { x with state := .spinning, pwr := true, spinTimer := some (x.settings.spin * 1000) } })

/-- O33. An insertion changes an ABSENT bay alone: it is OFF, BAY_CHANGE is raised, and a bay that a session needs is
demanded. A removal makes a present bay ABSENT with its power and timers gone and raises BAY_CHANGE: from QUEUED it
leaves the spin-up queue, the others in their order, and where it was the head the new head is tried; from SPINNING its
cost goes back to the free budget and the head is tried; from READY it leaves the READY set and its sessions fall; the
sessions of a needed bay are then halted with BAY_LOST in ascending slot order. An edge that the edge select names is
also an event of the BAY source: latched in SLEEP_ENTRY, the start of a wake in SLEEP, else nothing. What an edge does
that cannot occur or that comes during a reset, the order of report and demand where the report starts a wake, when the
arbiter runs, and that a raised BAY_CHANGE waits for a build of its own, are the model's choice (assumption logs 2, 4,
17, 21 and 39). -/
def Obligations.PresenceEdgesChangeTheBay : Prop :=
  (∀ (i : Bay) (s : State),
    ((∀ (j : Slot) x, s.pac.slots[j].session = some x → hasBay x.bays i = false) → bayLost i s = arbitrate s) ∧
    ∀ (j : Slot) x, s.pac.slots[j].session = some x → hasBay x.bays i = true →
      (∀ k : Slot, k < j → ∀ y, s.pac.slots[k].session = some y → hasBay y.bays i = false) →
      bayLost i s = bayLost i (haltSession j .bayLost s)) ∧
  (∀ (i : Bay) (s : State),
    (s.bay.bays[i].state ≠ .absent ∨ s.pow.held ≠ none → exec (.bayInsertion i) s = .next s) ∧
    (s.bay.bays[i].state = .absent ∨ s.pow.held ≠ none → exec (.bayRemoval i) s = .next s)) ∧
  (∀ (i : Bay) (s t : State), BaysAgree s → s.bay.bays[i].state = .absent → s.pow.held = none →
    t = raise .bayChange (.bayChange i .insert .off)
      { s with bay.bays := vecMod s.bay.bays i fun b => { b with state := .off, present := true } } →
    (¬ BayEventHeard .insert s ∨ s.pow.box = .run ∨ (∃ sub, s.pow.box = .waking sub) →
      exec (.bayInsertion i) s = .next (if s.bay.bays[i].needed = 0 then t else demand (oneBay i) t)) ∧
    (BayEventHeard .insert s → s.pow.box = .sleepEntry →
      exec (.bayInsertion i) s =
        .next
          (if s.bay.bays[i].needed = 0 then { t with pow.bay.pending := true }
           else demand (oneBay i) { t with pow.bay.pending := true })) ∧
    (BayEventHeard .insert s → s.pow.box = .sleep → s.pow.anyPending = false → ∃ u,
      exec (.bayInsertion i) s = .next u ∧ BayWakeStarted s u ∧ u.note = t.note ∧ u.pac = s.pac ∧
      u.bay.bays[i].present = true ∧ u.bay.bays[i].needed = s.bay.bays[i].needed ∧
      (s.bay.bays[i].needed = 0 → hasBay s.pow.bay.bays i = false → u.bay.bays[i].state = .off) ∧
      (0 < s.bay.bays[i].needed ∨ hasBay s.pow.bay.bays i = true →
        u.bay.bays[i].state = .queued ∨ u.bay.bays[i].state = .spinning))) ∧
  ∀ (i : Bay) (s d t : State) (slots : Vector SessionSlot 4) (left : BayState), BaysAgree s →
    left = s.bay.bays[i].state → left ≠ .absent → s.pow.held = none →
    (∀ j : Slot, slots[j] =
      { s.pac.slots[j] with
        session := s.pac.slots[j].session.map fun x => if hasBay x.bays i then x.fallen else x }) →
    d = { s with
          bay.bays := vecMod s.bay.bays i fun b =>
            { b with state := .absent, pwr := false, spinTimer := none, idleTimer := none, present := false },
          bay.queue := s.bay.queue.filter fun b => b ≠ i,
          pac.readySet := if left = .ready then s.pac.readySet &&& ~~~ oneBay i else s.pac.readySet,
          pac.slots := if left = .ready then slots else s.pac.slots } →
    t = raise .bayChange (.bayChange i .remove left)
      (if left = .spinning ∨ (left = .queued ∧ s.bay.queue.head? = some i) then tryHead d else d) →
    (left = .spinning → d.bay.spinningCost + s.bay.bays[i].settings.cost = s.bay.spinningCost) ∧
    (¬ BayEventHeard .remove s ∨ s.pow.box = .run ∨ (∃ sub, s.pow.box = .waking sub) →
      exec (.bayRemoval i) s = .next (if s.bay.bays[i].needed = 0 then t else bayLost i t)) ∧
    (BayEventHeard .remove s → s.pow.box = .sleepEntry →
      exec (.bayRemoval i) s =
        .next
          (if s.bay.bays[i].needed = 0 then { t with pow.bay.pending := true }
           else bayLost i { t with pow.bay.pending := true })) ∧
    (BayEventHeard .remove s → s.pow.box = .sleep → s.pow.anyPending = false → ∃ u,
      exec (.bayRemoval i) s = .next u ∧ BayWakeStarted s u ∧ u.bay.bays[i].state = .absent ∧
      u.bay.bays[i].present = false) ∧
    (0 < s.bay.bays[i].needed → ∃ u, exec (.bayRemoval i) s = .next u ∧ u.bay.bays[i].state = .absent ∧
      ∀ j : Slot, ∀ x, s.pac.slots[j].session = some x → hasBay x.bays i = true →
        u.pac.slots[j].session = none ∧
          u.pac.slots[j].leftBehind = s.pac.slots[j].leftBehind + x.undelivered)

/-- O34. The end of the spin interval makes a SPINNING bay READY, joins it to the READY set, starts the idle timer of a
bay no session needs and tries the head; the end of the idle interval switches a READY bay off and takes it from the
READY set; a selected activity edge restarts a running idle timer, and any edge elsewhere restarts nothing. That an
expiry with time left or in another state, and an edge during a reset, have no effect, that an edge counts whatever
level the line is held to have, and that the line is asserted after a rising edge and withdrawn after a falling one, is
the model's choice (assumption logs 2, 14, 39 and 44). -/
def Obligations.BayTimersAndActivity : Prop :=
  (∀ (i : Bay) (s : State), s.bay.bays[i].state = .spinning → s.bay.bays[i].spinTimer = some 0 →
    exec (.spinExpiry i) s =
      .next
        (tryHead
          { s with
            pac.readySet := s.pac.readySet ||| oneBay i,
            bay.bays := vecMod s.bay.bays i fun b =>
              { b with
                state := .ready, spinTimer := none,
                idleTimer :=
                  if b.needed = 0 ∧ b.settings.idle ≠ 0 then some (b.settings.idle * 60000) else none } })) ∧
  (∀ (i : Bay) (s : State),
    (s.bay.bays[i].state ≠ .spinning ∨ s.bay.bays[i].spinTimer ≠ some 0 → exec (.spinExpiry i) s = .next s) ∧
    (s.bay.bays[i].state ≠ .ready ∨ s.bay.bays[i].idleTimer ≠ some 0 → exec (.idleExpiry i) s = .next s)) ∧
  (∀ (i : Bay) (s : State), s.bay.bays[i].state = .ready → s.bay.bays[i].idleTimer = some 0 → ∃ slots,
    exec (.idleExpiry i) s =
      .next
        { s with
          pac.readySet := s.pac.readySet &&& ~~~ oneBay i, pac.slots := slots,
          bay.bays := vecMod s.bay.bays i fun b =>
            { b with state := .off, pwr := false, spinTimer := none, idleTimer := none } } ∧
    ∀ j : Slot, slots[j] =
      { s.pac.slots[j] with
        session := s.pac.slots[j].session.map fun x => if hasBay x.bays i then x.fallen else x }) ∧
  ∀ (i : Bay) (edge : LineEdge) (s : State),
    (s.pow.held ≠ none → exec (.activityEdge i edge) s = .next s) ∧
    (s.pow.held = none →
      exec (.activityEdge i edge) s =
        .next
          { s with
            bay.bays := vecMod s.bay.bays i fun b =>
              { b with
                active := decide (edge = .rising),
                idleTimer :=
                  if b.state = .ready ∧ b.idleTimer ≠ none ∧
                      (b.settings.edge = .both ∨ (b.settings.edge = .rising ∧ edge = .rising) ∨
                        (b.settings.edge = .falling ∧ edge = .falling)) then
                    (if b.settings.idle = 0 then none else some (b.settings.idle * 60000))
                  else b.idleTimer } })

/-- O35. SPIN_UP is one demand of its set and answers each bay's state and the queue after it; SPIN_DOWN refuses a bay
above 3, an ABSENT bay and a needed bay, in this order, else makes the bay OFF and answers the state it left: from OFF
nothing changes, from QUEUED it leaves the spin-up queue and from SPINNING its cost goes back to the free budget, and
the head is tried where it was the head or SPINNING, and from READY it leaves the READY set and its sessions in RISE,
CRUISE or YIELD fall; no other bay's record changes but by the trying of the head. Each refused request changes
nothing. The order of the ABSENT and the needed check is the model's choice (assumption log 42). -/
def Obligations.SpinRequests : Prop :=
  (∀ (s : State) r p rest, Taken s .spinUp r p rest →
    (15 < natAt p 0 1 → exec .spinUp s = .next (respond r .badArgument [] (dequeue r rest s))) ∧
    (natAt p 0 1 ≤ 15 → ∃ t, t = demand (BitVec.ofNat 4 (natAt p 0 1)) (dequeue r rest s) ∧
      exec .spinUp s =
        .next
          (respond r .ok
            ((allBays.map fun i => num 1 t.bay.bays[i].state.code).flatten ++ num 1 t.bay.queue.length ++
              (t.bay.queue.map fun i => num 1 i.val).flatten) t))) ∧
  ∀ (s : State) r p rest, Taken s .spinDown r p rest → BaysAgree s →
    (3 < natAt p 0 1 → exec .spinDown s = .next (respond r .badArgument [] (dequeue r rest s))) ∧
    ∀ i : Bay, natAt p 0 1 = i.val →
      (s.bay.bays[i].state = .absent → exec .spinDown s = .next (respond r .notFound [] (dequeue r rest s))) ∧
      (s.bay.bays[i].state ≠ .absent → 0 < s.bay.bays[i].needed →
        exec .spinDown s = .next (respond r .busy [] (dequeue r rest s))) ∧
      (s.bay.bays[i].state ≠ .absent → s.bay.bays[i].needed = 0 →
        ∀ (d : State) (slots : Vector SessionSlot 4) (left : BayState), left = s.bay.bays[i].state →
        (∀ j : Slot, slots[j] =
          { s.pac.slots[j] with
            session := s.pac.slots[j].session.map fun x => if hasBay x.bays i then x.fallen else x }) →
        d = { dequeue r rest s with
              bay.bays := vecMod s.bay.bays i fun b =>
                { b with state := .off, pwr := false, spinTimer := none, idleTimer := none },
              bay.queue := s.bay.queue.filter fun b => b ≠ i,
              pac.readySet := if left = .ready then s.pac.readySet &&& ~~~ oneBay i else s.pac.readySet,
              pac.slots := if left = .ready then slots else s.pac.slots } →
        exec .spinDown s =
          .next
            (respond r .ok (num 1 left.code)
              (if left = .spinning ∨ (left = .queued ∧ s.bay.queue.head? = some i) then tryHead d else d)) ∧
        (left = .off → d = dequeue r rest s) ∧
        (left = .spinning → d.bay.spinningCost + s.bay.bays[i].settings.cost = s.bay.spinningCost))

/-- O36. SET_BAYS refuses an edge that names none of the three with BAD_ARGUMENT, then a request taken while a bay is
QUEUED or SPINNING with BUSY; else it stores for each bay the clamped cost, no higher than the budget, the clamped spin
interval, the idle interval nearest to the carried one, NEVER for 0 and the larger of two equally near, and the carried
activity edge; it stops, starts or leaves each idle timer, changes nothing else, and answers what it has stored. -/
def Obligations.SetBaysStoresClampedSettings : Prop :=
  ∀ (s : State) r p rest, Taken s .setBays r p rest →
    ((∃ i : Bay, 2 < natAt p (4 * i.val + 3) 1) →
      exec .setBays s = .next (respond r .badArgument [] (dequeue r rest s))) ∧
    ((∀ i : Bay, natAt p (4 * i.val + 3) 1 ≤ 2) →
      ((∃ i : Bay, s.bay.bays[i].state = .queued ∨ s.bay.bays[i].state = .spinning) →
        exec .setBays s = .next (respond r .busy [] (dequeue r rest s))) ∧
      ((∀ i : Bay, s.bay.bays[i].state ≠ .queued ∧ s.bay.bays[i].state ≠ .spinning) →
        ∃ (bays : Vector BayRecord 4) (budget : Nat),
        exec .setBays s =
          .next
            (respond r .ok ((allBays.map fun i => bays[i].settings.carried).flatten ++ num 1 budget)
              { dequeue r rest s with bay.bays := bays, bay.budget := budget }) ∧
        budget = max 1 (min 8 (natAt p 16 1)) ∧
        ∀ i : Bay, ∃ (new : BaySettings) (idle : Nat), idle = natAt p (4 * i.val + 2) 1 ∧
          bays[i] =
            { s.bay.bays[i] with
              settings := new,
              idleTimer :=
                if new.idle = 0 then none
                else if s.bay.bays[i].settings.idle = 0 ∧ s.bay.bays[i].state = .ready ∧
                    s.bay.bays[i].needed = 0 then
                  some (new.idle * 60000)
                else s.bay.bays[i].idleTimer } ∧
          new.cost = min (max 1 (min 4 (natAt p (4 * i.val) 1))) budget ∧
          new.spin = max 1 (min 30 (natAt p (4 * i.val + 1) 1)) ∧
          new.edge =
            (if natAt p (4 * i.val + 3) 1 = 0 then .rising
             else if natAt p (4 * i.val + 3) 1 = 1 then .falling else .both) ∧
          (idle = 0 → new.idle = 0) ∧
          (idle ≠ 0 → new.idle ∈ [5, 10, 20, 30, 60] ∧
            ∀ v ∈ [5, 10, 20, 30, 60],
              (max new.idle idle - min new.idle idle < max v idle - min v idle) ∨
                (max new.idle idle - min new.idle idle = max v idle - min v idle ∧ v ≤ new.idle))))

/-! ## Sessions -/

/-- O37. An OFFER by the rows of Table 7.4, in their order: BAD_OFFER, WAKE_FAULT, NO_STAGE, stored as the follow-on of
the peer's session, PEER_BUSY, NO_SLOT, or a session in the lowest-numbered IDLE slot; a DECLINE, with its reason's
code, only joins the pacing-message queue. A message joins that queue, whose head starts on a LAN that is UP and free,
while it holds fewer than 32, a DECLINE fewer than 28, a GRANT fewer than 24; a reply without room only raises the
reply-lost count. A session that starts is RUNNING with T = NB, nothing received or outstanding, next sequence 1, at
FLOOR, its first grant due at once, with a copy of the profile its offer names and the peak and the taper point that
O44 gives for it; with the LAN busy and room in the queue, ACCEPT joins it. The needed counts of its bays rise by 1,
those of a session it follows fall by 1, the idle timers of READY bays stop and start with them, and its bay set is
demanded. The slot's left-behind count and every other slot stay. The source address and the check sequence of the
frame that starts are the model's choice (assumption logs 9 and 7), as is that the first grant, due at once, waits for
GRANT_ISSUE (log 17). -/
def Obligations.OffersAreDecidedByTheTable : Prop :=
  (∀ (s t : State) (h : Handover) rest, s.pac.incoming = h :: rest → h.message = some .offer →
    t = { s with pac.incoming := rest } →
    (h.nb = 0 → exec .offer s = .next (queueMsg (declineMsg h.peer h.tag .badOffer) t)) ∧
    (h.nb ≠ 0 → s.pow.latch = true → exec .offer s = .next (queueMsg (declineMsg h.peer h.tag .wakeFault) t)) ∧
    (h.nb ≠ 0 → s.pow.latch = false → s.cells.part.stage / 32 = 0 →
      exec .offer s = .next (queueMsg (declineMsg h.peer h.tag .noStage) t)) ∧
    (h.nb ≠ 0 → s.pow.latch = false → s.cells.part.stage / 32 ≠ 0 →
      (∀ (i : Slot) x, s.pac.slots[i].session = some x → x.peer = h.peer →
        (∀ j : Slot, j < i → ∀ y, s.pac.slots[j].session = some y → y.peer ≠ h.peer) →
        (h.followOn = true → x.followOn = none → s.pac.profiles[h.profile].followOn = true →
          exec .offer s =
            .next
              { t with
                pac.slots := vecMod s.pac.slots i fun slot =>
                  { slot with
                    session := some
                      { x with
                        followOn := some { tag := h.tag, nb := h.nb, profile := h.profile, bays := h.bays } } } }) ∧
        (h.followOn = false ∨ x.followOn ≠ none ∨ s.pac.profiles[h.profile].followOn = false →
          exec .offer s = .next (queueMsg (declineMsg h.peer h.tag .peerBusy) t))) ∧
      ((∀ (i : Slot) x, s.pac.slots[i].session = some x → x.peer ≠ h.peer) →
        ((∀ i : Slot, s.pac.slots[i].session ≠ none) →
          exec .offer s = .next (queueMsg (declineMsg h.peer h.tag .noSlot) t)) ∧
        ∀ i : Slot, s.pac.slots[i].session = none → (∀ j : Slot, j < i → s.pac.slots[j].session ≠ none) →
          exec .offer s =
            .next
              (startSession i 0 h.peer { tag := h.tag, nb := h.nb, profile := h.profile, bays := h.bays } t)))) ∧
  (∀ (peer : MacAddr) (tag : Word16) (reason : DeclineReason) (code : Nat),
    (reason, code) ∈ ([(.noSlot, 1), (.noStage, 2), (.peerBusy, 3), (.wakeFault, 4), (.badOffer, 5)] :
      List (DeclineReason × Nat)) →
    declineMsg peer tag reason =
      { peer := peer, kind := .decline, tag := tag, seq := 0, value := BitVec.ofNat 32 code }) ∧
  (∀ (m : PacingMsg) (s : State) (room : Nat),
    room = (if m.kind = .grant then 24 else if m.kind = .decline then 28 else 32) →
    (s.pac.queue.length < room →
      (s.lan.up = false ∨ s.lan.sending.isSome = true →
        queueMsg m s = { s with pac.queue := s.pac.queue ++ [m] }) ∧
      (s.lan.up = true → s.lan.sending = none → ∀ x xs, s.pac.queue ++ [m] = x :: xs →
        queueMsg m s =
          { s with pac.queue := xs, lan.sending := some (.pacing (withFcs (pacingFrame s.cfg x))) })) ∧
    (m.kind ≠ .grant → room ≤ s.pac.queue.length →
      queueMsg m s = { s with pac.replyLost := satAdd s.pac.replyLost 1 })) ∧
  ∀ (i : Slot) (gives : BaySet) (peer : MacAddr) (f : FollowOn) (s : State), s.pac.queue.length < 32 →
    s.lan.sending.isSome = true → ∃ t x, startSession i gives peer f s = t ∧
      t.pac.slots[i] = { session := some x, leftBehind := s.pac.slots[i].leftBehind } ∧
      (∀ j : Slot, j ≠ i → t.pac.slots[j] = s.pac.slots[j]) ∧
      x.draining = false ∧ x.peer = peer ∧ x.tag = f.tag ∧ x.nb = f.nb ∧ x.received = 0 ∧ x.outstanding = [] ∧
      x.nextSeq = 1 ∧ x.todo = f.nb ∧ x.undelivered = 0 ∧ x.expiries = 0 ∧ x.strays = 0 ∧ x.stallAcc = 0 ∧
      x.profile = s.pac.profiles[f.profile] ∧ x.phase = .floor ∧ x.rate = s.pac.profiles[f.profile].floor ∧
      x.peak = s.pac.profiles[f.profile].peakFor f.nb ∧ x.taperPoint = s.pac.profiles[f.profile].taperFor f.nb ∧
      x.nextDue = s.time.us ∧ x.bays = f.bays ∧ x.followOn = none ∧
      t.pac.queue = s.pac.queue ++
        [{ peer := peer, kind := .accept, tag := f.tag, seq := 0, value := BitVec.ofNat 32 f.nb }] ∧
      (∀ bays : Vector BayRecord 4,
        (∀ b : Bay, ∃ n, n = s.bay.bays[b].needed - (hasBay gives b).toNat + (hasBay f.bays b).toNat ∧ bays[b] =
          { s.bay.bays[b] with
            needed := n,
            idleTimer :=
              if s.bay.bays[b].state = .ready ∧ s.bay.bays[b].needed = 0 ∧ 0 < n then none
              else if s.bay.bays[b].state = .ready ∧ 0 < s.bay.bays[b].needed ∧ n = 0 then
                (if s.bay.bays[b].settings.idle = 0 then none else some (s.bay.bays[b].settings.idle * 60000))
              else s.bay.bays[b].idleTimer }) →
        t.bay = (demand f.bays { s with bay.bays := bays }).bay) ∧
      t.pac.stage = s.pac.stage ∧ t.pow = s.pow ∧ t.hold = s.hold ∧ t.cells = s.cells

/-- O38. A BLOCK under a sequence on the outstanding list of the session of its peer and tag is accepted, in every box
state: its payload stands in the grant's stage slot from byte 64 on, the slot is FILLED and joins the tail of the
delivery FIFO, the record leaves the list, received, undelivered and blocks taken rise by 1, the expiry count is 0, and
the session is DRAINING once received is NB; no byte outside the stage slot changes. In RUN with the H-port UP and
nothing in delivery, the head of the FIFO, which is the slot itself where the FIFO was empty, becomes SENDING and its
header is completed: its bytes are those of Table 12.3, those from the session tag to the payload length written with
the payload; that this happens within the command, and that the header stands at the slot's byte 0, is the model's
choice (assumption logs 18, 24 and 40). -/
def Obligations.AcceptedBlocksFillTheirStageSlot : Prop :=
  ∀ (s : State) (h : Handover) rest (i : Slot) (x : Session) (g : Grant) (base : Nat) (owner : StageOwner)
    (head : Nat → List Byte),
    (∀ n, head n = num 6 s.host.hostAddr.toNat ++ num 6 s.cfg.linkAddr.toNat ++ num 2 s.cfg.mgmtType.toNat ++
      num 2 0 ++ num 2 0xFE01 ++ [0, 0] ++ num 2 (16 + n)) →
    s.pac.incoming = h :: rest → h.message = some .block → s.pac.slotOf h.peer = some (i, x) → x.tag = h.tag →
    x.lawful → g ∈ x.outstanding → g.seq = h.seq → g.stage < s.pac.stage.length →
    base = 256 * (s.cells.part.answer + s.cells.part.hold + 32 * g.stage) → base + 8192 ≤ storeBytes →
    owner = { slot := i, tag := x.tag, seq := g.seq } → ∃ t,
      exec .block s = .next t ∧
      (∀ k < h.value, t.cells.mem.read (base + 64 + k) = byteAt h.payload (12 + k)) ∧
      (∀ k < 14, t.cells.mem.read (base + 22 + k) =
        byteAt (num 2 x.tag.toNat ++ num 4 g.seq ++ num 6 x.peer.toNat ++ num 2 h.value) k) ∧
      t.pac.blocksTaken = satAdd s.pac.blocksTaken 1 ∧
      t.pac.slots[i].session =
        some
          { x with
            outstanding := x.outstanding.filter fun y => y.seq ≠ h.seq, received := x.received + 1,
            undelivered := x.undelivered + 1, expiries := 0, draining := decide (x.received + 1 = x.nb),
            stallAcc := if x.received + 1 = x.nb then 0 else x.stallAcc } ∧
      (∀ j : Slot, j ≠ i → t.pac.slots[j] = s.pac.slots[j]) ∧ t.pac.incoming = rest ∧
      t.pac.queue = s.pac.queue ∧ t.bay = s.bay ∧ t.hold = s.hold ∧ t.pow = s.pow ∧
      (s.pow.box ≠ .run ∨ s.host.up = false ∨ s.pac.delivery ≠ none →
        t.pac.stage = s.pac.stage.set g.stage (.filled owner h.value) ∧
        t.pac.fifo = s.pac.fifo ++ [g.stage] ∧ t.pac.delivery = s.pac.delivery ∧ t.host = s.host ∧
        ∀ a, a < storeBytes → a < base ∨ base + 8192 ≤ a → t.cells.mem.read a = s.cells.mem.read a) ∧
      (s.pow.box = .run → s.host.up = true → s.pac.delivery = none →
        (s.host.sending.isSome = true → t.host = s.host) ∧
        (s.pac.fifo = [] →
          t.pac.stage = s.pac.stage.set g.stage (.sending owner h.value) ∧ t.pac.fifo = [] ∧
          t.pac.delivery = some g.stage ∧
          (∀ j < 22, t.cells.mem.read (base + j) = byteAt (head h.value) j) ∧
          (∀ j < 2, t.cells.mem.read (base + 36 + j) = byteAt (num 1 i.val ++ [0]) j) ∧
          ∀ a, a < storeBytes → a < base ∨ base + 8192 ≤ a → t.cells.mem.read a = s.cells.mem.read a) ∧
        ∀ k ks o n other, s.pac.fifo = k :: ks → k ≠ g.stage → k < s.pac.stage.length →
          s.pac.stage.getD k .free = .filled o n →
          other = 256 * (s.cells.part.answer + s.cells.part.hold + 32 * k) → other + 8192 ≤ storeBytes →
          t.pac.stage = (s.pac.stage.set g.stage (.filled owner h.value)).set k (.sending o n) ∧
          t.pac.fifo = ks ++ [g.stage] ∧ t.pac.delivery = some k ∧
          (∀ j < 22, t.cells.mem.read (other + j) = byteAt (head n) j) ∧
          (∀ j < 2, t.cells.mem.read (other + 36 + j) = byteAt (num 1 o.slot.val ++ [0]) j) ∧
          ∀ a, a < storeBytes → a < base ∨ base + 8192 ≤ a → a < other ∨ other + 38 ≤ a →
            t.cells.mem.read a = s.cells.mem.read a)

/-- O39. A BLOCK of a session whose sequence is not on its outstanding list only raises the stray count; a BLOCK or
WITHDRAW of no session, and a malformed pacing frame, only raise the protocol error count; a WITHDRAW of the tag of the
follow-on offer alone removes the offer; one of the session's tag halts it with WITHDRAWN. The session of a peer is the
one whose slot holds it. Tag, sequence and value of a frame stand where Table 12.1 puts them, NB and FOLLOW_ON in an
OFFER's value. Which messages a handed-over frame can be: malformed when its type is none of the eight, when it is one
the box sends, and when a BLOCK's value is 0, above 8,128 or above the bytes behind the header. When the arbiter runs
after a WITHDRAW is the model's choice (assumption log 17). That a raised SESSION_END waits for a build of its own is
the model's choice (assumption log 21). -/
def Obligations.StraysErrorsAndWithdrawals : Prop :=
  (∀ (s t : State) (h : Handover) rest, s.pac.incoming = h :: rest → t = { s with pac.incoming := rest } →
    (h.message = some .block →
      (∀ i x, s.pac.slotOf h.peer = some (i, x) → x.tag = h.tag → (∀ g ∈ x.outstanding, g.seq ≠ h.seq) →
        exec .block s =
          .next
            { t with
              pac.slots := vecMod s.pac.slots i fun slot =>
                { slot with session := some { x with strays := satAdd x.strays 1 } } }) ∧
      ((s.pac.slotOf h.peer = none ∨ ∃ i x, s.pac.slotOf h.peer = some (i, x) ∧ x.tag ≠ h.tag) →
        exec .block s = .next { t with pac.protocolErrors := satAdd s.pac.protocolErrors 1 })) ∧
    (h.message = none →
      exec .pacingFrameMalformed s =
        .next { t with pac.protocolErrors := satAdd s.pac.protocolErrors 1 }) ∧
    (h.message = some .withdraw →
      (s.pac.slotOf h.peer = none →
        exec .withdraw s = .next { t with pac.protocolErrors := satAdd s.pac.protocolErrors 1 }) ∧
      ∀ i x, s.pac.slotOf h.peer = some (i, x) →
        (x.tag = h.tag → exec .withdraw s = .next (arbitrate (haltSession i .withdrawn t))) ∧
        (x.tag ≠ h.tag →
          (∀ f, x.followOn = some f → f.tag = h.tag →
            exec .withdraw s =
              .next
                { t with
                  pac.slots := vecMod s.pac.slots i fun slot =>
                    { slot with session := some { x with followOn := none } } }) ∧
          ((∀ f, x.followOn = some f → f.tag ≠ h.tag) →
            exec .withdraw s = .next { t with pac.protocolErrors := satAdd s.pac.protocolErrors 1 })))) ∧
  (∀ (p : Pacing) (peer : MacAddr) (i : Slot) (x : Session), p.slotOf peer = some (i, x) ↔
    p.slots[i].session = some x ∧ x.peer = peer ∧
      ∀ j : Slot, j < i → ∀ y, p.slots[j].session = some y → y.peer ≠ peer) ∧
  (∀ (p : Pacing) (peer : MacAddr), p.slotOf peer = none ↔
    ∀ (j : Slot) (y : Session), p.slots[j].session = some y → y.peer ≠ peer) ∧
  ∀ h : Handover,
    h.tag.toNat = natAt h.payload 2 2 ∧ h.seq = natAt h.payload 4 4 ∧ h.value = natAt h.payload 8 4 ∧
    h.nb = h.value % 2 ^ 24 ∧ (h.followOn = true ↔ h.value / 2 ^ 24 % 2 = 1) ∧
    (h.ptype = none → h.message = none) ∧
    (∀ b : Byte, h.ptype = some b →
      (b ∉ [1, 5, 8] → h.message = none) ∧
      (b = 1 → h.message = some .offer) ∧ (b = 8 → h.message = some .withdraw) ∧
      (b = 5 → (h.value = 0 ∨ 8128 < h.value ∨ h.payload.length - 12 < h.value → h.message = none) ∧
        (1 ≤ h.value → h.value ≤ 8128 → h.value ≤ h.payload.length - 12 → h.message = some .block)))

/-- O40. A session is ready when it is RUNNING, its next due time has come on the grant clock, T is above 0, its
outstanding grants are fewer than its window, fewer than 24 pacing messages wait and its next sequence is at most
4,294,967,295. GRANT_ISSUE: with no stage slot FREE or no session ready nothing happens; else the lowest-numbered FREE
slot goes to the ready session with the earliest next due time, the lower slot index among equal ones, and the arbiter
repeats. A grant issued to a session on a stage slot: the slot is RESERVED for it, the record with its sequence, slot
and deadline joins the outstanding list, the next sequence rises and T falls by 1, the stall timer is cleared, GRANT
joins the pacing-message queue (the LAN being busy), and the next grant is due one interval of the new rate from now.
The grant step sets rate and phase (O45); every other field of the session, and all other state, stays. -/
def Obligations.TheArbiterServesTheEarliestSession : Prop :=
  (∀ (s : State) (x : Session), sessionReady s x = true ↔
    x.draining = false ∧ x.nextDue.toNat ≤ s.time.us.toNat ∧ 0 < x.todo ∧
      x.outstanding.length < x.profile.window ∧ s.pac.queue.length < 24 ∧ x.nextSeq ≤ 4294967295) ∧
  (∀ s : State, exec .grantIssue s = .next (arbitrate s) ∧
    ((∀ slot ∈ s.pac.stage, slot ≠ .free) ∨
        (∀ (i : Slot) x, s.pac.slots[i].session = some x → sessionReady s x = false) →
      exec .grantIssue s = .next s) ∧
    ∀ (k : Nat) (i : Slot) (x : Session), k < s.pac.stage.length → s.pac.stage.getD k .free = .free →
      (∀ j < k, s.pac.stage.getD j .free ≠ .free) → s.pac.slots[i].session = some x → sessionReady s x = true →
      (∀ (j : Slot) y, s.pac.slots[j].session = some y → sessionReady s y = true →
        x.nextDue.toNat < y.nextDue.toNat ∨ (x.nextDue = y.nextDue ∧ i ≤ j)) →
      ∃ t, exec .grantIssue s = .next t ∧ exec .grantIssue (issueGrant i x k s) = .next t) ∧
  ∀ (s : State) (i : Slot) (x : Session) (k : Nat), s.pac.slots[i].session = some x → sessionReady s x = true →
    s.lan.sending.isSome = true → ∃ slots y,
      issueGrant i x k s =
        { s with
          pac.slots := slots,
          pac.stage := s.pac.stage.set k (.reserved { slot := i, tag := x.tag, seq := x.nextSeq }),
          pac.queue := s.pac.queue ++
            [{ peer := x.peer, kind := .grant, tag := x.tag, seq := BitVec.ofNat 32 x.nextSeq,
               value := BitVec.ofNat 32 x.profile.deadline }] } ∧
      slots[i] = { s.pac.slots[i] with session := some y } ∧ (∀ j : Slot, j ≠ i → slots[j] = s.pac.slots[j]) ∧
      y = x.granted s k ∧
      y = { x with
            outstanding := x.outstanding ++
              [{ seq := x.nextSeq, stage := k, deadline := s.time.ms + BitVec.ofNat 32 x.profile.deadline }],
            nextSeq := x.nextSeq + 1, todo := x.todo - 1, stallAcc := 0, phase := y.phase, rate := y.rate,
            nextDue := s.time.us + BitVec.ofNat 64 (1000000 / y.rate) }

/-- O41. GRANT_EXPIRY of a grant on a RUNNING session's list whose deadline has come: the record leaves it, T and the
expiry count rise by 1, the stage slot goes back to the arbiter, and at the expiry limit the session halts with
SENDER_SILENT. SEQ_EXHAUSTED halts a session whose grant is due with no sequence left, STALL_EXPIRY one whose stall
timer runs and has reached the session's stall limit; elsewhere, and before the deadline or the limit, none of the
three does anything. When a deadline has come on a counter that wraps, that an expiry has no effect elsewhere, and that
freed slots go to the arbiter at the end, is the model's choice (assumption logs 2, 14, 17 and 29). That a raised
SESSION_END waits for a build of its own is the model's choice (assumption log 21). -/
def Obligations.ExpiriesHaltOrGrantAgain : Prop :=
  (∀ (s : State) (i : Slot) (x : Session) (g : Grant), s.pac.slots[i].session = some x → x.draining = false →
    x.lawful → g ∈ x.outstanding →
    (g.left s.time.ms ≠ 0 → exec (.grantExpiry i g.seq) s = .next s) ∧
    (g.left s.time.ms = 0 →
      (x.expiries + 1 ≠ x.profile.expiryLimit →
        exec (.grantExpiry i g.seq) s =
          .next
            (arbitrate
              { s with
                pac.stage := s.pac.stage.set g.stage .free,
                pac.slots := vecMod s.pac.slots i fun slot =>
                  { slot with
                    session := some
                      { x with
                        outstanding := x.outstanding.filter fun y => y.seq ≠ g.seq, todo := x.todo + 1,
                        expiries := x.expiries + 1 } } })) ∧
      (x.expiries + 1 = x.profile.expiryLimit →
        exec (.grantExpiry i g.seq) s =
          .next
            (arbitrate
              (haltSession i .senderSilent
                { s with
                  pac.stage := s.pac.stage.set g.stage .free,
                  pac.slots := vecMod s.pac.slots i fun slot =>
                    { slot with
                      session := some
                        { x with
                          outstanding := x.outstanding.filter fun y => y.seq ≠ g.seq, todo := x.todo + 1,
                          expiries := x.expiries + 1 } } }))))) ∧
  (∀ (g : Grant) (now : Word32),
    (g.left now = 0 ↔ g.deadline = now ∨ 2147483648 ≤ (g.deadline - now).toNat) ∧
    (g.left now ≠ 0 → g.left now = (g.deadline - now).toNat)) ∧
  (∀ (s : State) (i : Slot) (seq : Nat),
    (s.pac.slots[i].session = none ∨
        ∃ x, s.pac.slots[i].session = some x ∧ (x.draining = true ∨ ∀ g ∈ x.outstanding, g.seq ≠ seq)) →
    exec (.grantExpiry i seq) s = .next s) ∧
  (∀ (s : State) (i : Slot), s.pac.slots[i].session = none →
    exec (.seqExhausted i) s = .next s ∧ exec (.stallExpiry i) s = .next s) ∧
  (∀ (s : State) (i : Slot) (x : Session), s.pac.slots[i].session = some x →
    (x.draining = false → 0 < x.todo → x.nextDue.toNat ≤ s.time.us.toNat → x.nextSeq = 4294967296 →
      exec (.seqExhausted i) s = .next (arbitrate (haltSession i .seqExhausted s))) ∧
    (x.draining = true ∨ x.todo = 0 ∨ s.time.us.toNat < x.nextDue.toNat ∨ x.nextSeq ≤ 4294967295 →
      exec (.seqExhausted i) s = .next s) ∧
    (sessionReady s x = true → (∀ slot ∈ s.pac.stage, slot ≠ .free) →
      x.profile.stallLimit * 1000 ≤ x.stallAcc →
      exec (.stallExpiry i) s = .next (arbitrate (haltSession i .stalled s))) ∧
    (sessionReady s x = false ∨ (∃ slot ∈ s.pac.stage, slot = .free) ∨
        x.stallAcc < x.profile.stallLimit * 1000 →
      exec (.stallExpiry i) s = .next s))

/-- O42. A session that halts leaves its slot IDLE, gives back its stage slots and its bay set, leaves its undelivered
blocks behind (but under WAKE_FAULT), records its outcome, of which a ninth takes the oldest's place and is counted as
lost, and raises SESSION_END; HALT with cause and received joins the pacing-message queue ahead of the follow-on's
DECLINE, each while it finds room there, and one that does not only raises the reply-lost count, but under LINK_DOWN
neither is queued. Other slots stay. HALT_SESSION refuses an index above 3, then an IDLE slot or another tag; else the
session halts with HOST_HALT and the response carries its received and undelivered counts. Which counts the response
carries, when the arbiter runs, and that a raised SESSION_END waits for a build of its own, is the model's choice
(assumption logs 17, 21 and 34). -/
def Obligations.AHaltEndsTheSession : Prop :=
  (∀ (s : State) (i : Slot) (x : Session) (cause : HaltCause), s.pac.slots[i].session = some x →
    s.lan.sending.isSome = true → ∃ t told, haltSession i cause s = t ∧
      t.pac.slots[i] =
        { session := none,
          leftBehind :=
            if cause = .wakeFault then s.pac.slots[i].leftBehind
            else s.pac.slots[i].leftBehind + x.undelivered } ∧
      (∀ j : Slot, j ≠ i → t.pac.slots[j] = s.pac.slots[j]) ∧
      (∀ k < s.pac.stage.length, t.pac.stage.getD k .free =
        if ∃ g ∈ x.outstanding, g.stage = k then .free else s.pac.stage.getD k .free) ∧
      told =
        (if cause = .linkDown ∨ 32 ≤ s.pac.queue.length then s.pac.queue
         else s.pac.queue ++
           [{ peer := x.peer, kind := .halt, tag := x.tag, seq := BitVec.ofNat 32 x.received,
              value := BitVec.ofNat 32 cause.code }]) ∧
      (∀ f, x.followOn = some f → t.pac.queue =
        if cause = .linkDown ∨ 28 ≤ told.length then told
        else told ++ [{ peer := x.peer, kind := .decline, tag := f.tag, seq := 0, value := 3 }]) ∧
      (x.followOn = none → t.pac.queue = told) ∧
      t.pac.replyLost = satAdd s.pac.replyLost
        (if cause = .linkDown then 0
         else (decide (32 ≤ s.pac.queue.length)).toNat +
           (x.followOn.isSome && decide (28 ≤ told.length)).toNat) ∧
      t.note = (addOutcome x.tag (.halted cause) s).note ∧
      (∀ b : Bay, t.bay.bays[b].needed = s.bay.bays[b].needed - (hasBay x.bays b).toNat) ∧
      t.pac.fifo = s.pac.fifo ∧ t.cells = s.cells ∧ t.hold = s.hold ∧ t.pow = s.pow) ∧
  (([.hostHalt, .withdrawn, .senderSilent, .stalled, .bayLost, .wakeFault, .seqExhausted, .linkDown] :
    List HaltCause).map HaltCause.code = [1, 2, 3, 4, 5, 6, 7, 8]) ∧
  (∀ (tag : Word16) (outcome : SessionOutcome) (s : State), addOutcome tag outcome s =
    raise .sessionEnd .sessionEnd
      { s with
        note.outcomes :=
          (if s.note.outcomes.length < 8 then s.note.outcomes else s.note.outcomes.drop 1) ++ [(tag, outcome)],
        note.lost := if s.note.outcomes.length < 8 then s.note.lost else satAdd s.note.lost 1 }) ∧
  ∀ (s : State) r p rest, Taken s .haltSession r p rest →
    (3 < natAt p 0 1 → exec .haltSession s = .next (respond r .badArgument [] (dequeue r rest s))) ∧
    ∀ i : Slot, natAt p 0 1 = i.val →
      (s.pac.slots[i].session = none →
        exec .haltSession s = .next (respond r .notFound [] (dequeue r rest s))) ∧
      ∀ x, s.pac.slots[i].session = some x →
        (x.tag.toNat ≠ natAt p 1 2 →
          exec .haltSession s = .next (respond r .notFound [] (dequeue r rest s))) ∧
        (x.tag.toNat = natAt p 1 2 →
          exec .haltSession s =
            .next
              (respond r .ok (num 4 x.received ++ num 4 x.undelivered)
                (arbitrate (haltSession i .hostHalt (dequeue r rest s)))))

/-- O43. SET_PROFILE refuses an index above 3 and a taper mode, peak revision or follow-on permission of another value;
else the profile is stored with its numbers clamped, PEAK and SC against the clamped FLOOR. The share window is clamped
to 1 to 60 and leaves a running timer alone, whose time left the response carries, 0 when it is stopped; the end of the
window clears share-active. That the expiry has no effect with time left or elsewhere, and the 0, are the model's
choice (assumption logs 2, 3 and 14). -/
def Obligations.ProfileAndShareSettings : Prop :=
  (∀ (s : State) r p rest, Taken s .setProfile r p rest →
    (3 < natAt p 0 1 ∨ 1 < natAt p 10 1 ∨ 1 < natAt p 11 1 ∨ 1 < natAt p 22 1 →
      exec .setProfile s = .next (respond r .badArgument [] (dequeue r rest s))) ∧
    (∀ i : Fin 4, natAt p 0 1 = i.val → natAt p 10 1 ≤ 1 → natAt p 11 1 ≤ 1 → natAt p 22 1 ≤ 1 → ∃ profiles floor,
      exec .setProfile s =
        .next
          (respond r .ok profiles[i].carried { dequeue r rest s with pac.profiles := profiles }) ∧
      floor = max 16 (min 16000 (natAt p 1 2)) ∧
      profiles[i] =
        { floor := floor, peak := max floor (min 16000 (natAt p 3 2)), rise := max 1 (min 4095 (natAt p 5 2)),
          fall := max 1 (min 4095 (natAt p 7 2)), margin := natAt p 9 1,
          taper := if natAt p 10 1 = 0 then .auto else .manual, revision := decide (natAt p 11 1 = 1),
          manualPoint := natAt p 12 2, ceiling := max floor (min 16000 (natAt p 14 2)),
          window := max 1 (min 16 (natAt p 16 1)), deadline := max 2 (min 2000 (natAt p 17 2)),
          expiryLimit := max 1 (min 15 (natAt p 19 1)), stallLimit := max 1 (min 600 (natAt p 20 2)),
          followOn := decide (natAt p 22 1 = 1) } ∧
      ∀ j : Fin 4, j ≠ i → profiles[j] = s.pac.profiles[j])) ∧
  (∀ (s : State) r p rest, Taken s .setShare r p rest →
    exec .setShare s =
      .next
        (respond r .ok
          (num 1 (max 1 (min 60 (natAt p 0 1))) ++ (if s.share.active then [1] else [0]) ++
            num 4 (s.share.timer.getD 0))
          { dequeue r rest s with share.window := max 1 (min 60 (natAt p 0 1)) })) ∧
  ∀ s : State,
    (s.share.timer = some 0 →
      exec .shareWindowExpiry s = .next { s with share.active := false, share.timer := none }) ∧
    (s.share.timer ≠ some 0 → exec .shareWindowExpiry s = .next s)

/-- O44. The revised peak: x is at most PEAK - FLOOR, its climb and fall fit M = NB - 1 - margin grant steps, and no
larger number up to PEAK - FLOOR does; it gives P and TP in AUTO mode when the trapezoid test fails with the revision
ON. With the revision OFF, as when the test holds, P is PEAK and TP follows from it; in MANUAL mode P is PEAK and TP
the manual taper point. -/
def Obligations.TheRevisedPeakIsTheHighestThatFits : Prop :=
  ∀ (p : Profile) (nb : Nat), 1 ≤ p.rise → 1 ≤ p.fall → p.peak ≤ 16000 →
    p.revisedClimb nb ≤ p.peak - p.floor ∧
    (p.revisedClimb nb + p.rise - 1) / p.rise + (p.revisedClimb nb + p.fall - 1) / p.fall ≤ nb - 1 - p.margin ∧
    (∀ x ≤ p.peak - p.floor,
      (x + p.rise - 1) / p.rise + (x + p.fall - 1) / p.fall ≤ nb - 1 - p.margin → x ≤ p.revisedClimb nb) ∧
    (p.taper = .auto → p.revision = true → p.trapezoid nb = false →
      p.peakFor nb = p.floor + p.revisedClimb nb ∧
        p.taperFor nb = (p.revisedClimb nb + p.fall - 1) / p.fall + p.margin) ∧
    (p.trapezoid nb = true ↔
      (p.peak - p.floor + p.rise - 1) / p.rise + (p.peak - p.floor + p.fall - 1) / p.fall + p.margin ≤ nb - 1) ∧
    (p.taper = .auto → p.trapezoid nb = true ∨ p.revision = false →
      p.peakFor nb = p.peak ∧ p.taperFor nb = (p.peak - p.floor + p.fall - 1) / p.fall + p.margin) ∧
    (p.taper = .manual → p.peakFor nb = p.peak ∧ p.taperFor nb = p.manualPoint)

/-- O45. The grant step: with T at the taper point a session not yet in TAPER or TAIL takes its first falling step, to
FLOOR at the lowest and then in TAIL; at FLOOR it stays unless it may rise; in RISE, CRUISE or YIELD the rate moves
toward the ceiling by RISE or FALL and lands exactly on it. The step of an issued grant reads T after it has fallen by
1, may rise where the box is in RUN and every bay of the session is in the READY set, and its ceiling is P, or the
smaller of P and SC while share-active is set. The READY set is empty after POWER_ON and PANEL_RESET; a bay reported to
have entered READY joins it and nothing else changes, and one reported to have left READY leaves it, and the sessions
of that bay in RISE, CRUISE or YIELD that are not DRAINING fall to FLOOR. -/
def Obligations.TheGrantStepFollowsTheProfile : Prop :=
  (∀ (s : State) (k : Nat) (x y : Session) (free : Bool) (e : Nat),
    (free = true ↔
      s.pow.box = .run ∧ ∀ b : Bay, hasBay x.bays b = true → hasBay s.pac.readySet b = true) →
    e = (if s.share.active then min x.peak x.profile.ceiling else x.peak) →
    y = ({ x with todo := x.todo - 1 } : Session).grantStep free e →
    (x.granted s k).rate = y.rate ∧ (x.granted s k).phase = y.phase) ∧
  (∀ (presence activity : BaySet) (held : Nat) (s : State), ∃ t u,
    exec (.powerOn presence activity) s = .next t ∧ t.pac.readySet = 0 ∧
    exec (.panelReset presence activity held) s = .next u ∧ u.pac.readySet = 0) ∧
  (∀ (b : Bay) (s : State) (joined left : BaySet) (slots : Vector SessionSlot 4),
    (∀ i : Bay, hasBay joined i = (decide (i = b) || hasBay s.pac.readySet i)) →
    (∀ i : Bay, hasBay left i = (decide (i ≠ b) && hasBay s.pac.readySet i)) →
    (∀ j : Slot, slots[j] =
      { s.pac.slots[j] with
        session := s.pac.slots[j].session.map fun x =>
          if hasBay x.bays b = true ∧ x.draining = false ∧ (x.phase = .rise ∨ x.phase = .cruise ∨ x.phase = .yield) then
            { x with phase := .floor, rate := x.profile.floor }
          else x }) →
    reportReady b s = { s with pac.readySet := joined } ∧
    reportUnready b s = { s with pac.readySet := left, pac.slots := slots }) ∧
  ∀ (free : Bool) (e : Nat) (x : Session),
    (x.phase ≠ .taper → x.phase ≠ .tail → x.todo ≤ x.taperPoint → ∃ rate,
      rate = max (x.rate - x.profile.fall) x.profile.floor ∧
      x.grantStep free e = { x with rate := rate, phase := if rate = x.profile.floor then .tail else .taper }) ∧
    (x.phase = .taper → ∃ rate, rate = max (x.rate - x.profile.fall) x.profile.floor ∧
      x.grantStep free e = { x with rate := rate, phase := if rate = x.profile.floor then .tail else .taper }) ∧
    (x.phase = .tail → x.grantStep free e = { x with rate := x.profile.floor }) ∧
    (x.taperPoint < x.todo →
      (x.phase = .floor → free = false → x.grantStep free e = { x with rate := x.profile.floor }) ∧
      ((x.phase = .floor ∧ free = true) ∨ x.phase = .rise ∨ x.phase = .cruise ∨ x.phase = .yield →
        (x.rate < e → ∃ rate, rate = min (x.rate + x.profile.rise) e ∧
          x.grantStep free e = { x with rate := rate, phase := if rate = e then .cruise else .rise }) ∧
        (x.rate = e → x.grantStep free e = { x with phase := .cruise }) ∧
        (e < x.rate → ∃ rate, rate = max (x.rate - x.profile.fall) e ∧
          x.grantStep free e = { x with rate := rate, phase := if rate = e then .cruise else .yield })))

/-! ## Links, notices and the retained store -/

/-- O46. LAN_LINK_DOWN of an UP link discards what waits for the LAN or is being sent, leaves every session slot IDLE
with its undelivered blocks left behind, queues no message and reports the change. LAN_LINK_UP reports the change, and
LAN_FRAME_SENT frees the link; then the head of the pacing-message queue, else of the answer queue, else of the
host-frame queue starts, with a fresh frame check sequence; a pacing message in the layout of Table 12.1, padded to 60
bytes. What an event does that cannot occur or comes during a reset, and the source address and check sequence of a
frame sent, are the model's choice (assumption logs 2, 7, 9 and 39), as is that a raised LINK_CHANGE waits for a build
of its own (log 21). -/
def Obligations.LanLinkEvents : Prop :=
  (∀ s : State, s.lan.up = false → exec .lanLinkDown s = .next s) ∧
  (∀ s : State, s.lan.up = true → ∃ t, exec .lanLinkDown s = .next t ∧
    t.lan = { up := false, hostFrames := [], sending := none } ∧ t.pac.queue = [] ∧ t.ans.answers = [] ∧
    t.ans.sending = none ∧ t.ans.questions = s.ans.questions ∧ t.ans.records = s.ans.records ∧
    (∀ i : Slot, t.pac.slots[i] =
      { session := none,
        leftBehind := s.pac.slots[i].leftBehind + (s.pac.slots[i].session.elim 0 Session.undelivered) }) ∧
    t.note.kinds[(8 : Fin 9)].pending = true ∧
    t.note.kinds[(8 : Fin 9)].detail = some (.linkChange .lan false) ∧
    t.pac.fifo = s.pac.fifo ∧ t.hold = s.hold ∧ t.cells = s.cells ∧ t.pow = s.pow ∧ t.host = s.host) ∧
  (∀ s : State, s.lan.up = true ∨ s.pow.held ≠ none → exec .lanLinkUp s = .next s) ∧
  (∀ s : State, s.lan.up = false → s.pow.held = none → s.lan.sending = none → s.pac.queue = [] → s.ans.answers = [] →
    s.lan.hostFrames = [] →
    exec .lanLinkUp s =
      .next
        { s with
          lan.up := true,
          note.kinds := vecMod s.note.kinds 8 fun k =>
            { k with pending := true, count := satAdd k.count 1, detail := some (.linkChange .lan true) } }) ∧
  (∀ s : State, s.lan.sending = none → exec .lanFrameSent s = .next s) ∧
  (∀ (cfg : InForce) (m : PacingMsg), pacingFrame cfg m =
    num 6 m.peer.toNat ++ num 6 cfg.boxAddr.toNat ++ num 2 cfg.pacingType.toNat ++ num 1 m.kind.code ++ [0] ++
      num 2 m.tag.toNat ++ num 4 m.seq.toNat ++ num 4 m.value.toNat ++ List.replicate 34 0) ∧
  (([.offer, .accept, .decline, .grant, .block, .tally, .halt, .withdraw] : List MsgKind).map MsgKind.code =
    [1, 2, 3, 4, 5, 6, 7, 8]) ∧
  ∀ (s u : State) (f : LanSending), s.lan.up = true → s.lan.sending = some f →
    (((∃ w, f = .answer w) ∧ u = { s with lan.sending := none, ans.sending := none }) ∨
      ((∀ w, f ≠ .answer w) ∧ u = { s with lan.sending := none })) →
    (∀ m ms, s.pac.queue = m :: ms →
      exec .lanFrameSent s =
        .next { u with pac.queue := ms, lan.sending := some (.pacing (withFcs (pacingFrame s.cfg m))) }) ∧
    (s.pac.queue = [] →
      (∀ a as, s.ans.answers = a :: as →
        exec .lanFrameSent s =
          .next
            { u with
              ans.answers := as, ans.sending := some a, lan.sending := some (.answer (withFcs a.data)) }) ∧
      (s.ans.answers = [] →
        (∀ g gs, s.lan.hostFrames = g :: gs →
          exec .lanFrameSent s =
            .next { u with lan.hostFrames := gs, lan.sending := some (.host (withFcs g)) }) ∧
        (s.lan.hostFrames = [] → exec .lanFrameSent s = .next u)))

/-- O47. A good frame from the host while the H-port is UP joins the request queue when it has the management EtherType
and fewer than 8 wait, and the host-frame queue when it has not, the LAN link is UP and fewer than 32 wait; else it is
discarded. Which bits the frame check sequence takes is the model's choice (assumption log 7). -/
def Obligations.HostFramesAreQueuedOrForwarded : Prop :=
  ∀ (frame : List Byte) (s : State),
    (s.host.up = false ∨ frameGood frame = false → exec (.hostFrameReceived frame) s = .next s) ∧
    (s.host.up = true → frameGood frame = true →
      (etherTypeOf (frameData frame) = s.cfg.mgmtType →
        (s.host.requests.length < 8 →
          exec (.hostFrameReceived frame) s =
            .next { s with host.requests := s.host.requests ++ [frameData frame] }) ∧
        (8 ≤ s.host.requests.length → exec (.hostFrameReceived frame) s = .next s)) ∧
      (etherTypeOf (frameData frame) ≠ s.cfg.mgmtType →
        (s.lan.up = false ∨ 32 ≤ s.lan.hostFrames.length → exec (.hostFrameReceived frame) s = .next s) ∧
        (s.lan.up = true → s.lan.hostFrames.length < 32 →
          (s.lan.sending.isSome = true →
            exec (.hostFrameReceived frame) s =
              .next { s with lan.hostFrames := s.lan.hostFrames ++ [frameData frame] }) ∧
          (s.lan.sending = none → s.pac.queue = [] → s.ans.answers = [] → s.lan.hostFrames = [] →
            exec (.hostFrameReceived frame) s =
              .next { s with lan.sending := some (.host (withFcs (frameData frame))) }))))

/-- O48. H_PORT_UP has its effect only with the rail on, the reset released and the H-port DOWN: UP and reported; in
RUN with nothing held and nothing to deliver, the notices that qualify are built; in RUN a FRESH head of the hold queue
takes the release position and the head of the delivery FIFO becomes SENDING, whatever their order. H_PORT_DOWN of an
UP port discards the queues of the host link and the requests not yet taken, returns a released record and a DELIVER
frame to their heads, and reports the change. What an event does that cannot occur, the three free choices of order,
and the loss of a waiting PROGRAM_RETAINED response are the model's choice, as is that LINK_CHANGE is raised before the
notices are built (assumption logs 2, 4, 22 and 38). -/
def Obligations.HPortEvents : Prop :=
  (∀ s : State, s.pow.pwrEn = false ∨ s.pow.rst = true ∨ s.host.up = true → exec .hPortUp s = .next s) ∧
  (∀ s u : State, s.pow.pwrEn = true → s.pow.rst = false → s.host.up = false → s.host.responses = [] →
    s.host.lpath = [] → s.pac.delivery = none →
    u = raise .linkChange (.linkChange .host true) { s with host.up := true } →
    (s.pow.box ≠ .run → exec .hPortUp s = .next u) ∧
    (s.pow.box = .run → s.hold.records = [] → s.pac.fifo = [] →
      exec .hPortUp s = .next (buildNotices { u with choices := s.choices + 3 }))) ∧
  (∀ s : State, s.pow.pwrEn = true → s.pow.rst = false → s.host.up = false → s.pow.box = .run → ∃ t,
    exec .hPortUp s = .next t ∧ t.host.up = true ∧ t.pow = s.pow ∧ t.bay = s.bay ∧ t.cls = s.cls ∧
    (∀ q qs, s.hold.records = q :: qs → q.stale = false → s.hold.sending = false →
      t.hold = { s.hold with sending := true }) ∧
    (s.hold.records = [] → t.hold = s.hold) ∧
    (s.pac.delivery = none → ∀ k ks owner n, s.pac.fifo = k :: ks →
      s.pac.stage.getD k .free = .filled owner n →
      t.pac = { s.pac with stage := s.pac.stage.set k (.sending owner n), fifo := ks, delivery := some k }) ∧
    (s.pac.delivery = none → s.pac.fifo = [] → t.pac = s.pac)) ∧
  (∀ s : State, s.host.up = false → exec .hPortDown s = .next s) ∧
  ∀ s : State, s.host.up = true → ∃ t, exec .hPortDown s = .next t ∧
    t.host =
      { up := false, hostAddr := s.host.hostAddr, responses := [], lpath := [], sending := none, requests := [] } ∧
    t.mgmt.deferred = [] ∧ t.hold = { s.hold with sending := false } ∧ t.pac.delivery = none ∧
    (∀ k owner n, s.pac.delivery = some k → k < s.pac.stage.length → s.pac.stage.getD k .free = .sending owner n →
      t.pac.stage = s.pac.stage.set k (.filled owner n) ∧ t.pac.fifo = k :: s.pac.fifo) ∧
    (s.pac.delivery = none → t.pac = s.pac) ∧ t.note.kinds[(8 : Fin 9)].pending = true ∧
    t.note.kinds[(8 : Fin 9)].detail = some (.linkChange .host false) ∧
    t.pow = s.pow ∧ t.bay = s.bay ∧ t.cells = s.cells ∧ t.ret = s.ret ∧ t.cls = s.cls

/-- O49. HOST_LINK_FRAME_SENT of a response or a direct frame: the head of the response queue starts next, else of the
L path, else the frame in the delivery position, else the link is free. Of a released frame: its record leaves the list
with its cells, and with no record behind it the overflow latch clears; with a FRESH record behind it, in RUN that
record takes the release position and its frame starts next, and outside RUN it stays. What an event does that cannot
occur, the order of report and arbiter, and the wait of notices behind the management unit's claim are the model's
choice (assumption logs 2, 10 and 13), as are the bits that a frame's check sequence takes (log 7). -/
def Obligations.TheHostLinkSendsByPriority : Prop :=
  (∀ s : State, s.host.sending = none → exec .hostLinkFrameSent s = .next s) ∧
  (∀ (s : State) (w : List Byte), s.host.up = true →
    s.host.sending = some (.response w) ∨ s.host.sending = some (.direct w) →
    (∀ x xs, s.host.responses = x :: xs → s.host.requests ≠ [] ∨ s.mgmt.deferred ≠ [] →
      exec .hostLinkFrameSent s =
        .next { s with host.responses := xs, host.sending := some (.response (withFcs x)) }) ∧
    (∀ x xs, s.host.responses = x :: xs → s.host.requests = [] → s.mgmt.deferred = [] →
      exec .hostLinkFrameSent s =
        .next (buildNotices { s with host.responses := xs, host.sending := some (.response (withFcs x)) })) ∧
    (s.host.responses = [] →
      (∀ x xs, s.host.lpath = x :: xs →
        exec .hostLinkFrameSent s =
          .next
            { s with
              host.lpath := xs,
              host.sending := some (if x.released then .held (withFcs x.data) else .direct (withFcs x.data)) }) ∧
      (s.host.lpath = [] →
        (∀ k owner n, s.pac.delivery = some k → s.pac.stage.getD k .free = .sending owner n →
          exec .hostLinkFrameSent s =
            .next { s with host.sending := some (.deliver (withFcs (deliverData s k n))) }) ∧
        (s.pac.delivery = none → exec .hostLinkFrameSent s = .next { s with host.sending := none })))) ∧
  (∀ (s : State) (w : List Byte) (x y : HeldRecord) (rest : List HeldRecord) (u : State), s.host.up = true →
    s.host.sending = some (.held w) → s.hold.records = x :: y :: rest → y.stale = false → s.host.responses = [] →
    s.host.lpath = [] → s.pac.delivery = none →
    u = { s with
          host.sending := none, hold.records := y :: rest, hold.sending := false,
          cells.ring.head := (s.cells.ring.head + x.cells) % s.cells.part.hold,
          cells.ring.used := s.cells.ring.used - x.cells } →
    (s.pow.box = .run →
      exec .hostLinkFrameSent s =
        .next
          { u with
            hold.sending := true,
            host.sending := some
              (.held (withFcs (frameData (readRing s.cells.mem s.cells.part y.firstCell y.length)))) }) ∧
    (s.pow.box ≠ .run → exec .hostLinkFrameSent s = .next u)) ∧
  ∀ (s : State) (w : List Byte) (x : HeldRecord), s.host.up = true → s.host.sending = some (.held w) →
    s.hold.records = [x] → s.host.responses = [] → s.host.lpath = [] → s.pac.delivery = none →
    exec .hostLinkFrameSent s =
      .next
        { s with
          host.sending := none, hold.records := [], hold.overflow := false, hold.sending := false,
          cells.ring.head := (s.cells.ring.head + x.cells) % s.cells.part.hold,
          cells.ring.used := s.cells.ring.used - x.cells }

/-- O50. HOST_LINK_FRAME_SENT of a DELIVER frame, no session being ready for a grant: its stage slot is FREE, a
left-behind count above 0 falls by 1, else the undelivered count of the slot's session; a DRAINING session whose last
block this was, with no follow-on, completes: TALLY with NB, outcome DONE, the slot IDLE and the bay set given up. In
RUN the next FILLED slot of the delivery FIFO becomes SENDING and its frame starts: the 38 header bytes of the slot,
and the payload from its byte 64 on, padded to 60 bytes. A completed session with a follow-on is followed by it in its
slot: TALLY and outcome DONE, then the start that O37 gives, which reports the old bay set given up, and the freed
stage slot goes to the arbiter. That the header's 38 bytes stand at byte 0 of the slot's header area, and that these
and the payload are what is sent, is the model's choice (assumption log 24), as are the bits that a frame's check
sequence takes (log 7), that the source of the frame acts before the arbiters (logs 10 and 17), and that a raised
SESSION_END waits for a build of its own (log 21). -/
def Obligations.DeliveredBlocksAreAccounted : Prop :=
  (∀ (s : State) (w : List Byte) (k n : Nat) (o : StageOwner), s.host.sending = some (.deliver w) →
    s.pac.delivery = some k → s.pac.stage.getD k .free = .sending o n → s.host.responses = [] → s.host.lpath = [] →
    s.lan.sending.isSome = true → s.pac.queue.length < 32 →
    (∀ (i : Slot) y, s.pac.slots[i].session = some y → sessionReady s y = false) →
    (∀ x, s.pac.slots[o.slot].leftBehind = 0 → s.pac.slots[o.slot].session = some x → x.draining = true →
      x.undelivered ≤ 1 → x.followOn = none) → ∃ t,
    exec .hostLinkFrameSent s = .next t ∧
    (s.pac.fifo = [] ∨ s.pow.box ≠ .run ∨ s.host.up = false →
      t.host = { s.host with sending := none } ∧ t.pac.stage = s.pac.stage.set k .free ∧ t.pac.delivery = none ∧
      t.pac.fifo = s.pac.fifo ∧ t.cells = s.cells) ∧
    (s.pow.box = .run → s.host.up = true → ∀ l ls q m, s.pac.fifo = l :: ls → l ≠ k →
      s.pac.stage.getD l .free = .filled q m →
      t.pac.stage = (s.pac.stage.set k .free).set l (.sending q m) ∧ t.pac.delivery = some l ∧ t.pac.fifo = ls ∧
      t.host = { s.host with sending := some (.deliver (withFcs (deliverData t l m))) }) ∧
    (∀ j : Slot, j ≠ o.slot → t.pac.slots[j] = s.pac.slots[j]) ∧
    (0 < s.pac.slots[o.slot].leftBehind →
      t.pac.slots[o.slot] = { s.pac.slots[o.slot] with leftBehind := s.pac.slots[o.slot].leftBehind - 1 } ∧
        t.pac.queue = s.pac.queue ∧ t.note = s.note ∧ t.bay = s.bay) ∧
    (s.pac.slots[o.slot].leftBehind = 0 → ∀ x, s.pac.slots[o.slot].session = some x →
      (x.draining = false ∨ 1 < x.undelivered →
        t.pac.slots[o.slot] =
            { session := some { x with undelivered := x.undelivered - 1 }, leftBehind := 0 } ∧
          t.pac.queue = s.pac.queue ∧ t.note = s.note ∧ t.bay = s.bay) ∧
      (x.draining = true → x.undelivered = 1 →
        t.pac.slots[o.slot] = { session := none, leftBehind := 0 } ∧
          t.pac.queue = s.pac.queue ++
            [{ peer := x.peer, kind := .tally, tag := x.tag, seq := 0, value := BitVec.ofNat 32 x.nb }] ∧
          t.note.outcomes.getLast? = some (x.tag, .done) ∧ t.note.kinds[(3 : Fin 9)].pending = true ∧
          ∀ b : Bay, t.bay.bays[b].needed = s.bay.bays[b].needed - (hasBay x.bays b).toNat)) ∧
    t.hold = s.hold ∧ t.pow = s.pow) ∧
  (∀ (s : State) (k n base : Nat), base = 256 * (s.cells.part.answer + s.cells.part.hold + 32 * k) →
    deliverData s k n =
      ((List.range 38).map fun i => s.cells.mem.read (base + i)) ++
        ((List.range n).map fun i => s.cells.mem.read (base + 64 + i)) ++ List.replicate (22 - n) 0) ∧
  ∀ (s u : State) (w : List Byte) (k n : Nat) (o : StageOwner) (x : Session) (f : FollowOn),
    s.host.sending = some (.deliver w) → s.pac.delivery = some k → s.pac.stage.getD k .free = .sending o n →
    s.pac.fifo = [] → s.host.responses = [] → s.host.lpath = [] → s.lan.sending.isSome = true →
    s.pac.queue.length < 32 → s.pac.slots[o.slot] = { session := some x, leftBehind := 0 } → x.draining = true →
    x.undelivered = 1 → x.followOn = some f →
    u = addOutcome x.tag .done
      { s with
        host.sending := none, pac.delivery := none, pac.stage := s.pac.stage.set k .free,
        pac.queue := s.pac.queue ++
          [{ peer := x.peer, kind := .tally, tag := x.tag, seq := 0, value := BitVec.ofNat 32 x.nb }],
        pac.slots := vecMod s.pac.slots o.slot fun slot =>
          { slot with session := some { x with undelivered := 0 } } } →
    exec .hostLinkFrameSent s = .next (arbitrate (startSession o.slot x.bays x.peer f u))

/-- O51. A notice is built only for a pending, enabled kind, in RUN with the H-port UP and room in the response queue.
The kinds that qualify are built in the order of Table 11.1 until that queue holds 16 frames, and the others stay
pending: a notice joins the queue with tag 0 and the kind's code FF01h and up, the kind's pending flag, count and
detail clear, and SESSION_END's notice empties the outcome list. A raising makes its kind pending, raises its count and
replaces its detail, which is carried as Table 11.1 and note 1 of Table 12.3 give it. SET_NOTICES takes nine enables,
refuses any other value, and builds what they make possible behind its response. The result byte of a notice, and that
a raising leaves its kind pending for a build of its own, are the model's choice (assumption logs 40 and 21). -/
def Obligations.NoticesAreBuiltWhenTheyQualify : Prop :=
  (∀ s : State, exec .noticeBuild s = .next (buildNotices s)) ∧
  (([.button, .alarm, .bayChange, .sessionEnd, .holdOverflow, .staleDropped, .entryForced, .hostRecovered,
    .linkChange] : List NoticeKind).map NoticeKind.index = List.finRange 9) ∧
  (∀ (kind : NoticeKind) (detail : Detail) (s : State), ∃ kinds, raise kind detail s = { s with note.kinds := kinds } ∧
    ∀ j : Fin 9, kinds[j] =
      if j = kind.index then
        { s.note.kinds[j] with pending := true, count := satAdd s.note.kinds[j].count 1, detail := some detail }
      else s.note.kinds[j]) ∧
  (∀ n : Notices,
    (∀ edge, detailBytes n (.button edge) = [if edge = .press then 0 else 1]) ∧
    (∀ i minute, detailBytes n (.alarm i minute) = num 1 i.val ++ num 2 minute) ∧
    (∀ bay edge state, detailBytes n (.bayChange bay edge state) =
      num 1 bay.val ++ [if edge = .insert then 0 else 1] ++ num 1 state.code) ∧
    detailBytes n .sessionEnd =
      num 2 n.lost.toNat ++ num 1 n.outcomes.length ++
        (n.outcomes.map fun o => num 2 o.1.toNat ++ num 1 o.2.code).flatten ∧
    SessionOutcome.done.code = 0 ∧ (∀ cause : HaltCause, (SessionOutcome.halted cause).code = cause.code) ∧
    (∀ limit cls place length records used, detailBytes n (.holdOverflow limit cls place length records used) =
      [if limit = .records then 0 else 1] ++ num 1 cls.code ++ num 1 (place.elim 255 fun i => i.val) ++
        num 2 length ++ num 2 records ++ num 2 used) ∧
    (∀ cls place age, detailBytes n (.staleDropped cls place age) =
      num 1 cls.code ++ num 1 (place.elim 255 fun i => i.val) ++ num 2 (min age 65535)) ∧
    (∀ seconds, detailBytes n (.entryForced seconds) = num 1 seconds) ∧
    (∀ attempts, detailBytes n (.hostRecovered attempts) = num 1 attempts) ∧
    ∀ link up, detailBytes n (.linkChange link up) = [if link = .lan then 0 else 1, if up then 0 else 1]) ∧
  (∀ s : State,
    (∀ i : Fin 9, s.note.kinds[i].pending = false ∨ s.note.kinds[i].enable = false) ∨ s.pow.box ≠ .run ∨
        s.host.up = false ∨ 16 ≤ s.host.responses.length →
      exec .noticeBuild s = .next s) ∧
  (∀ (s : State) (built : List (Fin 9)) (detail : Fin 9 → List Byte), s.pow.box = .run → s.host.up = true →
    s.host.sending.isSome = true →
    built = ((List.finRange 9).filter fun i => s.note.kinds[i].pending && s.note.kinds[i].enable).take
      (16 - s.host.responses.length) →
    (∀ i, detail i = s.note.kinds[i].detail.elim []
      (detailBytes (if 3 < i ∧ 3 ∈ built then { s.note with outcomes := [], lost := 0 } else s.note))) → ∃ t,
    exec .noticeBuild s = .next t ∧
    t = { s with
          host.responses := s.host.responses ++ built.map fun i =>
            mgmtFrame s.cfg s.host.hostAddr 0 (0xFF01 + i.val) .ok
              (num 1 s.note.kinds[i].count.toNat ++ num 1 (detail i).length ++ detail i),
          note := t.note } ∧
    t.note.outcomes = (if 3 ∈ built then [] else s.note.outcomes) ∧
    t.note.lost = (if 3 ∈ built then 0 else s.note.lost) ∧
    ∀ j : Fin 9, t.note.kinds[j] =
      if j ∈ built then { s.note.kinds[j] with pending := false, count := 0, detail := none }
      else s.note.kinds[j]) ∧
  ∀ (s : State) r p rest, Taken s .setNotices r p rest →
    ((∃ i : Fin 9, 1 < natAt p i.val 1) →
      exec .setNotices s = .next (respond r .badArgument [] (dequeue r rest s))) ∧
    ((∀ i : Fin 9, natAt p i.val 1 ≤ 1) → ∃ kinds,
      exec .setNotices s =
        .next
          (buildNotices
            (respond r .ok
              ((kinds.toList.map fun k => flag k.enable).flatten ++ (kinds.toList.map fun k => flag k.pending).flatten)
              { dequeue r rest s with note.kinds := kinds })) ∧
      ∀ i : Fin 9, kinds[i] = { s.note.kinds[i] with enable := decide (natAt p i.val 1 = 1) })

/-- O52. PROGRAM_RETAINED: an index above 7 or too few contents BAD_ARGUMENT, then BUSY while a programming is in
flight, then WORN at three copies; else the programming is in flight and nothing is answered. PROGRAMMING_COMPLETE
appends the copy to its record, and its response, OK with index and new count, joins the response queue or waits for a
place there, behind one that waits already. While one waits no request is taken. That the two last commands do nothing
where nothing is in flight or waits, that contents too short are refused, and that a response is built at once where it
has room, are the model's choice (assumption logs 2, 22 and 23). -/
def Obligations.RetainedRecordsAreProgrammed : Prop :=
  ((List.range 8).map contentsLength = [6, 6, 4, 4, 1, 20, 6, 17]) ∧
  (∀ (s : State) r p rest, Taken s .programRetained r p rest →
    (7 < natAt p 0 1 → exec .programRetained s = .next (respond r .badArgument [] (dequeue r rest s))) ∧
    ∀ i : Fin 8, natAt p 0 1 = i.val →
      (p.length < 1 + contentsLength i.val →
        exec .programRetained s = .next (respond r .badArgument [] (dequeue r rest s))) ∧
      (1 + contentsLength i.val ≤ p.length →
        (s.ret.inFlight.isSome = true →
          exec .programRetained s = .next (respond r .busy [] (dequeue r rest s))) ∧
        (s.ret.inFlight = none → 3 ≤ s.ret.copies[i].length →
          exec .programRetained s = .next (respond r .worn [] (dequeue r rest s))) ∧
        (s.ret.inFlight = none → s.ret.copies[i].length < 3 →
          exec .programRetained s =
            .next
              { dequeue r rest s with
                ret.inFlight :=
                  some
                    { index := i, contents := slice p 1 (contentsLength i.val), dst := r.src, tag := r.tag } }))) ∧
  (∀ s : State, s.ret.inFlight = none → exec .programmingComplete s = .next s) ∧
  (∀ (s : State) (p : Programming), s.ret.inFlight = some p → ∃ copies,
    (∀ j : Fin 8, copies[j] = if j = p.index then s.ret.copies[j] ++ [p.contents] else s.ret.copies[j]) ∧
    (s.mgmt.deferred = [] → s.host.responses.length < 16 →
      exec .programmingComplete s =
        .next
          (queueResponse
            (mgmtFrame s.cfg p.dst p.tag 0x0A01 .ok
              (num 1 p.index.val ++ num 1 (s.ret.copies[p.index].length + 1)))
            { s with ret.copies := copies, ret.inFlight := none })) ∧
    (s.mgmt.deferred ≠ [] ∨ 16 ≤ s.host.responses.length →
      exec .programmingComplete s =
        .next
          { s with
            ret.copies := copies, ret.inFlight := none,
            mgmt.deferred := s.mgmt.deferred ++
              [{ dst := p.dst, tag := p.tag, index := p.index, count := s.ret.copies[p.index].length + 1 }] })) ∧
  (∀ s : State, s.mgmt.deferred ≠ [] →
    (∀ kind : ReqKind, exec kind.command s = .next s) ∧ exec .unknownRequest s = .next s ∧
      exec .mgmtFrameTooShort s = .next s) ∧
  ∀ s : State,
    (s.mgmt.deferred = [] ∨ 16 ≤ s.host.responses.length → exec .programResponseBuilt s = .next s) ∧
    ∀ d ds, s.mgmt.deferred = d :: ds → s.host.responses.length < 16 →
      exec .programResponseBuilt s =
        .next
          (queueResponse (mgmtFrame s.cfg d.dst d.tag 0x0A01 .ok (num 1 d.index.val ++ num 1 d.count))
            { s with mgmt.deferred := ds })

/-! ## What carries over and what every step keeps -/

/-- O53. Every flow entry whose dst port range does not end below its start is carried in 28 bytes, and the carried
form reads back as the entry with hit count 0: no field of it is dropped. The 28 bytes are those of Table 12.4, in both
directions: what each carried field gives of an entry, the condition it names where its mask bit is set and ANY where
it is clear, and what an entry's fields give of the bytes. The bytes that R14 refuses give no entry. That a condition
of ANY is carried as zero bytes is the model's choice (assumption log 32). -/
def Obligations.CarriedFlowEntriesReadBack : Prop :=
  (∀ e : FlowEntry, (∀ ports, e.dstPort = some ports → ports.lo.toNat ≤ ports.hi.toNat) →
    e.carried.length = 28 ∧ parseEntry e.carried = some { e with hits := 0 }) ∧
  (∀ b : List Byte, EntryRefused b → parseEntry b = none) ∧
  (∀ (b : List Byte) (mask : Nat → Bool), ¬ EntryRefused b → (∀ i, mask i = decide (natAt b 2 2 / 2 ^ i % 2 = 1)) →
    ∃ e, parseEntry b = some e ∧ e.valid = decide (natAt b 0 1 ≠ 0) ∧
      (mask 0 = true → ([.box, .broadcast, .multicast, .other] : List DstKind)[natAt b 4 1 % 4]? = e.dstKind) ∧
      (mask 0 = false → e.dstKind = none) ∧
      e.src = (if mask 1 then some (BitVec.ofNat 48 (natAt b 8 6)) else none) ∧
      e.vlan = (if mask 2 then some (BitVec.ofNat 12 (natAt b 14 2)) else none) ∧
      e.ethertype = (if mask 3 then some (BitVec.ofNat 16 (natAt b 16 2)) else none) ∧
      e.ipProto = (if mask 4 then some (BitVec.ofNat 8 (natAt b 7 1)) else none) ∧
      e.dstPort =
        (if mask 5 then some { lo := BitVec.ofNat 16 (natAt b 18 2), hi := BitVec.ofNat 16 (natAt b 20 2) }
         else none) ∧
      e.syn = (if mask 6 then some (decide (natAt b 5 1 ≠ 0)) else none) ∧
      e.pacingType = (if mask 7 then some (BitVec.ofNat 8 (natAt b 22 1)) else none) ∧
      e.wakeSig = (if mask 8 then some (decide (natAt b 6 1 ≠ 0)) else none) ∧
      (natAt b 23 1 = 0 → e.action = .pass) ∧ (natAt b 23 1 = 1 → e.action = .share) ∧
      (natAt b 23 1 = 2 → ∀ p : Fin 4, natAt b 26 1 = p.val → e.action = .backup p) ∧
      (natAt b 23 1 = 3 → ∀ a : Fin 16, natAt b 26 1 = a.val → e.action = .proxy a) ∧
      (natAt b 23 1 = 4 → e.action = .drop) ∧ e.wake = decide (natAt b 24 1 ≠ 0) ∧
      e.bays = BitVec.ofNat 4 (natAt b 25 1) ∧ e.hits = 0) ∧
  ∀ e : FlowEntry, e.carried =
    flag e.valid ++ [0] ++
      num 2
        (([e.dstKind.isSome, e.src.isSome, e.vlan.isSome, e.ethertype.isSome, e.ipProto.isSome, e.dstPort.isSome,
          e.syn.isSome, e.pacingType.isSome, e.wakeSig.isSome].map Bool.toNat).foldr (fun bit n => bit + 2 * n) 0) ++
      [if e.dstKind = some .broadcast then 1 else if e.dstKind = some .multicast then 2
       else if e.dstKind = some .other then 3 else 0] ++
      [if e.syn = some true then 1 else 0] ++ [if e.wakeSig = some true then 1 else 0] ++ [e.ipProto.getD 0] ++
      num 6 (e.src.getD 0).toNat ++ num 2 (e.vlan.getD 0).toNat ++ num 2 (e.ethertype.getD 0).toNat ++
      num 2 (e.dstPort.elim 0 fun ports => ports.lo.toNat) ++ num 2 (e.dstPort.elim 0 fun ports => ports.hi.toNat) ++
      [e.pacingType.getD 0] ++
      (match e.action with
       | .pass => ([0] : List Byte) | .share => [1] | .backup _ => [2] | .proxy _ => [3] | .drop => [4]) ++
      flag e.wake ++ [BitVec.ofNat 8 e.bays.toNat] ++
      (match e.action with
       | .backup p => num 1 p.val | .proxy a => num 1 a.val | _ => [0]) ++ [0]

/-- O54. The reset state meets every condition that the steps keep. -/
def Obligations.ResetMeetsEveryCondition : Prop :=
  State.reset.cells.mem.wf = true ∧ LinesAgree State.reset ∧ TimersAgree State.reset ∧ LatchesAgree State.reset ∧
    HoldAgrees State.reset ∧ BaysAgree State.reset ∧ BudgetKept State.reset ∧ SessionsLawful State.reset ∧
    RatesInRange State.reset ∧ RiseOnlyWhenReady State.reset ∧ WithinCapacities State.reset ∧
    ReadySetAgrees State.reset ∧ StageAgrees State.reset

/-- O55. Every step keeps the power controller's state of one piece: HOST_PWR_EN and HOST_RST stand as the box state
says, the H-port is UP only with the rail on and the host out of reset, each timer runs in its own state alone, the
wake-fault latch is clear in RUN and SLEEP_ENTRY, and a source is pending in SLEEP_ENTRY alone. -/
def Obligations.StepsKeepPowerAgreed : Prop :=
  ∀ s t : State, LinesAgree s ∧ TimersAgree s ∧ LatchesAgree s → step s = .next t →
    LinesAgree t ∧ TimersAgree t ∧ LatchesAgree t

/-- O56. Every step keeps the cells' contents in canonical form and the hold queue in agreement with its ring: the
cells of the records are the used count, within the region, at most 512 records, none while the wake-fault latch is
set. -/
def Obligations.StepsKeepTheHoldRing : Prop :=
  ∀ s t : State, s.cells.mem.wf = true ∧ HoldAgrees s → step s = .next t → t.cells.mem.wf = true ∧ HoldAgrees t

/-- O57. Every step keeps the bays agreed with their states: power in SPINNING and READY alone, timers in their states
alone, the spin-up queue holding each QUEUED bay once; the costs of the SPINNING bays within the spin budget; and the
pacing engine's READY set as the set of the bays that are READY. -/
def Obligations.StepsKeepTheSpinBudget : Prop :=
  (∀ s t : State, BaysAgree s ∧ BudgetKept s → step s = .next t → BaysAgree t ∧ BudgetKept t) ∧
  ∀ s t : State, BaysAgree s ∧ ReadySetAgrees s → step s = .next t → ReadySetAgrees t

/-- O58. Every step keeps received + outstanding + T equal to NB in every session, with the outstanding list in
ascending sequence order, and every session that may take grant steps out of RISE, CRUISE and YIELD unless the box is
in RUN with every bay of its set READY. Every step keeps the stage slots in agreement with the sessions and the
delivery FIFO: one RESERVED slot for each outstanding grant and no other, each FILLED slot once in the FIFO, the
SENDING slot in the delivery position. -/
def Obligations.StepsKeepSessionsLawful : Prop :=
  (∀ s t : State, SessionsLawful s ∧ RiseOnlyWhenReady s → step s = .next t →
    SessionsLawful t ∧ RiseOnlyWhenReady t) ∧
  ∀ s t : State, SessionsLawful s ∧ StageAgrees s → step s = .next t → StageAgrees t

/-- O59. Every step keeps the current rate of every session between FLOOR and its peak P, which is at most 16,000, and
every number of the stored profiles and of the sessions' copies within the range that Table 7.3 gives. -/
def Obligations.StepsKeepRatesInRange : Prop :=
  ∀ s t : State, RatesInRange s → step s = .next t → RatesInRange t

/-- O60. No step takes the response, request, host-frame, pacing-message or question queue, the answer queue with the
answer being sent, the direct frames of the L path, the held-frame list, the outcome list or the copies of a retained
record, a programming in flight counted, above its capacity. -/
def Obligations.StepsKeepCapacities : Prop :=
  ∀ s t : State, WithinCapacities s → step s = .next t → WithinCapacities t
end

