-- ==== Sys2Proof/Laws/Units.lean ====
section
/-! SUPPORT. What the shared operations of the notice unit, the host link unit and the LAN port unit leave as it is: for
each operation, one lemma for each part of the state that it does not touch. -/

namespace Sys2Proof.Machine

@[simp] theorem raise_time (kind : NoticeKind) (detail : Detail) (s : State) :
    (raise kind detail s).time = s.time := rfl

@[simp] theorem raise_lan (kind : NoticeKind) (detail : Detail) (s : State) :
    (raise kind detail s).lan = s.lan := rfl

@[simp] theorem raise_cls (kind : NoticeKind) (detail : Detail) (s : State) :
    (raise kind detail s).cls = s.cls := rfl

@[simp] theorem raise_cells (kind : NoticeKind) (detail : Detail) (s : State) :
    (raise kind detail s).cells = s.cells := rfl

@[simp] theorem raise_pow (kind : NoticeKind) (detail : Detail) (s : State) :
    (raise kind detail s).pow = s.pow := rfl

@[simp] theorem raise_hold (kind : NoticeKind) (detail : Detail) (s : State) :
    (raise kind detail s).hold = s.hold := rfl

@[simp] theorem raise_ans (kind : NoticeKind) (detail : Detail) (s : State) :
    (raise kind detail s).ans = s.ans := rfl

@[simp] theorem raise_bay (kind : NoticeKind) (detail : Detail) (s : State) :
    (raise kind detail s).bay = s.bay := rfl

@[simp] theorem raise_pac (kind : NoticeKind) (detail : Detail) (s : State) :
    (raise kind detail s).pac = s.pac := rfl

@[simp] theorem raise_share (kind : NoticeKind) (detail : Detail) (s : State) :
    (raise kind detail s).share = s.share := rfl

@[simp] theorem raise_host (kind : NoticeKind) (detail : Detail) (s : State) :
    (raise kind detail s).host = s.host := rfl

@[simp] theorem raise_mgmt (kind : NoticeKind) (detail : Detail) (s : State) :
    (raise kind detail s).mgmt = s.mgmt := rfl

@[simp] theorem raise_ret (kind : NoticeKind) (detail : Detail) (s : State) :
    (raise kind detail s).ret = s.ret := rfl

@[simp] theorem raise_cfg (kind : NoticeKind) (detail : Detail) (s : State) :
    (raise kind detail s).cfg = s.cfg := rfl

@[simp] theorem raise_choices (kind : NoticeKind) (detail : Detail) (s : State) :
    (raise kind detail s).choices = s.choices := rfl

@[simp] theorem raise_pending (kind : NoticeKind) (detail : Detail) (s : State) :
    (raise kind detail s).pending = s.pending := rfl

@[simp] theorem addOutcome_time (tag : Word16) (outcome : SessionOutcome) (s : State) :
    (addOutcome tag outcome s).time = s.time := by unfold addOutcome; split <;> simp

@[simp] theorem addOutcome_lan (tag : Word16) (outcome : SessionOutcome) (s : State) :
    (addOutcome tag outcome s).lan = s.lan := by unfold addOutcome; split <;> simp

@[simp] theorem addOutcome_cls (tag : Word16) (outcome : SessionOutcome) (s : State) :
    (addOutcome tag outcome s).cls = s.cls := by unfold addOutcome; split <;> simp

@[simp] theorem addOutcome_cells (tag : Word16) (outcome : SessionOutcome) (s : State) :
    (addOutcome tag outcome s).cells = s.cells := by unfold addOutcome; split <;> simp

@[simp] theorem addOutcome_pow (tag : Word16) (outcome : SessionOutcome) (s : State) :
    (addOutcome tag outcome s).pow = s.pow := by unfold addOutcome; split <;> simp

@[simp] theorem addOutcome_hold (tag : Word16) (outcome : SessionOutcome) (s : State) :
    (addOutcome tag outcome s).hold = s.hold := by unfold addOutcome; split <;> simp

@[simp] theorem addOutcome_ans (tag : Word16) (outcome : SessionOutcome) (s : State) :
    (addOutcome tag outcome s).ans = s.ans := by unfold addOutcome; split <;> simp

@[simp] theorem addOutcome_bay (tag : Word16) (outcome : SessionOutcome) (s : State) :
    (addOutcome tag outcome s).bay = s.bay := by unfold addOutcome; split <;> simp

@[simp] theorem addOutcome_pac (tag : Word16) (outcome : SessionOutcome) (s : State) :
    (addOutcome tag outcome s).pac = s.pac := by unfold addOutcome; split <;> simp

@[simp] theorem addOutcome_share (tag : Word16) (outcome : SessionOutcome) (s : State) :
    (addOutcome tag outcome s).share = s.share := by unfold addOutcome; split <;> simp

@[simp] theorem addOutcome_host (tag : Word16) (outcome : SessionOutcome) (s : State) :
    (addOutcome tag outcome s).host = s.host := by unfold addOutcome; split <;> simp

@[simp] theorem addOutcome_mgmt (tag : Word16) (outcome : SessionOutcome) (s : State) :
    (addOutcome tag outcome s).mgmt = s.mgmt := by unfold addOutcome; split <;> simp

@[simp] theorem addOutcome_ret (tag : Word16) (outcome : SessionOutcome) (s : State) :
    (addOutcome tag outcome s).ret = s.ret := by unfold addOutcome; split <;> simp

@[simp] theorem addOutcome_cfg (tag : Word16) (outcome : SessionOutcome) (s : State) :
    (addOutcome tag outcome s).cfg = s.cfg := by unfold addOutcome; split <;> simp

@[simp] theorem addOutcome_choices (tag : Word16) (outcome : SessionOutcome) (s : State) :
    (addOutcome tag outcome s).choices = s.choices := by unfold addOutcome; split <;> simp

@[simp] theorem addOutcome_pending (tag : Word16) (outcome : SessionOutcome) (s : State) :
    (addOutcome tag outcome s).pending = s.pending := by unfold addOutcome; split <;> simp

@[simp] theorem hostKick_time (s : State) :
    (hostKick s).time = s.time := by
  unfold hostKick
  repeat' split
  all_goals simp

@[simp] theorem hostKick_lan (s : State) :
    (hostKick s).lan = s.lan := by
  unfold hostKick
  repeat' split
  all_goals simp

@[simp] theorem hostKick_cls (s : State) :
    (hostKick s).cls = s.cls := by
  unfold hostKick
  repeat' split
  all_goals simp

@[simp] theorem hostKick_cells (s : State) :
    (hostKick s).cells = s.cells := by
  unfold hostKick
  repeat' split
  all_goals simp

@[simp] theorem hostKick_pow (s : State) :
    (hostKick s).pow = s.pow := by
  unfold hostKick
  repeat' split
  all_goals simp

@[simp] theorem hostKick_hold (s : State) :
    (hostKick s).hold = s.hold := by
  unfold hostKick
  repeat' split
  all_goals simp

@[simp] theorem hostKick_ans (s : State) :
    (hostKick s).ans = s.ans := by
  unfold hostKick
  repeat' split
  all_goals simp

@[simp] theorem hostKick_bay (s : State) :
    (hostKick s).bay = s.bay := by
  unfold hostKick
  repeat' split
  all_goals simp

@[simp] theorem hostKick_pac (s : State) :
    (hostKick s).pac = s.pac := by
  unfold hostKick
  repeat' split
  all_goals simp

@[simp] theorem hostKick_share (s : State) :
    (hostKick s).share = s.share := by
  unfold hostKick
  repeat' split
  all_goals simp

@[simp] theorem hostKick_mgmt (s : State) :
    (hostKick s).mgmt = s.mgmt := by
  unfold hostKick
  repeat' split
  all_goals simp

@[simp] theorem hostKick_note (s : State) :
    (hostKick s).note = s.note := by
  unfold hostKick
  repeat' split
  all_goals simp

@[simp] theorem hostKick_ret (s : State) :
    (hostKick s).ret = s.ret := by
  unfold hostKick
  repeat' split
  all_goals simp

@[simp] theorem hostKick_cfg (s : State) :
    (hostKick s).cfg = s.cfg := by
  unfold hostKick
  repeat' split
  all_goals simp

@[simp] theorem hostKick_choices (s : State) :
    (hostKick s).choices = s.choices := by
  unfold hostKick
  repeat' split
  all_goals simp

@[simp] theorem hostKick_pending (s : State) :
    (hostKick s).pending = s.pending := by
  unfold hostKick
  repeat' split
  all_goals simp

@[simp] theorem queueResponse_time (data : List Byte) (s : State) :
    (queueResponse data s).time = s.time := by
  unfold queueResponse
  repeat' split
  all_goals simp

@[simp] theorem queueResponse_lan (data : List Byte) (s : State) :
    (queueResponse data s).lan = s.lan := by
  unfold queueResponse
  repeat' split
  all_goals simp

@[simp] theorem queueResponse_cls (data : List Byte) (s : State) :
    (queueResponse data s).cls = s.cls := by
  unfold queueResponse
  repeat' split
  all_goals simp

@[simp] theorem queueResponse_cells (data : List Byte) (s : State) :
    (queueResponse data s).cells = s.cells := by
  unfold queueResponse
  repeat' split
  all_goals simp

@[simp] theorem queueResponse_pow (data : List Byte) (s : State) :
    (queueResponse data s).pow = s.pow := by
  unfold queueResponse
  repeat' split
  all_goals simp

@[simp] theorem queueResponse_hold (data : List Byte) (s : State) :
    (queueResponse data s).hold = s.hold := by
  unfold queueResponse
  repeat' split
  all_goals simp

@[simp] theorem queueResponse_ans (data : List Byte) (s : State) :
    (queueResponse data s).ans = s.ans := by
  unfold queueResponse
  repeat' split
  all_goals simp

@[simp] theorem queueResponse_bay (data : List Byte) (s : State) :
    (queueResponse data s).bay = s.bay := by
  unfold queueResponse
  repeat' split
  all_goals simp

@[simp] theorem queueResponse_pac (data : List Byte) (s : State) :
    (queueResponse data s).pac = s.pac := by
  unfold queueResponse
  repeat' split
  all_goals simp

@[simp] theorem queueResponse_share (data : List Byte) (s : State) :
    (queueResponse data s).share = s.share := by
  unfold queueResponse
  repeat' split
  all_goals simp

@[simp] theorem queueResponse_mgmt (data : List Byte) (s : State) :
    (queueResponse data s).mgmt = s.mgmt := by
  unfold queueResponse
  repeat' split
  all_goals simp

@[simp] theorem queueResponse_note (data : List Byte) (s : State) :
    (queueResponse data s).note = s.note := by
  unfold queueResponse
  repeat' split
  all_goals simp

@[simp] theorem queueResponse_ret (data : List Byte) (s : State) :
    (queueResponse data s).ret = s.ret := by
  unfold queueResponse
  repeat' split
  all_goals simp

@[simp] theorem queueResponse_cfg (data : List Byte) (s : State) :
    (queueResponse data s).cfg = s.cfg := by
  unfold queueResponse
  repeat' split
  all_goals simp

@[simp] theorem queueResponse_choices (data : List Byte) (s : State) :
    (queueResponse data s).choices = s.choices := by
  unfold queueResponse
  repeat' split
  all_goals simp

@[simp] theorem queueResponse_pending (data : List Byte) (s : State) :
    (queueResponse data s).pending = s.pending := by
  unfold queueResponse
  repeat' split
  all_goals simp

@[simp] theorem handDirect_time (data : List Byte) (s : State) :
    (handDirect data s).time = s.time := by
  unfold handDirect
  repeat' split
  all_goals simp

@[simp] theorem handDirect_lan (data : List Byte) (s : State) :
    (handDirect data s).lan = s.lan := by
  unfold handDirect
  repeat' split
  all_goals simp

@[simp] theorem handDirect_cls (data : List Byte) (s : State) :
    (handDirect data s).cls = s.cls := by
  unfold handDirect
  repeat' split
  all_goals simp

@[simp] theorem handDirect_cells (data : List Byte) (s : State) :
    (handDirect data s).cells = s.cells := by
  unfold handDirect
  repeat' split
  all_goals simp

@[simp] theorem handDirect_pow (data : List Byte) (s : State) :
    (handDirect data s).pow = s.pow := by
  unfold handDirect
  repeat' split
  all_goals simp

@[simp] theorem handDirect_hold (data : List Byte) (s : State) :
    (handDirect data s).hold = s.hold := by
  unfold handDirect
  repeat' split
  all_goals simp

@[simp] theorem handDirect_ans (data : List Byte) (s : State) :
    (handDirect data s).ans = s.ans := by
  unfold handDirect
  repeat' split
  all_goals simp

@[simp] theorem handDirect_bay (data : List Byte) (s : State) :
    (handDirect data s).bay = s.bay := by
  unfold handDirect
  repeat' split
  all_goals simp

@[simp] theorem handDirect_pac (data : List Byte) (s : State) :
    (handDirect data s).pac = s.pac := by
  unfold handDirect
  repeat' split
  all_goals simp

@[simp] theorem handDirect_share (data : List Byte) (s : State) :
    (handDirect data s).share = s.share := by
  unfold handDirect
  repeat' split
  all_goals simp

@[simp] theorem handDirect_mgmt (data : List Byte) (s : State) :
    (handDirect data s).mgmt = s.mgmt := by
  unfold handDirect
  repeat' split
  all_goals simp

@[simp] theorem handDirect_note (data : List Byte) (s : State) :
    (handDirect data s).note = s.note := by
  unfold handDirect
  repeat' split
  all_goals simp

@[simp] theorem handDirect_ret (data : List Byte) (s : State) :
    (handDirect data s).ret = s.ret := by
  unfold handDirect
  repeat' split
  all_goals simp

@[simp] theorem handDirect_cfg (data : List Byte) (s : State) :
    (handDirect data s).cfg = s.cfg := by
  unfold handDirect
  repeat' split
  all_goals simp

@[simp] theorem handDirect_choices (data : List Byte) (s : State) :
    (handDirect data s).choices = s.choices := by
  unfold handDirect
  repeat' split
  all_goals simp

@[simp] theorem handDirect_pending (data : List Byte) (s : State) :
    (handDirect data s).pending = s.pending := by
  unfold handDirect
  repeat' split
  all_goals simp

@[simp] theorem handReleased_time (data : List Byte) (s : State) :
    (handReleased data s).time = s.time := by simp [handReleased]

@[simp] theorem handReleased_lan (data : List Byte) (s : State) :
    (handReleased data s).lan = s.lan := by simp [handReleased]

@[simp] theorem handReleased_cls (data : List Byte) (s : State) :
    (handReleased data s).cls = s.cls := by simp [handReleased]

@[simp] theorem handReleased_cells (data : List Byte) (s : State) :
    (handReleased data s).cells = s.cells := by simp [handReleased]

@[simp] theorem handReleased_pow (data : List Byte) (s : State) :
    (handReleased data s).pow = s.pow := by simp [handReleased]

@[simp] theorem handReleased_hold (data : List Byte) (s : State) :
    (handReleased data s).hold = s.hold := by simp [handReleased]

@[simp] theorem handReleased_ans (data : List Byte) (s : State) :
    (handReleased data s).ans = s.ans := by simp [handReleased]

@[simp] theorem handReleased_bay (data : List Byte) (s : State) :
    (handReleased data s).bay = s.bay := by simp [handReleased]

@[simp] theorem handReleased_pac (data : List Byte) (s : State) :
    (handReleased data s).pac = s.pac := by simp [handReleased]

@[simp] theorem handReleased_share (data : List Byte) (s : State) :
    (handReleased data s).share = s.share := by simp [handReleased]

@[simp] theorem handReleased_mgmt (data : List Byte) (s : State) :
    (handReleased data s).mgmt = s.mgmt := by simp [handReleased]

@[simp] theorem handReleased_note (data : List Byte) (s : State) :
    (handReleased data s).note = s.note := by simp [handReleased]

@[simp] theorem handReleased_ret (data : List Byte) (s : State) :
    (handReleased data s).ret = s.ret := by simp [handReleased]

@[simp] theorem handReleased_cfg (data : List Byte) (s : State) :
    (handReleased data s).cfg = s.cfg := by simp [handReleased]

@[simp] theorem handReleased_choices (data : List Byte) (s : State) :
    (handReleased data s).choices = s.choices := by simp [handReleased]

@[simp] theorem handReleased_pending (data : List Byte) (s : State) :
    (handReleased data s).pending = s.pending := by simp [handReleased]

@[simp] theorem respond_time (r : Request) (result : ResultCode) (data : List Byte) (s : State) :
    (respond r result data s).time = s.time := by simp [respond]

@[simp] theorem respond_lan (r : Request) (result : ResultCode) (data : List Byte) (s : State) :
    (respond r result data s).lan = s.lan := by simp [respond]

@[simp] theorem respond_cls (r : Request) (result : ResultCode) (data : List Byte) (s : State) :
    (respond r result data s).cls = s.cls := by simp [respond]

@[simp] theorem respond_cells (r : Request) (result : ResultCode) (data : List Byte) (s : State) :
    (respond r result data s).cells = s.cells := by simp [respond]

@[simp] theorem respond_pow (r : Request) (result : ResultCode) (data : List Byte) (s : State) :
    (respond r result data s).pow = s.pow := by simp [respond]

@[simp] theorem respond_hold (r : Request) (result : ResultCode) (data : List Byte) (s : State) :
    (respond r result data s).hold = s.hold := by simp [respond]

@[simp] theorem respond_ans (r : Request) (result : ResultCode) (data : List Byte) (s : State) :
    (respond r result data s).ans = s.ans := by simp [respond]

@[simp] theorem respond_bay (r : Request) (result : ResultCode) (data : List Byte) (s : State) :
    (respond r result data s).bay = s.bay := by simp [respond]

@[simp] theorem respond_pac (r : Request) (result : ResultCode) (data : List Byte) (s : State) :
    (respond r result data s).pac = s.pac := by simp [respond]

@[simp] theorem respond_share (r : Request) (result : ResultCode) (data : List Byte) (s : State) :
    (respond r result data s).share = s.share := by simp [respond]

@[simp] theorem respond_mgmt (r : Request) (result : ResultCode) (data : List Byte) (s : State) :
    (respond r result data s).mgmt = s.mgmt := by simp [respond]

@[simp] theorem respond_note (r : Request) (result : ResultCode) (data : List Byte) (s : State) :
    (respond r result data s).note = s.note := by simp [respond]

@[simp] theorem respond_ret (r : Request) (result : ResultCode) (data : List Byte) (s : State) :
    (respond r result data s).ret = s.ret := by simp [respond]

@[simp] theorem respond_cfg (r : Request) (result : ResultCode) (data : List Byte) (s : State) :
    (respond r result data s).cfg = s.cfg := by simp [respond]

@[simp] theorem respond_choices (r : Request) (result : ResultCode) (data : List Byte) (s : State) :
    (respond r result data s).choices = s.choices := by simp [respond]

@[simp] theorem respond_pending (r : Request) (result : ResultCode) (data : List Byte) (s : State) :
    (respond r result data s).pending = s.pending := by simp [respond]

@[simp] theorem buildNotice_time (kind : NoticeKind) (s : State) :
    (buildNotice kind s).time = s.time := by
  unfold buildNotice
  repeat' split
  all_goals simp

@[simp] theorem buildNotice_lan (kind : NoticeKind) (s : State) :
    (buildNotice kind s).lan = s.lan := by
  unfold buildNotice
  repeat' split
  all_goals simp

@[simp] theorem buildNotice_cls (kind : NoticeKind) (s : State) :
    (buildNotice kind s).cls = s.cls := by
  unfold buildNotice
  repeat' split
  all_goals simp

@[simp] theorem buildNotice_cells (kind : NoticeKind) (s : State) :
    (buildNotice kind s).cells = s.cells := by
  unfold buildNotice
  repeat' split
  all_goals simp

@[simp] theorem buildNotice_pow (kind : NoticeKind) (s : State) :
    (buildNotice kind s).pow = s.pow := by
  unfold buildNotice
  repeat' split
  all_goals simp

@[simp] theorem buildNotice_hold (kind : NoticeKind) (s : State) :
    (buildNotice kind s).hold = s.hold := by
  unfold buildNotice
  repeat' split
  all_goals simp

@[simp] theorem buildNotice_ans (kind : NoticeKind) (s : State) :
    (buildNotice kind s).ans = s.ans := by
  unfold buildNotice
  repeat' split
  all_goals simp

@[simp] theorem buildNotice_bay (kind : NoticeKind) (s : State) :
    (buildNotice kind s).bay = s.bay := by
  unfold buildNotice
  repeat' split
  all_goals simp

@[simp] theorem buildNotice_pac (kind : NoticeKind) (s : State) :
    (buildNotice kind s).pac = s.pac := by
  unfold buildNotice
  repeat' split
  all_goals simp

@[simp] theorem buildNotice_share (kind : NoticeKind) (s : State) :
    (buildNotice kind s).share = s.share := by
  unfold buildNotice
  repeat' split
  all_goals simp

@[simp] theorem buildNotice_mgmt (kind : NoticeKind) (s : State) :
    (buildNotice kind s).mgmt = s.mgmt := by
  unfold buildNotice
  repeat' split
  all_goals simp

@[simp] theorem buildNotice_ret (kind : NoticeKind) (s : State) :
    (buildNotice kind s).ret = s.ret := by
  unfold buildNotice
  repeat' split
  all_goals simp

@[simp] theorem buildNotice_cfg (kind : NoticeKind) (s : State) :
    (buildNotice kind s).cfg = s.cfg := by
  unfold buildNotice
  repeat' split
  all_goals simp

@[simp] theorem buildNotice_choices (kind : NoticeKind) (s : State) :
    (buildNotice kind s).choices = s.choices := by
  unfold buildNotice
  repeat' split
  all_goals simp

@[simp] theorem buildNotice_pending (kind : NoticeKind) (s : State) :
    (buildNotice kind s).pending = s.pending := by
  unfold buildNotice
  repeat' split
  all_goals simp

@[simp] theorem buildNotices_time (s : State) :
    (buildNotices s).time = s.time := by simp [buildNotices, allNotices]

@[simp] theorem buildNotices_lan (s : State) :
    (buildNotices s).lan = s.lan := by simp [buildNotices, allNotices]

@[simp] theorem buildNotices_cls (s : State) :
    (buildNotices s).cls = s.cls := by simp [buildNotices, allNotices]

@[simp] theorem buildNotices_cells (s : State) :
    (buildNotices s).cells = s.cells := by simp [buildNotices, allNotices]

@[simp] theorem buildNotices_pow (s : State) :
    (buildNotices s).pow = s.pow := by simp [buildNotices, allNotices]

@[simp] theorem buildNotices_hold (s : State) :
    (buildNotices s).hold = s.hold := by simp [buildNotices, allNotices]

@[simp] theorem buildNotices_ans (s : State) :
    (buildNotices s).ans = s.ans := by simp [buildNotices, allNotices]

@[simp] theorem buildNotices_bay (s : State) :
    (buildNotices s).bay = s.bay := by simp [buildNotices, allNotices]

@[simp] theorem buildNotices_pac (s : State) :
    (buildNotices s).pac = s.pac := by simp [buildNotices, allNotices]

@[simp] theorem buildNotices_share (s : State) :
    (buildNotices s).share = s.share := by simp [buildNotices, allNotices]

@[simp] theorem buildNotices_mgmt (s : State) :
    (buildNotices s).mgmt = s.mgmt := by simp [buildNotices, allNotices]

@[simp] theorem buildNotices_ret (s : State) :
    (buildNotices s).ret = s.ret := by simp [buildNotices, allNotices]

@[simp] theorem buildNotices_cfg (s : State) :
    (buildNotices s).cfg = s.cfg := by simp [buildNotices, allNotices]

@[simp] theorem buildNotices_choices (s : State) :
    (buildNotices s).choices = s.choices := by simp [buildNotices, allNotices]

@[simp] theorem buildNotices_pending (s : State) :
    (buildNotices s).pending = s.pending := by simp [buildNotices, allNotices]

@[simp] theorem lanKick_time (s : State) :
    (lanKick s).time = s.time := by
  unfold lanKick
  repeat' split
  all_goals simp

@[simp] theorem lanKick_cls (s : State) :
    (lanKick s).cls = s.cls := by
  unfold lanKick
  repeat' split
  all_goals simp

@[simp] theorem lanKick_cells (s : State) :
    (lanKick s).cells = s.cells := by
  unfold lanKick
  repeat' split
  all_goals simp

@[simp] theorem lanKick_pow (s : State) :
    (lanKick s).pow = s.pow := by
  unfold lanKick
  repeat' split
  all_goals simp

@[simp] theorem lanKick_hold (s : State) :
    (lanKick s).hold = s.hold := by
  unfold lanKick
  repeat' split
  all_goals simp

@[simp] theorem lanKick_bay (s : State) :
    (lanKick s).bay = s.bay := by
  unfold lanKick
  repeat' split
  all_goals simp

@[simp] theorem lanKick_share (s : State) :
    (lanKick s).share = s.share := by
  unfold lanKick
  repeat' split
  all_goals simp

@[simp] theorem lanKick_host (s : State) :
    (lanKick s).host = s.host := by
  unfold lanKick
  repeat' split
  all_goals simp

@[simp] theorem lanKick_mgmt (s : State) :
    (lanKick s).mgmt = s.mgmt := by
  unfold lanKick
  repeat' split
  all_goals simp

@[simp] theorem lanKick_note (s : State) :
    (lanKick s).note = s.note := by
  unfold lanKick
  repeat' split
  all_goals simp

@[simp] theorem lanKick_ret (s : State) :
    (lanKick s).ret = s.ret := by
  unfold lanKick
  repeat' split
  all_goals simp

@[simp] theorem lanKick_cfg (s : State) :
    (lanKick s).cfg = s.cfg := by
  unfold lanKick
  repeat' split
  all_goals simp

@[simp] theorem lanKick_choices (s : State) :
    (lanKick s).choices = s.choices := by
  unfold lanKick
  repeat' split
  all_goals simp

@[simp] theorem lanKick_pending (s : State) :
    (lanKick s).pending = s.pending := by
  unfold lanKick
  repeat' split
  all_goals simp

@[simp] theorem queueMsg_time (m : PacingMsg) (s : State) :
    (queueMsg m s).time = s.time := by
  unfold queueMsg
  repeat' split
  all_goals simp

@[simp] theorem queueMsg_cls (m : PacingMsg) (s : State) :
    (queueMsg m s).cls = s.cls := by
  unfold queueMsg
  repeat' split
  all_goals simp

@[simp] theorem queueMsg_cells (m : PacingMsg) (s : State) :
    (queueMsg m s).cells = s.cells := by
  unfold queueMsg
  repeat' split
  all_goals simp

@[simp] theorem queueMsg_pow (m : PacingMsg) (s : State) :
    (queueMsg m s).pow = s.pow := by
  unfold queueMsg
  repeat' split
  all_goals simp

@[simp] theorem queueMsg_hold (m : PacingMsg) (s : State) :
    (queueMsg m s).hold = s.hold := by
  unfold queueMsg
  repeat' split
  all_goals simp

@[simp] theorem queueMsg_bay (m : PacingMsg) (s : State) :
    (queueMsg m s).bay = s.bay := by
  unfold queueMsg
  repeat' split
  all_goals simp

@[simp] theorem queueMsg_share (m : PacingMsg) (s : State) :
    (queueMsg m s).share = s.share := by
  unfold queueMsg
  repeat' split
  all_goals simp

@[simp] theorem queueMsg_host (m : PacingMsg) (s : State) :
    (queueMsg m s).host = s.host := by
  unfold queueMsg
  repeat' split
  all_goals simp

@[simp] theorem queueMsg_mgmt (m : PacingMsg) (s : State) :
    (queueMsg m s).mgmt = s.mgmt := by
  unfold queueMsg
  repeat' split
  all_goals simp

@[simp] theorem queueMsg_note (m : PacingMsg) (s : State) :
    (queueMsg m s).note = s.note := by
  unfold queueMsg
  repeat' split
  all_goals simp

@[simp] theorem queueMsg_ret (m : PacingMsg) (s : State) :
    (queueMsg m s).ret = s.ret := by
  unfold queueMsg
  repeat' split
  all_goals simp

@[simp] theorem queueMsg_cfg (m : PacingMsg) (s : State) :
    (queueMsg m s).cfg = s.cfg := by
  unfold queueMsg
  repeat' split
  all_goals simp

@[simp] theorem queueMsg_choices (m : PacingMsg) (s : State) :
    (queueMsg m s).choices = s.choices := by
  unfold queueMsg
  repeat' split
  all_goals simp

@[simp] theorem queueMsg_pending (m : PacingMsg) (s : State) :
    (queueMsg m s).pending = s.pending := by
  unfold queueMsg
  repeat' split
  all_goals simp


end Sys2Proof.Machine
end

