-- ==== Sys2Proof/Laws/Engines.lean ====
section
/-! SUPPORT. What the shared operations of the bay controller, the pacing engine, the hold queue and the power controller
leave as it is: for each operation, one lemma for each part of the state that it does not touch. -/

namespace Sys2Proof.Machine

@[simp] theorem fallSessions_time (p : Session → Bool) (s : State) :
    (fallSessions p s).time = s.time := rfl

@[simp] theorem fallSessions_lan (p : Session → Bool) (s : State) :
    (fallSessions p s).lan = s.lan := rfl

@[simp] theorem fallSessions_cls (p : Session → Bool) (s : State) :
    (fallSessions p s).cls = s.cls := rfl

@[simp] theorem fallSessions_cells (p : Session → Bool) (s : State) :
    (fallSessions p s).cells = s.cells := rfl

@[simp] theorem fallSessions_pow (p : Session → Bool) (s : State) :
    (fallSessions p s).pow = s.pow := rfl

@[simp] theorem fallSessions_hold (p : Session → Bool) (s : State) :
    (fallSessions p s).hold = s.hold := rfl

@[simp] theorem fallSessions_ans (p : Session → Bool) (s : State) :
    (fallSessions p s).ans = s.ans := rfl

@[simp] theorem fallSessions_bay (p : Session → Bool) (s : State) :
    (fallSessions p s).bay = s.bay := rfl

@[simp] theorem fallSessions_share (p : Session → Bool) (s : State) :
    (fallSessions p s).share = s.share := rfl

@[simp] theorem fallSessions_host (p : Session → Bool) (s : State) :
    (fallSessions p s).host = s.host := rfl

@[simp] theorem fallSessions_mgmt (p : Session → Bool) (s : State) :
    (fallSessions p s).mgmt = s.mgmt := rfl

@[simp] theorem fallSessions_note (p : Session → Bool) (s : State) :
    (fallSessions p s).note = s.note := rfl

@[simp] theorem fallSessions_ret (p : Session → Bool) (s : State) :
    (fallSessions p s).ret = s.ret := rfl

@[simp] theorem fallSessions_cfg (p : Session → Bool) (s : State) :
    (fallSessions p s).cfg = s.cfg := rfl

@[simp] theorem fallSessions_choices (p : Session → Bool) (s : State) :
    (fallSessions p s).choices = s.choices := rfl

@[simp] theorem fallSessions_pending (p : Session → Bool) (s : State) :
    (fallSessions p s).pending = s.pending := rfl

@[simp] theorem reportReady_time (bay : Bay) (s : State) :
    (reportReady bay s).time = s.time := rfl

@[simp] theorem reportReady_lan (bay : Bay) (s : State) :
    (reportReady bay s).lan = s.lan := rfl

@[simp] theorem reportReady_cls (bay : Bay) (s : State) :
    (reportReady bay s).cls = s.cls := rfl

@[simp] theorem reportReady_cells (bay : Bay) (s : State) :
    (reportReady bay s).cells = s.cells := rfl

@[simp] theorem reportReady_pow (bay : Bay) (s : State) :
    (reportReady bay s).pow = s.pow := rfl

@[simp] theorem reportReady_hold (bay : Bay) (s : State) :
    (reportReady bay s).hold = s.hold := rfl

@[simp] theorem reportReady_ans (bay : Bay) (s : State) :
    (reportReady bay s).ans = s.ans := rfl

@[simp] theorem reportReady_bay (bay : Bay) (s : State) :
    (reportReady bay s).bay = s.bay := rfl

@[simp] theorem reportReady_share (bay : Bay) (s : State) :
    (reportReady bay s).share = s.share := rfl

@[simp] theorem reportReady_host (bay : Bay) (s : State) :
    (reportReady bay s).host = s.host := rfl

@[simp] theorem reportReady_mgmt (bay : Bay) (s : State) :
    (reportReady bay s).mgmt = s.mgmt := rfl

@[simp] theorem reportReady_note (bay : Bay) (s : State) :
    (reportReady bay s).note = s.note := rfl

@[simp] theorem reportReady_ret (bay : Bay) (s : State) :
    (reportReady bay s).ret = s.ret := rfl

@[simp] theorem reportReady_cfg (bay : Bay) (s : State) :
    (reportReady bay s).cfg = s.cfg := rfl

@[simp] theorem reportReady_choices (bay : Bay) (s : State) :
    (reportReady bay s).choices = s.choices := rfl

@[simp] theorem reportReady_pending (bay : Bay) (s : State) :
    (reportReady bay s).pending = s.pending := rfl

@[simp] theorem reportUnready_time (bay : Bay) (s : State) :
    (reportUnready bay s).time = s.time := rfl

@[simp] theorem reportUnready_lan (bay : Bay) (s : State) :
    (reportUnready bay s).lan = s.lan := rfl

@[simp] theorem reportUnready_cls (bay : Bay) (s : State) :
    (reportUnready bay s).cls = s.cls := rfl

@[simp] theorem reportUnready_cells (bay : Bay) (s : State) :
    (reportUnready bay s).cells = s.cells := rfl

@[simp] theorem reportUnready_pow (bay : Bay) (s : State) :
    (reportUnready bay s).pow = s.pow := rfl

@[simp] theorem reportUnready_hold (bay : Bay) (s : State) :
    (reportUnready bay s).hold = s.hold := rfl

@[simp] theorem reportUnready_ans (bay : Bay) (s : State) :
    (reportUnready bay s).ans = s.ans := rfl

@[simp] theorem reportUnready_bay (bay : Bay) (s : State) :
    (reportUnready bay s).bay = s.bay := rfl

@[simp] theorem reportUnready_share (bay : Bay) (s : State) :
    (reportUnready bay s).share = s.share := rfl

@[simp] theorem reportUnready_host (bay : Bay) (s : State) :
    (reportUnready bay s).host = s.host := rfl

@[simp] theorem reportUnready_mgmt (bay : Bay) (s : State) :
    (reportUnready bay s).mgmt = s.mgmt := rfl

@[simp] theorem reportUnready_note (bay : Bay) (s : State) :
    (reportUnready bay s).note = s.note := rfl

@[simp] theorem reportUnready_ret (bay : Bay) (s : State) :
    (reportUnready bay s).ret = s.ret := rfl

@[simp] theorem reportUnready_cfg (bay : Bay) (s : State) :
    (reportUnready bay s).cfg = s.cfg := rfl

@[simp] theorem reportUnready_choices (bay : Bay) (s : State) :
    (reportUnready bay s).choices = s.choices := rfl

@[simp] theorem reportUnready_pending (bay : Bay) (s : State) :
    (reportUnready bay s).pending = s.pending := rfl

@[simp] theorem onBay_time (bay : Bay) (f : BayRecord → BayRecord) (s : State) :
    (onBay bay f s).time = s.time := rfl

@[simp] theorem onBay_lan (bay : Bay) (f : BayRecord → BayRecord) (s : State) :
    (onBay bay f s).lan = s.lan := rfl

@[simp] theorem onBay_cls (bay : Bay) (f : BayRecord → BayRecord) (s : State) :
    (onBay bay f s).cls = s.cls := rfl

@[simp] theorem onBay_cells (bay : Bay) (f : BayRecord → BayRecord) (s : State) :
    (onBay bay f s).cells = s.cells := rfl

@[simp] theorem onBay_pow (bay : Bay) (f : BayRecord → BayRecord) (s : State) :
    (onBay bay f s).pow = s.pow := rfl

@[simp] theorem onBay_hold (bay : Bay) (f : BayRecord → BayRecord) (s : State) :
    (onBay bay f s).hold = s.hold := rfl

@[simp] theorem onBay_ans (bay : Bay) (f : BayRecord → BayRecord) (s : State) :
    (onBay bay f s).ans = s.ans := rfl

@[simp] theorem onBay_pac (bay : Bay) (f : BayRecord → BayRecord) (s : State) :
    (onBay bay f s).pac = s.pac := rfl

@[simp] theorem onBay_share (bay : Bay) (f : BayRecord → BayRecord) (s : State) :
    (onBay bay f s).share = s.share := rfl

@[simp] theorem onBay_host (bay : Bay) (f : BayRecord → BayRecord) (s : State) :
    (onBay bay f s).host = s.host := rfl

@[simp] theorem onBay_mgmt (bay : Bay) (f : BayRecord → BayRecord) (s : State) :
    (onBay bay f s).mgmt = s.mgmt := rfl

@[simp] theorem onBay_note (bay : Bay) (f : BayRecord → BayRecord) (s : State) :
    (onBay bay f s).note = s.note := rfl

@[simp] theorem onBay_ret (bay : Bay) (f : BayRecord → BayRecord) (s : State) :
    (onBay bay f s).ret = s.ret := rfl

@[simp] theorem onBay_cfg (bay : Bay) (f : BayRecord → BayRecord) (s : State) :
    (onBay bay f s).cfg = s.cfg := rfl

@[simp] theorem onBay_choices (bay : Bay) (f : BayRecord → BayRecord) (s : State) :
    (onBay bay f s).choices = s.choices := rfl

@[simp] theorem onBay_pending (bay : Bay) (f : BayRecord → BayRecord) (s : State) :
    (onBay bay f s).pending = s.pending := rfl

@[simp] theorem tryHeads_time (n : Nat) (s : State) :
    (tryHeads n s).time = s.time := by
  induction n generalizing s with
  | zero => rfl
  | succ n ih =>
    unfold tryHeads
    repeat' split
    all_goals simp [ih]

@[simp] theorem tryHeads_lan (n : Nat) (s : State) :
    (tryHeads n s).lan = s.lan := by
  induction n generalizing s with
  | zero => rfl
  | succ n ih =>
    unfold tryHeads
    repeat' split
    all_goals simp [ih]

@[simp] theorem tryHeads_cls (n : Nat) (s : State) :
    (tryHeads n s).cls = s.cls := by
  induction n generalizing s with
  | zero => rfl
  | succ n ih =>
    unfold tryHeads
    repeat' split
    all_goals simp [ih]

@[simp] theorem tryHeads_cells (n : Nat) (s : State) :
    (tryHeads n s).cells = s.cells := by
  induction n generalizing s with
  | zero => rfl
  | succ n ih =>
    unfold tryHeads
    repeat' split
    all_goals simp [ih]

@[simp] theorem tryHeads_pow (n : Nat) (s : State) :
    (tryHeads n s).pow = s.pow := by
  induction n generalizing s with
  | zero => rfl
  | succ n ih =>
    unfold tryHeads
    repeat' split
    all_goals simp [ih]

@[simp] theorem tryHeads_hold (n : Nat) (s : State) :
    (tryHeads n s).hold = s.hold := by
  induction n generalizing s with
  | zero => rfl
  | succ n ih =>
    unfold tryHeads
    repeat' split
    all_goals simp [ih]

@[simp] theorem tryHeads_ans (n : Nat) (s : State) :
    (tryHeads n s).ans = s.ans := by
  induction n generalizing s with
  | zero => rfl
  | succ n ih =>
    unfold tryHeads
    repeat' split
    all_goals simp [ih]

@[simp] theorem tryHeads_pac (n : Nat) (s : State) :
    (tryHeads n s).pac = s.pac := by
  induction n generalizing s with
  | zero => rfl
  | succ n ih =>
    unfold tryHeads
    repeat' split
    all_goals simp [ih]

@[simp] theorem tryHeads_share (n : Nat) (s : State) :
    (tryHeads n s).share = s.share := by
  induction n generalizing s with
  | zero => rfl
  | succ n ih =>
    unfold tryHeads
    repeat' split
    all_goals simp [ih]

@[simp] theorem tryHeads_host (n : Nat) (s : State) :
    (tryHeads n s).host = s.host := by
  induction n generalizing s with
  | zero => rfl
  | succ n ih =>
    unfold tryHeads
    repeat' split
    all_goals simp [ih]

@[simp] theorem tryHeads_mgmt (n : Nat) (s : State) :
    (tryHeads n s).mgmt = s.mgmt := by
  induction n generalizing s with
  | zero => rfl
  | succ n ih =>
    unfold tryHeads
    repeat' split
    all_goals simp [ih]

@[simp] theorem tryHeads_note (n : Nat) (s : State) :
    (tryHeads n s).note = s.note := by
  induction n generalizing s with
  | zero => rfl
  | succ n ih =>
    unfold tryHeads
    repeat' split
    all_goals simp [ih]

@[simp] theorem tryHeads_ret (n : Nat) (s : State) :
    (tryHeads n s).ret = s.ret := by
  induction n generalizing s with
  | zero => rfl
  | succ n ih =>
    unfold tryHeads
    repeat' split
    all_goals simp [ih]

@[simp] theorem tryHeads_cfg (n : Nat) (s : State) :
    (tryHeads n s).cfg = s.cfg := by
  induction n generalizing s with
  | zero => rfl
  | succ n ih =>
    unfold tryHeads
    repeat' split
    all_goals simp [ih]

@[simp] theorem tryHeads_choices (n : Nat) (s : State) :
    (tryHeads n s).choices = s.choices := by
  induction n generalizing s with
  | zero => rfl
  | succ n ih =>
    unfold tryHeads
    repeat' split
    all_goals simp [ih]

@[simp] theorem tryHeads_pending (n : Nat) (s : State) :
    (tryHeads n s).pending = s.pending := by
  induction n generalizing s with
  | zero => rfl
  | succ n ih =>
    unfold tryHeads
    repeat' split
    all_goals simp [ih]

@[simp] theorem tryHead_time (s : State) :
    (tryHead s).time = s.time := by simp [tryHead]

@[simp] theorem tryHead_lan (s : State) :
    (tryHead s).lan = s.lan := by simp [tryHead]

@[simp] theorem tryHead_cls (s : State) :
    (tryHead s).cls = s.cls := by simp [tryHead]

@[simp] theorem tryHead_cells (s : State) :
    (tryHead s).cells = s.cells := by simp [tryHead]

@[simp] theorem tryHead_pow (s : State) :
    (tryHead s).pow = s.pow := by simp [tryHead]

@[simp] theorem tryHead_hold (s : State) :
    (tryHead s).hold = s.hold := by simp [tryHead]

@[simp] theorem tryHead_ans (s : State) :
    (tryHead s).ans = s.ans := by simp [tryHead]

@[simp] theorem tryHead_pac (s : State) :
    (tryHead s).pac = s.pac := by simp [tryHead]

@[simp] theorem tryHead_share (s : State) :
    (tryHead s).share = s.share := by simp [tryHead]

@[simp] theorem tryHead_host (s : State) :
    (tryHead s).host = s.host := by simp [tryHead]

@[simp] theorem tryHead_mgmt (s : State) :
    (tryHead s).mgmt = s.mgmt := by simp [tryHead]

@[simp] theorem tryHead_note (s : State) :
    (tryHead s).note = s.note := by simp [tryHead]

@[simp] theorem tryHead_ret (s : State) :
    (tryHead s).ret = s.ret := by simp [tryHead]

@[simp] theorem tryHead_cfg (s : State) :
    (tryHead s).cfg = s.cfg := by simp [tryHead]

@[simp] theorem tryHead_choices (s : State) :
    (tryHead s).choices = s.choices := by simp [tryHead]

@[simp] theorem tryHead_pending (s : State) :
    (tryHead s).pending = s.pending := by simp [tryHead]

@[simp] theorem demandBay_time (bay : Bay) (s : State) :
    (demandBay bay s).time = s.time := by
  unfold demandBay
  repeat' split
  all_goals simp

@[simp] theorem demandBay_lan (bay : Bay) (s : State) :
    (demandBay bay s).lan = s.lan := by
  unfold demandBay
  repeat' split
  all_goals simp

@[simp] theorem demandBay_cls (bay : Bay) (s : State) :
    (demandBay bay s).cls = s.cls := by
  unfold demandBay
  repeat' split
  all_goals simp

@[simp] theorem demandBay_cells (bay : Bay) (s : State) :
    (demandBay bay s).cells = s.cells := by
  unfold demandBay
  repeat' split
  all_goals simp

@[simp] theorem demandBay_pow (bay : Bay) (s : State) :
    (demandBay bay s).pow = s.pow := by
  unfold demandBay
  repeat' split
  all_goals simp

@[simp] theorem demandBay_hold (bay : Bay) (s : State) :
    (demandBay bay s).hold = s.hold := by
  unfold demandBay
  repeat' split
  all_goals simp

@[simp] theorem demandBay_ans (bay : Bay) (s : State) :
    (demandBay bay s).ans = s.ans := by
  unfold demandBay
  repeat' split
  all_goals simp

@[simp] theorem demandBay_pac (bay : Bay) (s : State) :
    (demandBay bay s).pac = s.pac := by
  unfold demandBay
  repeat' split
  all_goals simp

@[simp] theorem demandBay_share (bay : Bay) (s : State) :
    (demandBay bay s).share = s.share := by
  unfold demandBay
  repeat' split
  all_goals simp

@[simp] theorem demandBay_host (bay : Bay) (s : State) :
    (demandBay bay s).host = s.host := by
  unfold demandBay
  repeat' split
  all_goals simp

@[simp] theorem demandBay_mgmt (bay : Bay) (s : State) :
    (demandBay bay s).mgmt = s.mgmt := by
  unfold demandBay
  repeat' split
  all_goals simp

@[simp] theorem demandBay_note (bay : Bay) (s : State) :
    (demandBay bay s).note = s.note := by
  unfold demandBay
  repeat' split
  all_goals simp

@[simp] theorem demandBay_ret (bay : Bay) (s : State) :
    (demandBay bay s).ret = s.ret := by
  unfold demandBay
  repeat' split
  all_goals simp

@[simp] theorem demandBay_cfg (bay : Bay) (s : State) :
    (demandBay bay s).cfg = s.cfg := by
  unfold demandBay
  repeat' split
  all_goals simp

@[simp] theorem demandBay_choices (bay : Bay) (s : State) :
    (demandBay bay s).choices = s.choices := by
  unfold demandBay
  repeat' split
  all_goals simp

@[simp] theorem demandBay_pending (bay : Bay) (s : State) :
    (demandBay bay s).pending = s.pending := by
  unfold demandBay
  repeat' split
  all_goals simp

@[simp] theorem demand_time (set : BaySet) (s : State) :
    (demand set s).time = s.time := by
  unfold demand
  split
  · rfl
  · simp only [allBays, List.foldl_cons, List.foldl_nil, tryHead_time]
    repeat' split
    all_goals simp

@[simp] theorem demand_lan (set : BaySet) (s : State) :
    (demand set s).lan = s.lan := by
  unfold demand
  split
  · rfl
  · simp only [allBays, List.foldl_cons, List.foldl_nil, tryHead_lan]
    repeat' split
    all_goals simp

@[simp] theorem demand_cls (set : BaySet) (s : State) :
    (demand set s).cls = s.cls := by
  unfold demand
  split
  · rfl
  · simp only [allBays, List.foldl_cons, List.foldl_nil, tryHead_cls]
    repeat' split
    all_goals simp

@[simp] theorem demand_cells (set : BaySet) (s : State) :
    (demand set s).cells = s.cells := by
  unfold demand
  split
  · rfl
  · simp only [allBays, List.foldl_cons, List.foldl_nil, tryHead_cells]
    repeat' split
    all_goals simp

@[simp] theorem demand_pow (set : BaySet) (s : State) :
    (demand set s).pow = s.pow := by
  unfold demand
  split
  · rfl
  · simp only [allBays, List.foldl_cons, List.foldl_nil, tryHead_pow]
    repeat' split
    all_goals simp

@[simp] theorem demand_hold (set : BaySet) (s : State) :
    (demand set s).hold = s.hold := by
  unfold demand
  split
  · rfl
  · simp only [allBays, List.foldl_cons, List.foldl_nil, tryHead_hold]
    repeat' split
    all_goals simp

@[simp] theorem demand_ans (set : BaySet) (s : State) :
    (demand set s).ans = s.ans := by
  unfold demand
  split
  · rfl
  · simp only [allBays, List.foldl_cons, List.foldl_nil, tryHead_ans]
    repeat' split
    all_goals simp

@[simp] theorem demand_pac (set : BaySet) (s : State) :
    (demand set s).pac = s.pac := by
  unfold demand
  split
  · rfl
  · simp only [allBays, List.foldl_cons, List.foldl_nil, tryHead_pac]
    repeat' split
    all_goals simp

@[simp] theorem demand_share (set : BaySet) (s : State) :
    (demand set s).share = s.share := by
  unfold demand
  split
  · rfl
  · simp only [allBays, List.foldl_cons, List.foldl_nil, tryHead_share]
    repeat' split
    all_goals simp

@[simp] theorem demand_host (set : BaySet) (s : State) :
    (demand set s).host = s.host := by
  unfold demand
  split
  · rfl
  · simp only [allBays, List.foldl_cons, List.foldl_nil, tryHead_host]
    repeat' split
    all_goals simp

@[simp] theorem demand_mgmt (set : BaySet) (s : State) :
    (demand set s).mgmt = s.mgmt := by
  unfold demand
  split
  · rfl
  · simp only [allBays, List.foldl_cons, List.foldl_nil, tryHead_mgmt]
    repeat' split
    all_goals simp

@[simp] theorem demand_note (set : BaySet) (s : State) :
    (demand set s).note = s.note := by
  unfold demand
  split
  · rfl
  · simp only [allBays, List.foldl_cons, List.foldl_nil, tryHead_note]
    repeat' split
    all_goals simp

@[simp] theorem demand_ret (set : BaySet) (s : State) :
    (demand set s).ret = s.ret := by
  unfold demand
  split
  · rfl
  · simp only [allBays, List.foldl_cons, List.foldl_nil, tryHead_ret]
    repeat' split
    all_goals simp

@[simp] theorem demand_cfg (set : BaySet) (s : State) :
    (demand set s).cfg = s.cfg := by
  unfold demand
  split
  · rfl
  · simp only [allBays, List.foldl_cons, List.foldl_nil, tryHead_cfg]
    repeat' split
    all_goals simp

@[simp] theorem demand_choices (set : BaySet) (s : State) :
    (demand set s).choices = s.choices := by
  unfold demand
  split
  · rfl
  · simp only [allBays, List.foldl_cons, List.foldl_nil, tryHead_choices]
    repeat' split
    all_goals simp

@[simp] theorem demand_pending (set : BaySet) (s : State) :
    (demand set s).pending = s.pending := by
  unfold demand
  split
  · rfl
  · simp only [allBays, List.foldl_cons, List.foldl_nil, tryHead_pending]
    repeat' split
    all_goals simp

@[simp] theorem changeNeeded_time (gives takes : BaySet) (s : State) :
    (changeNeeded gives takes s).time = s.time := rfl

@[simp] theorem changeNeeded_lan (gives takes : BaySet) (s : State) :
    (changeNeeded gives takes s).lan = s.lan := rfl

@[simp] theorem changeNeeded_cls (gives takes : BaySet) (s : State) :
    (changeNeeded gives takes s).cls = s.cls := rfl

@[simp] theorem changeNeeded_cells (gives takes : BaySet) (s : State) :
    (changeNeeded gives takes s).cells = s.cells := rfl

@[simp] theorem changeNeeded_pow (gives takes : BaySet) (s : State) :
    (changeNeeded gives takes s).pow = s.pow := rfl

@[simp] theorem changeNeeded_hold (gives takes : BaySet) (s : State) :
    (changeNeeded gives takes s).hold = s.hold := rfl

@[simp] theorem changeNeeded_ans (gives takes : BaySet) (s : State) :
    (changeNeeded gives takes s).ans = s.ans := rfl

@[simp] theorem changeNeeded_pac (gives takes : BaySet) (s : State) :
    (changeNeeded gives takes s).pac = s.pac := rfl

@[simp] theorem changeNeeded_share (gives takes : BaySet) (s : State) :
    (changeNeeded gives takes s).share = s.share := rfl

@[simp] theorem changeNeeded_host (gives takes : BaySet) (s : State) :
    (changeNeeded gives takes s).host = s.host := rfl

@[simp] theorem changeNeeded_mgmt (gives takes : BaySet) (s : State) :
    (changeNeeded gives takes s).mgmt = s.mgmt := rfl

@[simp] theorem changeNeeded_note (gives takes : BaySet) (s : State) :
    (changeNeeded gives takes s).note = s.note := rfl

@[simp] theorem changeNeeded_ret (gives takes : BaySet) (s : State) :
    (changeNeeded gives takes s).ret = s.ret := rfl

@[simp] theorem changeNeeded_cfg (gives takes : BaySet) (s : State) :
    (changeNeeded gives takes s).cfg = s.cfg := rfl

@[simp] theorem changeNeeded_choices (gives takes : BaySet) (s : State) :
    (changeNeeded gives takes s).choices = s.choices := rfl

@[simp] theorem changeNeeded_pending (gives takes : BaySet) (s : State) :
    (changeNeeded gives takes s).pending = s.pending := rfl

@[simp] theorem sleepReached_time (s : State) :
    (sleepReached s).time = s.time := by
  simp only [sleepReached, allBays, List.foldl_cons, List.foldl_nil]
  repeat' split
  all_goals simp

@[simp] theorem sleepReached_lan (s : State) :
    (sleepReached s).lan = s.lan := by
  simp only [sleepReached, allBays, List.foldl_cons, List.foldl_nil]
  repeat' split
  all_goals simp

@[simp] theorem sleepReached_cls (s : State) :
    (sleepReached s).cls = s.cls := by
  simp only [sleepReached, allBays, List.foldl_cons, List.foldl_nil]
  repeat' split
  all_goals simp

@[simp] theorem sleepReached_cells (s : State) :
    (sleepReached s).cells = s.cells := by
  simp only [sleepReached, allBays, List.foldl_cons, List.foldl_nil]
  repeat' split
  all_goals simp

@[simp] theorem sleepReached_pow (s : State) :
    (sleepReached s).pow = s.pow := by
  simp only [sleepReached, allBays, List.foldl_cons, List.foldl_nil]
  repeat' split
  all_goals simp

@[simp] theorem sleepReached_hold (s : State) :
    (sleepReached s).hold = s.hold := by
  simp only [sleepReached, allBays, List.foldl_cons, List.foldl_nil]
  repeat' split
  all_goals simp

@[simp] theorem sleepReached_ans (s : State) :
    (sleepReached s).ans = s.ans := by
  simp only [sleepReached, allBays, List.foldl_cons, List.foldl_nil]
  repeat' split
  all_goals simp

@[simp] theorem sleepReached_share (s : State) :
    (sleepReached s).share = s.share := by
  simp only [sleepReached, allBays, List.foldl_cons, List.foldl_nil]
  repeat' split
  all_goals simp

@[simp] theorem sleepReached_host (s : State) :
    (sleepReached s).host = s.host := by
  simp only [sleepReached, allBays, List.foldl_cons, List.foldl_nil]
  repeat' split
  all_goals simp

@[simp] theorem sleepReached_mgmt (s : State) :
    (sleepReached s).mgmt = s.mgmt := by
  simp only [sleepReached, allBays, List.foldl_cons, List.foldl_nil]
  repeat' split
  all_goals simp

@[simp] theorem sleepReached_note (s : State) :
    (sleepReached s).note = s.note := by
  simp only [sleepReached, allBays, List.foldl_cons, List.foldl_nil]
  repeat' split
  all_goals simp

@[simp] theorem sleepReached_ret (s : State) :
    (sleepReached s).ret = s.ret := by
  simp only [sleepReached, allBays, List.foldl_cons, List.foldl_nil]
  repeat' split
  all_goals simp

@[simp] theorem sleepReached_cfg (s : State) :
    (sleepReached s).cfg = s.cfg := by
  simp only [sleepReached, allBays, List.foldl_cons, List.foldl_nil]
  repeat' split
  all_goals simp

@[simp] theorem sleepReached_choices (s : State) :
    (sleepReached s).choices = s.choices := by
  simp only [sleepReached, allBays, List.foldl_cons, List.foldl_nil]
  repeat' split
  all_goals simp

@[simp] theorem sleepReached_pending (s : State) :
    (sleepReached s).pending = s.pending := by
  simp only [sleepReached, allBays, List.foldl_cons, List.foldl_nil]
  repeat' split
  all_goals simp

@[simp] theorem onSlot_time (i : Slot) (f : SessionSlot → SessionSlot) (s : State) :
    (onSlot i f s).time = s.time := rfl

@[simp] theorem onSlot_lan (i : Slot) (f : SessionSlot → SessionSlot) (s : State) :
    (onSlot i f s).lan = s.lan := rfl

@[simp] theorem onSlot_cls (i : Slot) (f : SessionSlot → SessionSlot) (s : State) :
    (onSlot i f s).cls = s.cls := rfl

@[simp] theorem onSlot_cells (i : Slot) (f : SessionSlot → SessionSlot) (s : State) :
    (onSlot i f s).cells = s.cells := rfl

@[simp] theorem onSlot_pow (i : Slot) (f : SessionSlot → SessionSlot) (s : State) :
    (onSlot i f s).pow = s.pow := rfl

@[simp] theorem onSlot_hold (i : Slot) (f : SessionSlot → SessionSlot) (s : State) :
    (onSlot i f s).hold = s.hold := rfl

@[simp] theorem onSlot_ans (i : Slot) (f : SessionSlot → SessionSlot) (s : State) :
    (onSlot i f s).ans = s.ans := rfl

@[simp] theorem onSlot_bay (i : Slot) (f : SessionSlot → SessionSlot) (s : State) :
    (onSlot i f s).bay = s.bay := rfl

@[simp] theorem onSlot_share (i : Slot) (f : SessionSlot → SessionSlot) (s : State) :
    (onSlot i f s).share = s.share := rfl

@[simp] theorem onSlot_host (i : Slot) (f : SessionSlot → SessionSlot) (s : State) :
    (onSlot i f s).host = s.host := rfl

@[simp] theorem onSlot_mgmt (i : Slot) (f : SessionSlot → SessionSlot) (s : State) :
    (onSlot i f s).mgmt = s.mgmt := rfl

@[simp] theorem onSlot_note (i : Slot) (f : SessionSlot → SessionSlot) (s : State) :
    (onSlot i f s).note = s.note := rfl

@[simp] theorem onSlot_ret (i : Slot) (f : SessionSlot → SessionSlot) (s : State) :
    (onSlot i f s).ret = s.ret := rfl

@[simp] theorem onSlot_cfg (i : Slot) (f : SessionSlot → SessionSlot) (s : State) :
    (onSlot i f s).cfg = s.cfg := rfl

@[simp] theorem onSlot_choices (i : Slot) (f : SessionSlot → SessionSlot) (s : State) :
    (onSlot i f s).choices = s.choices := rfl

@[simp] theorem onSlot_pending (i : Slot) (f : SessionSlot → SessionSlot) (s : State) :
    (onSlot i f s).pending = s.pending := rfl

@[simp] theorem setStage_time (k : Nat) (slot : StageSlot) (s : State) :
    (setStage k slot s).time = s.time := rfl

@[simp] theorem setStage_lan (k : Nat) (slot : StageSlot) (s : State) :
    (setStage k slot s).lan = s.lan := rfl

@[simp] theorem setStage_cls (k : Nat) (slot : StageSlot) (s : State) :
    (setStage k slot s).cls = s.cls := rfl

@[simp] theorem setStage_cells (k : Nat) (slot : StageSlot) (s : State) :
    (setStage k slot s).cells = s.cells := rfl

@[simp] theorem setStage_pow (k : Nat) (slot : StageSlot) (s : State) :
    (setStage k slot s).pow = s.pow := rfl

@[simp] theorem setStage_hold (k : Nat) (slot : StageSlot) (s : State) :
    (setStage k slot s).hold = s.hold := rfl

@[simp] theorem setStage_ans (k : Nat) (slot : StageSlot) (s : State) :
    (setStage k slot s).ans = s.ans := rfl

@[simp] theorem setStage_bay (k : Nat) (slot : StageSlot) (s : State) :
    (setStage k slot s).bay = s.bay := rfl

@[simp] theorem setStage_share (k : Nat) (slot : StageSlot) (s : State) :
    (setStage k slot s).share = s.share := rfl

@[simp] theorem setStage_host (k : Nat) (slot : StageSlot) (s : State) :
    (setStage k slot s).host = s.host := rfl

@[simp] theorem setStage_mgmt (k : Nat) (slot : StageSlot) (s : State) :
    (setStage k slot s).mgmt = s.mgmt := rfl

@[simp] theorem setStage_note (k : Nat) (slot : StageSlot) (s : State) :
    (setStage k slot s).note = s.note := rfl

@[simp] theorem setStage_ret (k : Nat) (slot : StageSlot) (s : State) :
    (setStage k slot s).ret = s.ret := rfl

@[simp] theorem setStage_cfg (k : Nat) (slot : StageSlot) (s : State) :
    (setStage k slot s).cfg = s.cfg := rfl

@[simp] theorem setStage_choices (k : Nat) (slot : StageSlot) (s : State) :
    (setStage k slot s).choices = s.choices := rfl

@[simp] theorem setStage_pending (k : Nat) (slot : StageSlot) (s : State) :
    (setStage k slot s).pending = s.pending := rfl

@[simp] theorem startSession_time (i : Slot) (gives : BaySet) (peer : MacAddr) (f : FollowOn) (s : State) :
    (startSession i gives peer f s).time = s.time := by simp [startSession]

@[simp] theorem startSession_cls (i : Slot) (gives : BaySet) (peer : MacAddr) (f : FollowOn) (s : State) :
    (startSession i gives peer f s).cls = s.cls := by simp [startSession]

@[simp] theorem startSession_cells (i : Slot) (gives : BaySet) (peer : MacAddr) (f : FollowOn) (s : State) :
    (startSession i gives peer f s).cells = s.cells := by simp [startSession]

@[simp] theorem startSession_pow (i : Slot) (gives : BaySet) (peer : MacAddr) (f : FollowOn) (s : State) :
    (startSession i gives peer f s).pow = s.pow := by simp [startSession]

@[simp] theorem startSession_hold (i : Slot) (gives : BaySet) (peer : MacAddr) (f : FollowOn) (s : State) :
    (startSession i gives peer f s).hold = s.hold := by simp [startSession]

@[simp] theorem startSession_share (i : Slot) (gives : BaySet) (peer : MacAddr) (f : FollowOn) (s : State) :
    (startSession i gives peer f s).share = s.share := by simp [startSession]

@[simp] theorem startSession_host (i : Slot) (gives : BaySet) (peer : MacAddr) (f : FollowOn) (s : State) :
    (startSession i gives peer f s).host = s.host := by simp [startSession]

@[simp] theorem startSession_mgmt (i : Slot) (gives : BaySet) (peer : MacAddr) (f : FollowOn) (s : State) :
    (startSession i gives peer f s).mgmt = s.mgmt := by simp [startSession]

@[simp] theorem startSession_note (i : Slot) (gives : BaySet) (peer : MacAddr) (f : FollowOn) (s : State) :
    (startSession i gives peer f s).note = s.note := by simp [startSession]

@[simp] theorem startSession_ret (i : Slot) (gives : BaySet) (peer : MacAddr) (f : FollowOn) (s : State) :
    (startSession i gives peer f s).ret = s.ret := by simp [startSession]

@[simp] theorem startSession_cfg (i : Slot) (gives : BaySet) (peer : MacAddr) (f : FollowOn) (s : State) :
    (startSession i gives peer f s).cfg = s.cfg := by simp [startSession]

@[simp] theorem startSession_choices (i : Slot) (gives : BaySet) (peer : MacAddr) (f : FollowOn) (s : State) :
    (startSession i gives peer f s).choices = s.choices := by simp [startSession]

@[simp] theorem startSession_pending (i : Slot) (gives : BaySet) (peer : MacAddr) (f : FollowOn) (s : State) :
    (startSession i gives peer f s).pending = s.pending := by simp [startSession]

@[simp] theorem declineFollowOn_time (x : Session) (s : State) :
    (declineFollowOn x s).time = s.time := by
  unfold declineFollowOn
  repeat' split
  all_goals simp

@[simp] theorem declineFollowOn_cls (x : Session) (s : State) :
    (declineFollowOn x s).cls = s.cls := by
  unfold declineFollowOn
  repeat' split
  all_goals simp

@[simp] theorem declineFollowOn_cells (x : Session) (s : State) :
    (declineFollowOn x s).cells = s.cells := by
  unfold declineFollowOn
  repeat' split
  all_goals simp

@[simp] theorem declineFollowOn_pow (x : Session) (s : State) :
    (declineFollowOn x s).pow = s.pow := by
  unfold declineFollowOn
  repeat' split
  all_goals simp

@[simp] theorem declineFollowOn_hold (x : Session) (s : State) :
    (declineFollowOn x s).hold = s.hold := by
  unfold declineFollowOn
  repeat' split
  all_goals simp

@[simp] theorem declineFollowOn_bay (x : Session) (s : State) :
    (declineFollowOn x s).bay = s.bay := by
  unfold declineFollowOn
  repeat' split
  all_goals simp

@[simp] theorem declineFollowOn_share (x : Session) (s : State) :
    (declineFollowOn x s).share = s.share := by
  unfold declineFollowOn
  repeat' split
  all_goals simp

@[simp] theorem declineFollowOn_host (x : Session) (s : State) :
    (declineFollowOn x s).host = s.host := by
  unfold declineFollowOn
  repeat' split
  all_goals simp

@[simp] theorem declineFollowOn_mgmt (x : Session) (s : State) :
    (declineFollowOn x s).mgmt = s.mgmt := by
  unfold declineFollowOn
  repeat' split
  all_goals simp

@[simp] theorem declineFollowOn_note (x : Session) (s : State) :
    (declineFollowOn x s).note = s.note := by
  unfold declineFollowOn
  repeat' split
  all_goals simp

@[simp] theorem declineFollowOn_ret (x : Session) (s : State) :
    (declineFollowOn x s).ret = s.ret := by
  unfold declineFollowOn
  repeat' split
  all_goals simp

@[simp] theorem declineFollowOn_cfg (x : Session) (s : State) :
    (declineFollowOn x s).cfg = s.cfg := by
  unfold declineFollowOn
  repeat' split
  all_goals simp

@[simp] theorem declineFollowOn_choices (x : Session) (s : State) :
    (declineFollowOn x s).choices = s.choices := by
  unfold declineFollowOn
  repeat' split
  all_goals simp

@[simp] theorem declineFollowOn_pending (x : Session) (s : State) :
    (declineFollowOn x s).pending = s.pending := by
  unfold declineFollowOn
  repeat' split
  all_goals simp

@[simp] theorem haltSession_time (i : Slot) (cause : HaltCause) (s : State) :
    (haltSession i cause s).time = s.time := by
  unfold haltSession
  dsimp only
  repeat' split
  all_goals simp

@[simp] theorem haltSession_cls (i : Slot) (cause : HaltCause) (s : State) :
    (haltSession i cause s).cls = s.cls := by
  unfold haltSession
  dsimp only
  repeat' split
  all_goals simp

@[simp] theorem haltSession_cells (i : Slot) (cause : HaltCause) (s : State) :
    (haltSession i cause s).cells = s.cells := by
  unfold haltSession
  dsimp only
  repeat' split
  all_goals simp

@[simp] theorem haltSession_pow (i : Slot) (cause : HaltCause) (s : State) :
    (haltSession i cause s).pow = s.pow := by
  unfold haltSession
  dsimp only
  repeat' split
  all_goals simp

@[simp] theorem haltSession_hold (i : Slot) (cause : HaltCause) (s : State) :
    (haltSession i cause s).hold = s.hold := by
  unfold haltSession
  dsimp only
  repeat' split
  all_goals simp

@[simp] theorem haltSession_share (i : Slot) (cause : HaltCause) (s : State) :
    (haltSession i cause s).share = s.share := by
  unfold haltSession
  dsimp only
  repeat' split
  all_goals simp

@[simp] theorem haltSession_host (i : Slot) (cause : HaltCause) (s : State) :
    (haltSession i cause s).host = s.host := by
  unfold haltSession
  dsimp only
  repeat' split
  all_goals simp

@[simp] theorem haltSession_mgmt (i : Slot) (cause : HaltCause) (s : State) :
    (haltSession i cause s).mgmt = s.mgmt := by
  unfold haltSession
  dsimp only
  repeat' split
  all_goals simp

@[simp] theorem haltSession_ret (i : Slot) (cause : HaltCause) (s : State) :
    (haltSession i cause s).ret = s.ret := by
  unfold haltSession
  dsimp only
  repeat' split
  all_goals simp

@[simp] theorem haltSession_cfg (i : Slot) (cause : HaltCause) (s : State) :
    (haltSession i cause s).cfg = s.cfg := by
  unfold haltSession
  dsimp only
  repeat' split
  all_goals simp

@[simp] theorem haltSession_choices (i : Slot) (cause : HaltCause) (s : State) :
    (haltSession i cause s).choices = s.choices := by
  unfold haltSession
  dsimp only
  repeat' split
  all_goals simp

@[simp] theorem haltSession_pending (i : Slot) (cause : HaltCause) (s : State) :
    (haltSession i cause s).pending = s.pending := by
  unfold haltSession
  dsimp only
  repeat' split
  all_goals simp

@[simp] theorem haltWhere_time (p : Session → Bool) (cause : HaltCause) (s : State) :
    (haltWhere p cause s).time = s.time := by
  unfold haltWhere
  simp only [allSlots, List.foldl_cons, List.foldl_nil]
  repeat' split
  all_goals simp

@[simp] theorem haltWhere_cls (p : Session → Bool) (cause : HaltCause) (s : State) :
    (haltWhere p cause s).cls = s.cls := by
  unfold haltWhere
  simp only [allSlots, List.foldl_cons, List.foldl_nil]
  repeat' split
  all_goals simp

@[simp] theorem haltWhere_cells (p : Session → Bool) (cause : HaltCause) (s : State) :
    (haltWhere p cause s).cells = s.cells := by
  unfold haltWhere
  simp only [allSlots, List.foldl_cons, List.foldl_nil]
  repeat' split
  all_goals simp

@[simp] theorem haltWhere_pow (p : Session → Bool) (cause : HaltCause) (s : State) :
    (haltWhere p cause s).pow = s.pow := by
  unfold haltWhere
  simp only [allSlots, List.foldl_cons, List.foldl_nil]
  repeat' split
  all_goals simp

@[simp] theorem haltWhere_hold (p : Session → Bool) (cause : HaltCause) (s : State) :
    (haltWhere p cause s).hold = s.hold := by
  unfold haltWhere
  simp only [allSlots, List.foldl_cons, List.foldl_nil]
  repeat' split
  all_goals simp

@[simp] theorem haltWhere_share (p : Session → Bool) (cause : HaltCause) (s : State) :
    (haltWhere p cause s).share = s.share := by
  unfold haltWhere
  simp only [allSlots, List.foldl_cons, List.foldl_nil]
  repeat' split
  all_goals simp

@[simp] theorem haltWhere_host (p : Session → Bool) (cause : HaltCause) (s : State) :
    (haltWhere p cause s).host = s.host := by
  unfold haltWhere
  simp only [allSlots, List.foldl_cons, List.foldl_nil]
  repeat' split
  all_goals simp

@[simp] theorem haltWhere_mgmt (p : Session → Bool) (cause : HaltCause) (s : State) :
    (haltWhere p cause s).mgmt = s.mgmt := by
  unfold haltWhere
  simp only [allSlots, List.foldl_cons, List.foldl_nil]
  repeat' split
  all_goals simp

@[simp] theorem haltWhere_ret (p : Session → Bool) (cause : HaltCause) (s : State) :
    (haltWhere p cause s).ret = s.ret := by
  unfold haltWhere
  simp only [allSlots, List.foldl_cons, List.foldl_nil]
  repeat' split
  all_goals simp

@[simp] theorem haltWhere_cfg (p : Session → Bool) (cause : HaltCause) (s : State) :
    (haltWhere p cause s).cfg = s.cfg := by
  unfold haltWhere
  simp only [allSlots, List.foldl_cons, List.foldl_nil]
  repeat' split
  all_goals simp

@[simp] theorem haltWhere_choices (p : Session → Bool) (cause : HaltCause) (s : State) :
    (haltWhere p cause s).choices = s.choices := by
  unfold haltWhere
  simp only [allSlots, List.foldl_cons, List.foldl_nil]
  repeat' split
  all_goals simp

@[simp] theorem haltWhere_pending (p : Session → Bool) (cause : HaltCause) (s : State) :
    (haltWhere p cause s).pending = s.pending := by
  unfold haltWhere
  simp only [allSlots, List.foldl_cons, List.foldl_nil]
  repeat' split
  all_goals simp

@[simp] theorem issueGrant_time (i : Slot) (x : Session) (k : Nat) (s : State) :
    (issueGrant i x k s).time = s.time := by simp [issueGrant]

@[simp] theorem issueGrant_cls (i : Slot) (x : Session) (k : Nat) (s : State) :
    (issueGrant i x k s).cls = s.cls := by simp [issueGrant]

@[simp] theorem issueGrant_cells (i : Slot) (x : Session) (k : Nat) (s : State) :
    (issueGrant i x k s).cells = s.cells := by simp [issueGrant]

@[simp] theorem issueGrant_pow (i : Slot) (x : Session) (k : Nat) (s : State) :
    (issueGrant i x k s).pow = s.pow := by simp [issueGrant]

@[simp] theorem issueGrant_hold (i : Slot) (x : Session) (k : Nat) (s : State) :
    (issueGrant i x k s).hold = s.hold := by simp [issueGrant]

@[simp] theorem issueGrant_bay (i : Slot) (x : Session) (k : Nat) (s : State) :
    (issueGrant i x k s).bay = s.bay := by simp [issueGrant]

@[simp] theorem issueGrant_share (i : Slot) (x : Session) (k : Nat) (s : State) :
    (issueGrant i x k s).share = s.share := by simp [issueGrant]

@[simp] theorem issueGrant_host (i : Slot) (x : Session) (k : Nat) (s : State) :
    (issueGrant i x k s).host = s.host := by simp [issueGrant]

@[simp] theorem issueGrant_mgmt (i : Slot) (x : Session) (k : Nat) (s : State) :
    (issueGrant i x k s).mgmt = s.mgmt := by simp [issueGrant]

@[simp] theorem issueGrant_note (i : Slot) (x : Session) (k : Nat) (s : State) :
    (issueGrant i x k s).note = s.note := by simp [issueGrant]

@[simp] theorem issueGrant_ret (i : Slot) (x : Session) (k : Nat) (s : State) :
    (issueGrant i x k s).ret = s.ret := by simp [issueGrant]

@[simp] theorem issueGrant_cfg (i : Slot) (x : Session) (k : Nat) (s : State) :
    (issueGrant i x k s).cfg = s.cfg := by simp [issueGrant]

@[simp] theorem issueGrant_choices (i : Slot) (x : Session) (k : Nat) (s : State) :
    (issueGrant i x k s).choices = s.choices := by simp [issueGrant]

@[simp] theorem issueGrant_pending (i : Slot) (x : Session) (k : Nat) (s : State) :
    (issueGrant i x k s).pending = s.pending := by simp [issueGrant]

@[simp] theorem arbitrateN_time (n : Nat) (s : State) :
    (arbitrateN n s).time = s.time := by
  induction n generalizing s with
  | zero => rfl
  | succ n ih =>
    unfold arbitrateN
    repeat' split
    all_goals simp [ih]

@[simp] theorem arbitrateN_cls (n : Nat) (s : State) :
    (arbitrateN n s).cls = s.cls := by
  induction n generalizing s with
  | zero => rfl
  | succ n ih =>
    unfold arbitrateN
    repeat' split
    all_goals simp [ih]

@[simp] theorem arbitrateN_cells (n : Nat) (s : State) :
    (arbitrateN n s).cells = s.cells := by
  induction n generalizing s with
  | zero => rfl
  | succ n ih =>
    unfold arbitrateN
    repeat' split
    all_goals simp [ih]

@[simp] theorem arbitrateN_pow (n : Nat) (s : State) :
    (arbitrateN n s).pow = s.pow := by
  induction n generalizing s with
  | zero => rfl
  | succ n ih =>
    unfold arbitrateN
    repeat' split
    all_goals simp [ih]

@[simp] theorem arbitrateN_hold (n : Nat) (s : State) :
    (arbitrateN n s).hold = s.hold := by
  induction n generalizing s with
  | zero => rfl
  | succ n ih =>
    unfold arbitrateN
    repeat' split
    all_goals simp [ih]

@[simp] theorem arbitrateN_bay (n : Nat) (s : State) :
    (arbitrateN n s).bay = s.bay := by
  induction n generalizing s with
  | zero => rfl
  | succ n ih =>
    unfold arbitrateN
    repeat' split
    all_goals simp [ih]

@[simp] theorem arbitrateN_share (n : Nat) (s : State) :
    (arbitrateN n s).share = s.share := by
  induction n generalizing s with
  | zero => rfl
  | succ n ih =>
    unfold arbitrateN
    repeat' split
    all_goals simp [ih]

@[simp] theorem arbitrateN_host (n : Nat) (s : State) :
    (arbitrateN n s).host = s.host := by
  induction n generalizing s with
  | zero => rfl
  | succ n ih =>
    unfold arbitrateN
    repeat' split
    all_goals simp [ih]

@[simp] theorem arbitrateN_mgmt (n : Nat) (s : State) :
    (arbitrateN n s).mgmt = s.mgmt := by
  induction n generalizing s with
  | zero => rfl
  | succ n ih =>
    unfold arbitrateN
    repeat' split
    all_goals simp [ih]

@[simp] theorem arbitrateN_note (n : Nat) (s : State) :
    (arbitrateN n s).note = s.note := by
  induction n generalizing s with
  | zero => rfl
  | succ n ih =>
    unfold arbitrateN
    repeat' split
    all_goals simp [ih]

@[simp] theorem arbitrateN_ret (n : Nat) (s : State) :
    (arbitrateN n s).ret = s.ret := by
  induction n generalizing s with
  | zero => rfl
  | succ n ih =>
    unfold arbitrateN
    repeat' split
    all_goals simp [ih]

@[simp] theorem arbitrateN_cfg (n : Nat) (s : State) :
    (arbitrateN n s).cfg = s.cfg := by
  induction n generalizing s with
  | zero => rfl
  | succ n ih =>
    unfold arbitrateN
    repeat' split
    all_goals simp [ih]

@[simp] theorem arbitrateN_choices (n : Nat) (s : State) :
    (arbitrateN n s).choices = s.choices := by
  induction n generalizing s with
  | zero => rfl
  | succ n ih =>
    unfold arbitrateN
    repeat' split
    all_goals simp [ih]

@[simp] theorem arbitrateN_pending (n : Nat) (s : State) :
    (arbitrateN n s).pending = s.pending := by
  induction n generalizing s with
  | zero => rfl
  | succ n ih =>
    unfold arbitrateN
    repeat' split
    all_goals simp [ih]

@[simp] theorem arbitrate_time (s : State) :
    (arbitrate s).time = s.time := by simp [arbitrate]

@[simp] theorem arbitrate_cls (s : State) :
    (arbitrate s).cls = s.cls := by simp [arbitrate]

@[simp] theorem arbitrate_cells (s : State) :
    (arbitrate s).cells = s.cells := by simp [arbitrate]

@[simp] theorem arbitrate_pow (s : State) :
    (arbitrate s).pow = s.pow := by simp [arbitrate]

@[simp] theorem arbitrate_hold (s : State) :
    (arbitrate s).hold = s.hold := by simp [arbitrate]

@[simp] theorem arbitrate_bay (s : State) :
    (arbitrate s).bay = s.bay := by simp [arbitrate]

@[simp] theorem arbitrate_share (s : State) :
    (arbitrate s).share = s.share := by simp [arbitrate]

@[simp] theorem arbitrate_host (s : State) :
    (arbitrate s).host = s.host := by simp [arbitrate]

@[simp] theorem arbitrate_mgmt (s : State) :
    (arbitrate s).mgmt = s.mgmt := by simp [arbitrate]

@[simp] theorem arbitrate_note (s : State) :
    (arbitrate s).note = s.note := by simp [arbitrate]

@[simp] theorem arbitrate_ret (s : State) :
    (arbitrate s).ret = s.ret := by simp [arbitrate]

@[simp] theorem arbitrate_cfg (s : State) :
    (arbitrate s).cfg = s.cfg := by simp [arbitrate]

@[simp] theorem arbitrate_choices (s : State) :
    (arbitrate s).choices = s.choices := by simp [arbitrate]

@[simp] theorem arbitrate_pending (s : State) :
    (arbitrate s).pending = s.pending := by simp [arbitrate]

@[simp] theorem writeCells_time (address : Nat) (bytes : List Byte) (s : State) :
    (writeCells address bytes s).time = s.time := rfl

@[simp] theorem writeCells_lan (address : Nat) (bytes : List Byte) (s : State) :
    (writeCells address bytes s).lan = s.lan := rfl

@[simp] theorem writeCells_cls (address : Nat) (bytes : List Byte) (s : State) :
    (writeCells address bytes s).cls = s.cls := rfl

@[simp] theorem writeCells_pow (address : Nat) (bytes : List Byte) (s : State) :
    (writeCells address bytes s).pow = s.pow := rfl

@[simp] theorem writeCells_hold (address : Nat) (bytes : List Byte) (s : State) :
    (writeCells address bytes s).hold = s.hold := rfl

@[simp] theorem writeCells_ans (address : Nat) (bytes : List Byte) (s : State) :
    (writeCells address bytes s).ans = s.ans := rfl

@[simp] theorem writeCells_bay (address : Nat) (bytes : List Byte) (s : State) :
    (writeCells address bytes s).bay = s.bay := rfl

@[simp] theorem writeCells_pac (address : Nat) (bytes : List Byte) (s : State) :
    (writeCells address bytes s).pac = s.pac := rfl

@[simp] theorem writeCells_share (address : Nat) (bytes : List Byte) (s : State) :
    (writeCells address bytes s).share = s.share := rfl

@[simp] theorem writeCells_host (address : Nat) (bytes : List Byte) (s : State) :
    (writeCells address bytes s).host = s.host := rfl

@[simp] theorem writeCells_mgmt (address : Nat) (bytes : List Byte) (s : State) :
    (writeCells address bytes s).mgmt = s.mgmt := rfl

@[simp] theorem writeCells_note (address : Nat) (bytes : List Byte) (s : State) :
    (writeCells address bytes s).note = s.note := rfl

@[simp] theorem writeCells_ret (address : Nat) (bytes : List Byte) (s : State) :
    (writeCells address bytes s).ret = s.ret := rfl

@[simp] theorem writeCells_cfg (address : Nat) (bytes : List Byte) (s : State) :
    (writeCells address bytes s).cfg = s.cfg := rfl

@[simp] theorem writeCells_choices (address : Nat) (bytes : List Byte) (s : State) :
    (writeCells address bytes s).choices = s.choices := rfl

@[simp] theorem writeCells_pending (address : Nat) (bytes : List Byte) (s : State) :
    (writeCells address bytes s).pending = s.pending := rfl

@[simp] theorem startDelivery_time (s : State) :
    (startDelivery s).time = s.time := by
  unfold startDelivery
  dsimp only
  repeat' split
  all_goals simp

@[simp] theorem startDelivery_lan (s : State) :
    (startDelivery s).lan = s.lan := by
  unfold startDelivery
  dsimp only
  repeat' split
  all_goals simp

@[simp] theorem startDelivery_cls (s : State) :
    (startDelivery s).cls = s.cls := by
  unfold startDelivery
  dsimp only
  repeat' split
  all_goals simp

@[simp] theorem startDelivery_pow (s : State) :
    (startDelivery s).pow = s.pow := by
  unfold startDelivery
  dsimp only
  repeat' split
  all_goals simp

@[simp] theorem startDelivery_hold (s : State) :
    (startDelivery s).hold = s.hold := by
  unfold startDelivery
  dsimp only
  repeat' split
  all_goals simp

@[simp] theorem startDelivery_ans (s : State) :
    (startDelivery s).ans = s.ans := by
  unfold startDelivery
  dsimp only
  repeat' split
  all_goals simp

@[simp] theorem startDelivery_bay (s : State) :
    (startDelivery s).bay = s.bay := by
  unfold startDelivery
  dsimp only
  repeat' split
  all_goals simp

@[simp] theorem startDelivery_share (s : State) :
    (startDelivery s).share = s.share := by
  unfold startDelivery
  dsimp only
  repeat' split
  all_goals simp

@[simp] theorem startDelivery_mgmt (s : State) :
    (startDelivery s).mgmt = s.mgmt := by
  unfold startDelivery
  dsimp only
  repeat' split
  all_goals simp

@[simp] theorem startDelivery_note (s : State) :
    (startDelivery s).note = s.note := by
  unfold startDelivery
  dsimp only
  repeat' split
  all_goals simp

@[simp] theorem startDelivery_ret (s : State) :
    (startDelivery s).ret = s.ret := by
  unfold startDelivery
  dsimp only
  repeat' split
  all_goals simp

@[simp] theorem startDelivery_cfg (s : State) :
    (startDelivery s).cfg = s.cfg := by
  unfold startDelivery
  dsimp only
  repeat' split
  all_goals simp

@[simp] theorem startDelivery_choices (s : State) :
    (startDelivery s).choices = s.choices := by
  unfold startDelivery
  dsimp only
  repeat' split
  all_goals simp

@[simp] theorem startDelivery_pending (s : State) :
    (startDelivery s).pending = s.pending := by
  unfold startDelivery
  dsimp only
  repeat' split
  all_goals simp

@[simp] theorem returnDelivery_time (s : State) :
    (returnDelivery s).time = s.time := by
  unfold returnDelivery
  repeat' split
  all_goals simp

@[simp] theorem returnDelivery_lan (s : State) :
    (returnDelivery s).lan = s.lan := by
  unfold returnDelivery
  repeat' split
  all_goals simp

@[simp] theorem returnDelivery_cls (s : State) :
    (returnDelivery s).cls = s.cls := by
  unfold returnDelivery
  repeat' split
  all_goals simp

@[simp] theorem returnDelivery_cells (s : State) :
    (returnDelivery s).cells = s.cells := by
  unfold returnDelivery
  repeat' split
  all_goals simp

@[simp] theorem returnDelivery_pow (s : State) :
    (returnDelivery s).pow = s.pow := by
  unfold returnDelivery
  repeat' split
  all_goals simp

@[simp] theorem returnDelivery_hold (s : State) :
    (returnDelivery s).hold = s.hold := by
  unfold returnDelivery
  repeat' split
  all_goals simp

@[simp] theorem returnDelivery_ans (s : State) :
    (returnDelivery s).ans = s.ans := by
  unfold returnDelivery
  repeat' split
  all_goals simp

@[simp] theorem returnDelivery_bay (s : State) :
    (returnDelivery s).bay = s.bay := by
  unfold returnDelivery
  repeat' split
  all_goals simp

@[simp] theorem returnDelivery_share (s : State) :
    (returnDelivery s).share = s.share := by
  unfold returnDelivery
  repeat' split
  all_goals simp

@[simp] theorem returnDelivery_host (s : State) :
    (returnDelivery s).host = s.host := by
  unfold returnDelivery
  repeat' split
  all_goals simp

@[simp] theorem returnDelivery_mgmt (s : State) :
    (returnDelivery s).mgmt = s.mgmt := by
  unfold returnDelivery
  repeat' split
  all_goals simp

@[simp] theorem returnDelivery_note (s : State) :
    (returnDelivery s).note = s.note := by
  unfold returnDelivery
  repeat' split
  all_goals simp

@[simp] theorem returnDelivery_ret (s : State) :
    (returnDelivery s).ret = s.ret := by
  unfold returnDelivery
  repeat' split
  all_goals simp

@[simp] theorem returnDelivery_cfg (s : State) :
    (returnDelivery s).cfg = s.cfg := by
  unfold returnDelivery
  repeat' split
  all_goals simp

@[simp] theorem returnDelivery_choices (s : State) :
    (returnDelivery s).choices = s.choices := by
  unfold returnDelivery
  repeat' split
  all_goals simp

@[simp] theorem returnDelivery_pending (s : State) :
    (returnDelivery s).pending = s.pending := by
  unfold returnDelivery
  repeat' split
  all_goals simp

@[simp] theorem completeSession_time (i : Slot) (x : Session) (s : State) :
    (completeSession i x s).time = s.time := by
  unfold completeSession
  dsimp only
  repeat' split
  all_goals simp

@[simp] theorem completeSession_cls (i : Slot) (x : Session) (s : State) :
    (completeSession i x s).cls = s.cls := by
  unfold completeSession
  dsimp only
  repeat' split
  all_goals simp

@[simp] theorem completeSession_cells (i : Slot) (x : Session) (s : State) :
    (completeSession i x s).cells = s.cells := by
  unfold completeSession
  dsimp only
  repeat' split
  all_goals simp

@[simp] theorem completeSession_pow (i : Slot) (x : Session) (s : State) :
    (completeSession i x s).pow = s.pow := by
  unfold completeSession
  dsimp only
  repeat' split
  all_goals simp

@[simp] theorem completeSession_hold (i : Slot) (x : Session) (s : State) :
    (completeSession i x s).hold = s.hold := by
  unfold completeSession
  dsimp only
  repeat' split
  all_goals simp

@[simp] theorem completeSession_share (i : Slot) (x : Session) (s : State) :
    (completeSession i x s).share = s.share := by
  unfold completeSession
  dsimp only
  repeat' split
  all_goals simp

@[simp] theorem completeSession_host (i : Slot) (x : Session) (s : State) :
    (completeSession i x s).host = s.host := by
  unfold completeSession
  dsimp only
  repeat' split
  all_goals simp

@[simp] theorem completeSession_mgmt (i : Slot) (x : Session) (s : State) :
    (completeSession i x s).mgmt = s.mgmt := by
  unfold completeSession
  dsimp only
  repeat' split
  all_goals simp

@[simp] theorem completeSession_ret (i : Slot) (x : Session) (s : State) :
    (completeSession i x s).ret = s.ret := by
  unfold completeSession
  dsimp only
  repeat' split
  all_goals simp

@[simp] theorem completeSession_cfg (i : Slot) (x : Session) (s : State) :
    (completeSession i x s).cfg = s.cfg := by
  unfold completeSession
  dsimp only
  repeat' split
  all_goals simp

@[simp] theorem completeSession_choices (i : Slot) (x : Session) (s : State) :
    (completeSession i x s).choices = s.choices := by
  unfold completeSession
  dsimp only
  repeat' split
  all_goals simp

@[simp] theorem completeSession_pending (i : Slot) (x : Session) (s : State) :
    (completeSession i x s).pending = s.pending := by
  unfold completeSession
  dsimp only
  repeat' split
  all_goals simp

@[simp] theorem countDelivered_time (i : Slot) (s : State) :
    (countDelivered i s).time = s.time := by
  unfold countDelivered
  dsimp only
  repeat' split
  all_goals simp

@[simp] theorem countDelivered_cls (i : Slot) (s : State) :
    (countDelivered i s).cls = s.cls := by
  unfold countDelivered
  dsimp only
  repeat' split
  all_goals simp

@[simp] theorem countDelivered_cells (i : Slot) (s : State) :
    (countDelivered i s).cells = s.cells := by
  unfold countDelivered
  dsimp only
  repeat' split
  all_goals simp

@[simp] theorem countDelivered_pow (i : Slot) (s : State) :
    (countDelivered i s).pow = s.pow := by
  unfold countDelivered
  dsimp only
  repeat' split
  all_goals simp

@[simp] theorem countDelivered_hold (i : Slot) (s : State) :
    (countDelivered i s).hold = s.hold := by
  unfold countDelivered
  dsimp only
  repeat' split
  all_goals simp

@[simp] theorem countDelivered_share (i : Slot) (s : State) :
    (countDelivered i s).share = s.share := by
  unfold countDelivered
  dsimp only
  repeat' split
  all_goals simp

@[simp] theorem countDelivered_host (i : Slot) (s : State) :
    (countDelivered i s).host = s.host := by
  unfold countDelivered
  dsimp only
  repeat' split
  all_goals simp

@[simp] theorem countDelivered_mgmt (i : Slot) (s : State) :
    (countDelivered i s).mgmt = s.mgmt := by
  unfold countDelivered
  dsimp only
  repeat' split
  all_goals simp

@[simp] theorem countDelivered_ret (i : Slot) (s : State) :
    (countDelivered i s).ret = s.ret := by
  unfold countDelivered
  dsimp only
  repeat' split
  all_goals simp

@[simp] theorem countDelivered_cfg (i : Slot) (s : State) :
    (countDelivered i s).cfg = s.cfg := by
  unfold countDelivered
  dsimp only
  repeat' split
  all_goals simp

@[simp] theorem countDelivered_choices (i : Slot) (s : State) :
    (countDelivered i s).choices = s.choices := by
  unfold countDelivered
  dsimp only
  repeat' split
  all_goals simp

@[simp] theorem countDelivered_pending (i : Slot) (s : State) :
    (countDelivered i s).pending = s.pending := by
  unfold countDelivered
  dsimp only
  repeat' split
  all_goals simp

@[simp] theorem deliverySent_time (s : State) :
    (deliverySent s).time = s.time := by
  unfold deliverySent
  repeat' split
  all_goals simp

@[simp] theorem deliverySent_cls (s : State) :
    (deliverySent s).cls = s.cls := by
  unfold deliverySent
  repeat' split
  all_goals simp

@[simp] theorem deliverySent_pow (s : State) :
    (deliverySent s).pow = s.pow := by
  unfold deliverySent
  repeat' split
  all_goals simp

@[simp] theorem deliverySent_hold (s : State) :
    (deliverySent s).hold = s.hold := by
  unfold deliverySent
  repeat' split
  all_goals simp

@[simp] theorem deliverySent_share (s : State) :
    (deliverySent s).share = s.share := by
  unfold deliverySent
  repeat' split
  all_goals simp

@[simp] theorem deliverySent_mgmt (s : State) :
    (deliverySent s).mgmt = s.mgmt := by
  unfold deliverySent
  repeat' split
  all_goals simp

@[simp] theorem deliverySent_ret (s : State) :
    (deliverySent s).ret = s.ret := by
  unfold deliverySent
  repeat' split
  all_goals simp

@[simp] theorem deliverySent_cfg (s : State) :
    (deliverySent s).cfg = s.cfg := by
  unfold deliverySent
  repeat' split
  all_goals simp

@[simp] theorem deliverySent_choices (s : State) :
    (deliverySent s).choices = s.choices := by
  unfold deliverySent
  repeat' split
  all_goals simp

@[simp] theorem deliverySent_pending (s : State) :
    (deliverySent s).pending = s.pending := by
  unfold deliverySent
  repeat' split
  all_goals simp

@[simp] theorem discardStaged_time (s : State) :
    (discardStaged s).time = s.time := rfl

@[simp] theorem discardStaged_lan (s : State) :
    (discardStaged s).lan = s.lan := rfl

@[simp] theorem discardStaged_cls (s : State) :
    (discardStaged s).cls = s.cls := rfl

@[simp] theorem discardStaged_cells (s : State) :
    (discardStaged s).cells = s.cells := rfl

@[simp] theorem discardStaged_pow (s : State) :
    (discardStaged s).pow = s.pow := rfl

@[simp] theorem discardStaged_hold (s : State) :
    (discardStaged s).hold = s.hold := rfl

@[simp] theorem discardStaged_ans (s : State) :
    (discardStaged s).ans = s.ans := rfl

@[simp] theorem discardStaged_bay (s : State) :
    (discardStaged s).bay = s.bay := rfl

@[simp] theorem discardStaged_share (s : State) :
    (discardStaged s).share = s.share := rfl

@[simp] theorem discardStaged_host (s : State) :
    (discardStaged s).host = s.host := rfl

@[simp] theorem discardStaged_mgmt (s : State) :
    (discardStaged s).mgmt = s.mgmt := rfl

@[simp] theorem discardStaged_note (s : State) :
    (discardStaged s).note = s.note := rfl

@[simp] theorem discardStaged_ret (s : State) :
    (discardStaged s).ret = s.ret := rfl

@[simp] theorem discardStaged_cfg (s : State) :
    (discardStaged s).cfg = s.cfg := rfl

@[simp] theorem discardStaged_choices (s : State) :
    (discardStaged s).choices = s.choices := rfl

@[simp] theorem discardStaged_pending (s : State) :
    (discardStaged s).pending = s.pending := rfl

@[simp] theorem protocolError_time (s : State) :
    (protocolError s).time = s.time := rfl

@[simp] theorem protocolError_lan (s : State) :
    (protocolError s).lan = s.lan := rfl

@[simp] theorem protocolError_cls (s : State) :
    (protocolError s).cls = s.cls := rfl

@[simp] theorem protocolError_cells (s : State) :
    (protocolError s).cells = s.cells := rfl

@[simp] theorem protocolError_pow (s : State) :
    (protocolError s).pow = s.pow := rfl

@[simp] theorem protocolError_hold (s : State) :
    (protocolError s).hold = s.hold := rfl

@[simp] theorem protocolError_ans (s : State) :
    (protocolError s).ans = s.ans := rfl

@[simp] theorem protocolError_bay (s : State) :
    (protocolError s).bay = s.bay := rfl

@[simp] theorem protocolError_share (s : State) :
    (protocolError s).share = s.share := rfl

@[simp] theorem protocolError_host (s : State) :
    (protocolError s).host = s.host := rfl

@[simp] theorem protocolError_mgmt (s : State) :
    (protocolError s).mgmt = s.mgmt := rfl

@[simp] theorem protocolError_note (s : State) :
    (protocolError s).note = s.note := rfl

@[simp] theorem protocolError_ret (s : State) :
    (protocolError s).ret = s.ret := rfl

@[simp] theorem protocolError_cfg (s : State) :
    (protocolError s).cfg = s.cfg := rfl

@[simp] theorem protocolError_choices (s : State) :
    (protocolError s).choices = s.choices := rfl

@[simp] theorem protocolError_pending (s : State) :
    (protocolError s).pending = s.pending := rfl

@[simp] theorem dropHeld_time (s : State) :
    (dropHeld s).time = s.time := rfl

@[simp] theorem dropHeld_lan (s : State) :
    (dropHeld s).lan = s.lan := rfl

@[simp] theorem dropHeld_cls (s : State) :
    (dropHeld s).cls = s.cls := rfl

@[simp] theorem dropHeld_cells (s : State) :
    (dropHeld s).cells = s.cells := rfl

@[simp] theorem dropHeld_pow (s : State) :
    (dropHeld s).pow = s.pow := rfl

@[simp] theorem dropHeld_ans (s : State) :
    (dropHeld s).ans = s.ans := rfl

@[simp] theorem dropHeld_bay (s : State) :
    (dropHeld s).bay = s.bay := rfl

@[simp] theorem dropHeld_pac (s : State) :
    (dropHeld s).pac = s.pac := rfl

@[simp] theorem dropHeld_share (s : State) :
    (dropHeld s).share = s.share := rfl

@[simp] theorem dropHeld_host (s : State) :
    (dropHeld s).host = s.host := rfl

@[simp] theorem dropHeld_mgmt (s : State) :
    (dropHeld s).mgmt = s.mgmt := rfl

@[simp] theorem dropHeld_note (s : State) :
    (dropHeld s).note = s.note := rfl

@[simp] theorem dropHeld_ret (s : State) :
    (dropHeld s).ret = s.ret := rfl

@[simp] theorem dropHeld_cfg (s : State) :
    (dropHeld s).cfg = s.cfg := rfl

@[simp] theorem dropHeld_choices (s : State) :
    (dropHeld s).choices = s.choices := rfl

@[simp] theorem dropHeld_pending (s : State) :
    (dropHeld s).pending = s.pending := rfl

@[simp] theorem overflowHeld_time (limit : HoldLimit) (cls : HeldClass) (entry : Option (Fin 64)) (length : Nat) (s : State) :
    (overflowHeld limit cls entry length s).time = s.time := rfl

@[simp] theorem overflowHeld_lan (limit : HoldLimit) (cls : HeldClass) (entry : Option (Fin 64)) (length : Nat) (s : State) :
    (overflowHeld limit cls entry length s).lan = s.lan := rfl

@[simp] theorem overflowHeld_cls (limit : HoldLimit) (cls : HeldClass) (entry : Option (Fin 64)) (length : Nat) (s : State) :
    (overflowHeld limit cls entry length s).cls = s.cls := rfl

@[simp] theorem overflowHeld_cells (limit : HoldLimit) (cls : HeldClass) (entry : Option (Fin 64)) (length : Nat) (s : State) :
    (overflowHeld limit cls entry length s).cells = s.cells := rfl

@[simp] theorem overflowHeld_pow (limit : HoldLimit) (cls : HeldClass) (entry : Option (Fin 64)) (length : Nat) (s : State) :
    (overflowHeld limit cls entry length s).pow = s.pow := rfl

@[simp] theorem overflowHeld_ans (limit : HoldLimit) (cls : HeldClass) (entry : Option (Fin 64)) (length : Nat) (s : State) :
    (overflowHeld limit cls entry length s).ans = s.ans := rfl

@[simp] theorem overflowHeld_bay (limit : HoldLimit) (cls : HeldClass) (entry : Option (Fin 64)) (length : Nat) (s : State) :
    (overflowHeld limit cls entry length s).bay = s.bay := rfl

@[simp] theorem overflowHeld_pac (limit : HoldLimit) (cls : HeldClass) (entry : Option (Fin 64)) (length : Nat) (s : State) :
    (overflowHeld limit cls entry length s).pac = s.pac := rfl

@[simp] theorem overflowHeld_share (limit : HoldLimit) (cls : HeldClass) (entry : Option (Fin 64)) (length : Nat) (s : State) :
    (overflowHeld limit cls entry length s).share = s.share := rfl

@[simp] theorem overflowHeld_host (limit : HoldLimit) (cls : HeldClass) (entry : Option (Fin 64)) (length : Nat) (s : State) :
    (overflowHeld limit cls entry length s).host = s.host := rfl

@[simp] theorem overflowHeld_mgmt (limit : HoldLimit) (cls : HeldClass) (entry : Option (Fin 64)) (length : Nat) (s : State) :
    (overflowHeld limit cls entry length s).mgmt = s.mgmt := rfl

@[simp] theorem overflowHeld_ret (limit : HoldLimit) (cls : HeldClass) (entry : Option (Fin 64)) (length : Nat) (s : State) :
    (overflowHeld limit cls entry length s).ret = s.ret := rfl

@[simp] theorem overflowHeld_cfg (limit : HoldLimit) (cls : HeldClass) (entry : Option (Fin 64)) (length : Nat) (s : State) :
    (overflowHeld limit cls entry length s).cfg = s.cfg := rfl

@[simp] theorem overflowHeld_choices (limit : HoldLimit) (cls : HeldClass) (entry : Option (Fin 64)) (length : Nat) (s : State) :
    (overflowHeld limit cls entry length s).choices = s.choices := rfl

@[simp] theorem overflowHeld_pending (limit : HoldLimit) (cls : HeldClass) (entry : Option (Fin 64)) (length : Nat) (s : State) :
    (overflowHeld limit cls entry length s).pending = s.pending := rfl

@[simp] theorem appendHeld_time (frame : List Byte) (cls : HeldClass) (entry : Option (Fin 64)) (arrival : Word32) (s : State) :
    (appendHeld frame cls entry arrival s).time = s.time := rfl

@[simp] theorem appendHeld_lan (frame : List Byte) (cls : HeldClass) (entry : Option (Fin 64)) (arrival : Word32) (s : State) :
    (appendHeld frame cls entry arrival s).lan = s.lan := rfl

@[simp] theorem appendHeld_cls (frame : List Byte) (cls : HeldClass) (entry : Option (Fin 64)) (arrival : Word32) (s : State) :
    (appendHeld frame cls entry arrival s).cls = s.cls := rfl

@[simp] theorem appendHeld_pow (frame : List Byte) (cls : HeldClass) (entry : Option (Fin 64)) (arrival : Word32) (s : State) :
    (appendHeld frame cls entry arrival s).pow = s.pow := rfl

@[simp] theorem appendHeld_ans (frame : List Byte) (cls : HeldClass) (entry : Option (Fin 64)) (arrival : Word32) (s : State) :
    (appendHeld frame cls entry arrival s).ans = s.ans := rfl

@[simp] theorem appendHeld_bay (frame : List Byte) (cls : HeldClass) (entry : Option (Fin 64)) (arrival : Word32) (s : State) :
    (appendHeld frame cls entry arrival s).bay = s.bay := rfl

@[simp] theorem appendHeld_pac (frame : List Byte) (cls : HeldClass) (entry : Option (Fin 64)) (arrival : Word32) (s : State) :
    (appendHeld frame cls entry arrival s).pac = s.pac := rfl

@[simp] theorem appendHeld_share (frame : List Byte) (cls : HeldClass) (entry : Option (Fin 64)) (arrival : Word32) (s : State) :
    (appendHeld frame cls entry arrival s).share = s.share := rfl

@[simp] theorem appendHeld_host (frame : List Byte) (cls : HeldClass) (entry : Option (Fin 64)) (arrival : Word32) (s : State) :
    (appendHeld frame cls entry arrival s).host = s.host := rfl

@[simp] theorem appendHeld_mgmt (frame : List Byte) (cls : HeldClass) (entry : Option (Fin 64)) (arrival : Word32) (s : State) :
    (appendHeld frame cls entry arrival s).mgmt = s.mgmt := rfl

@[simp] theorem appendHeld_note (frame : List Byte) (cls : HeldClass) (entry : Option (Fin 64)) (arrival : Word32) (s : State) :
    (appendHeld frame cls entry arrival s).note = s.note := rfl

@[simp] theorem appendHeld_ret (frame : List Byte) (cls : HeldClass) (entry : Option (Fin 64)) (arrival : Word32) (s : State) :
    (appendHeld frame cls entry arrival s).ret = s.ret := rfl

@[simp] theorem appendHeld_cfg (frame : List Byte) (cls : HeldClass) (entry : Option (Fin 64)) (arrival : Word32) (s : State) :
    (appendHeld frame cls entry arrival s).cfg = s.cfg := rfl

@[simp] theorem appendHeld_choices (frame : List Byte) (cls : HeldClass) (entry : Option (Fin 64)) (arrival : Word32) (s : State) :
    (appendHeld frame cls entry arrival s).choices = s.choices := rfl

@[simp] theorem appendHeld_pending (frame : List Byte) (cls : HeldClass) (entry : Option (Fin 64)) (arrival : Word32) (s : State) :
    (appendHeld frame cls entry arrival s).pending = s.pending := rfl

@[simp] theorem holdFrame_time (frame : List Byte) (cls : HeldClass) (entry : Option (Fin 64)) (arrival : Word32) (s : State) :
    (holdFrame frame cls entry arrival s).time = s.time := by
  unfold holdFrame
  repeat' split
  all_goals simp

@[simp] theorem holdFrame_lan (frame : List Byte) (cls : HeldClass) (entry : Option (Fin 64)) (arrival : Word32) (s : State) :
    (holdFrame frame cls entry arrival s).lan = s.lan := by
  unfold holdFrame
  repeat' split
  all_goals simp

@[simp] theorem holdFrame_cls (frame : List Byte) (cls : HeldClass) (entry : Option (Fin 64)) (arrival : Word32) (s : State) :
    (holdFrame frame cls entry arrival s).cls = s.cls := by
  unfold holdFrame
  repeat' split
  all_goals simp

@[simp] theorem holdFrame_pow (frame : List Byte) (cls : HeldClass) (entry : Option (Fin 64)) (arrival : Word32) (s : State) :
    (holdFrame frame cls entry arrival s).pow = s.pow := by
  unfold holdFrame
  repeat' split
  all_goals simp

@[simp] theorem holdFrame_ans (frame : List Byte) (cls : HeldClass) (entry : Option (Fin 64)) (arrival : Word32) (s : State) :
    (holdFrame frame cls entry arrival s).ans = s.ans := by
  unfold holdFrame
  repeat' split
  all_goals simp

@[simp] theorem holdFrame_bay (frame : List Byte) (cls : HeldClass) (entry : Option (Fin 64)) (arrival : Word32) (s : State) :
    (holdFrame frame cls entry arrival s).bay = s.bay := by
  unfold holdFrame
  repeat' split
  all_goals simp

@[simp] theorem holdFrame_pac (frame : List Byte) (cls : HeldClass) (entry : Option (Fin 64)) (arrival : Word32) (s : State) :
    (holdFrame frame cls entry arrival s).pac = s.pac := by
  unfold holdFrame
  repeat' split
  all_goals simp

@[simp] theorem holdFrame_share (frame : List Byte) (cls : HeldClass) (entry : Option (Fin 64)) (arrival : Word32) (s : State) :
    (holdFrame frame cls entry arrival s).share = s.share := by
  unfold holdFrame
  repeat' split
  all_goals simp

@[simp] theorem holdFrame_host (frame : List Byte) (cls : HeldClass) (entry : Option (Fin 64)) (arrival : Word32) (s : State) :
    (holdFrame frame cls entry arrival s).host = s.host := by
  unfold holdFrame
  repeat' split
  all_goals simp

@[simp] theorem holdFrame_mgmt (frame : List Byte) (cls : HeldClass) (entry : Option (Fin 64)) (arrival : Word32) (s : State) :
    (holdFrame frame cls entry arrival s).mgmt = s.mgmt := by
  unfold holdFrame
  repeat' split
  all_goals simp

@[simp] theorem holdFrame_ret (frame : List Byte) (cls : HeldClass) (entry : Option (Fin 64)) (arrival : Word32) (s : State) :
    (holdFrame frame cls entry arrival s).ret = s.ret := by
  unfold holdFrame
  repeat' split
  all_goals simp

@[simp] theorem holdFrame_cfg (frame : List Byte) (cls : HeldClass) (entry : Option (Fin 64)) (arrival : Word32) (s : State) :
    (holdFrame frame cls entry arrival s).cfg = s.cfg := by
  unfold holdFrame
  repeat' split
  all_goals simp

@[simp] theorem holdFrame_choices (frame : List Byte) (cls : HeldClass) (entry : Option (Fin 64)) (arrival : Word32) (s : State) :
    (holdFrame frame cls entry arrival s).choices = s.choices := by
  unfold holdFrame
  repeat' split
  all_goals simp

@[simp] theorem holdFrame_pending (frame : List Byte) (cls : HeldClass) (entry : Option (Fin 64)) (arrival : Word32) (s : State) :
    (holdFrame frame cls entry arrival s).pending = s.pending := by
  unfold holdFrame
  repeat' split
  all_goals simp

@[simp] theorem popHeld_time (s : State) :
    (popHeld s).time = s.time := by
  unfold popHeld
  split <;> rfl

@[simp] theorem popHeld_lan (s : State) :
    (popHeld s).lan = s.lan := by
  unfold popHeld
  split <;> rfl

@[simp] theorem popHeld_cls (s : State) :
    (popHeld s).cls = s.cls := by
  unfold popHeld
  split <;> rfl

@[simp] theorem popHeld_pow (s : State) :
    (popHeld s).pow = s.pow := by
  unfold popHeld
  split <;> rfl

@[simp] theorem popHeld_ans (s : State) :
    (popHeld s).ans = s.ans := by
  unfold popHeld
  split <;> rfl

@[simp] theorem popHeld_bay (s : State) :
    (popHeld s).bay = s.bay := by
  unfold popHeld
  split <;> rfl

@[simp] theorem popHeld_pac (s : State) :
    (popHeld s).pac = s.pac := by
  unfold popHeld
  split <;> rfl

@[simp] theorem popHeld_share (s : State) :
    (popHeld s).share = s.share := by
  unfold popHeld
  split <;> rfl

@[simp] theorem popHeld_host (s : State) :
    (popHeld s).host = s.host := by
  unfold popHeld
  split <;> rfl

@[simp] theorem popHeld_mgmt (s : State) :
    (popHeld s).mgmt = s.mgmt := by
  unfold popHeld
  split <;> rfl

@[simp] theorem popHeld_note (s : State) :
    (popHeld s).note = s.note := by
  unfold popHeld
  split <;> rfl

@[simp] theorem popHeld_ret (s : State) :
    (popHeld s).ret = s.ret := by
  unfold popHeld
  split <;> rfl

@[simp] theorem popHeld_cfg (s : State) :
    (popHeld s).cfg = s.cfg := by
  unfold popHeld
  split <;> rfl

@[simp] theorem popHeld_choices (s : State) :
    (popHeld s).choices = s.choices := by
  unfold popHeld
  split <;> rfl

@[simp] theorem popHeld_pending (s : State) :
    (popHeld s).pending = s.pending := by
  unfold popHeld
  split <;> rfl

@[simp] theorem releaseN_time (n : Nat) (s : State) :
    (releaseN n s).time = s.time := by
  induction n generalizing s with
  | zero => rfl
  | succ n ih =>
    unfold releaseN
    repeat' split
    all_goals simp [ih]

@[simp] theorem releaseN_lan (n : Nat) (s : State) :
    (releaseN n s).lan = s.lan := by
  induction n generalizing s with
  | zero => rfl
  | succ n ih =>
    unfold releaseN
    repeat' split
    all_goals simp [ih]

@[simp] theorem releaseN_cls (n : Nat) (s : State) :
    (releaseN n s).cls = s.cls := by
  induction n generalizing s with
  | zero => rfl
  | succ n ih =>
    unfold releaseN
    repeat' split
    all_goals simp [ih]

@[simp] theorem releaseN_pow (n : Nat) (s : State) :
    (releaseN n s).pow = s.pow := by
  induction n generalizing s with
  | zero => rfl
  | succ n ih =>
    unfold releaseN
    repeat' split
    all_goals simp [ih]

@[simp] theorem releaseN_ans (n : Nat) (s : State) :
    (releaseN n s).ans = s.ans := by
  induction n generalizing s with
  | zero => rfl
  | succ n ih =>
    unfold releaseN
    repeat' split
    all_goals simp [ih]

@[simp] theorem releaseN_bay (n : Nat) (s : State) :
    (releaseN n s).bay = s.bay := by
  induction n generalizing s with
  | zero => rfl
  | succ n ih =>
    unfold releaseN
    repeat' split
    all_goals simp [ih]

@[simp] theorem releaseN_pac (n : Nat) (s : State) :
    (releaseN n s).pac = s.pac := by
  induction n generalizing s with
  | zero => rfl
  | succ n ih =>
    unfold releaseN
    repeat' split
    all_goals simp [ih]

@[simp] theorem releaseN_share (n : Nat) (s : State) :
    (releaseN n s).share = s.share := by
  induction n generalizing s with
  | zero => rfl
  | succ n ih =>
    unfold releaseN
    repeat' split
    all_goals simp [ih]

@[simp] theorem releaseN_mgmt (n : Nat) (s : State) :
    (releaseN n s).mgmt = s.mgmt := by
  induction n generalizing s with
  | zero => rfl
  | succ n ih =>
    unfold releaseN
    repeat' split
    all_goals simp [ih]

@[simp] theorem releaseN_ret (n : Nat) (s : State) :
    (releaseN n s).ret = s.ret := by
  induction n generalizing s with
  | zero => rfl
  | succ n ih =>
    unfold releaseN
    repeat' split
    all_goals simp [ih]

@[simp] theorem releaseN_cfg (n : Nat) (s : State) :
    (releaseN n s).cfg = s.cfg := by
  induction n generalizing s with
  | zero => rfl
  | succ n ih =>
    unfold releaseN
    repeat' split
    all_goals simp [ih]

@[simp] theorem releaseN_choices (n : Nat) (s : State) :
    (releaseN n s).choices = s.choices := by
  induction n generalizing s with
  | zero => rfl
  | succ n ih =>
    unfold releaseN
    repeat' split
    all_goals simp [ih]

@[simp] theorem releaseN_pending (n : Nat) (s : State) :
    (releaseN n s).pending = s.pending := by
  induction n generalizing s with
  | zero => rfl
  | succ n ih =>
    unfold releaseN
    repeat' split
    all_goals simp [ih]

@[simp] theorem release_time (s : State) :
    (release s).time = s.time := by simp [release]

@[simp] theorem release_lan (s : State) :
    (release s).lan = s.lan := by simp [release]

@[simp] theorem release_cls (s : State) :
    (release s).cls = s.cls := by simp [release]

@[simp] theorem release_pow (s : State) :
    (release s).pow = s.pow := by simp [release]

@[simp] theorem release_ans (s : State) :
    (release s).ans = s.ans := by simp [release]

@[simp] theorem release_bay (s : State) :
    (release s).bay = s.bay := by simp [release]

@[simp] theorem release_pac (s : State) :
    (release s).pac = s.pac := by simp [release]

@[simp] theorem release_share (s : State) :
    (release s).share = s.share := by simp [release]

@[simp] theorem release_mgmt (s : State) :
    (release s).mgmt = s.mgmt := by simp [release]

@[simp] theorem release_ret (s : State) :
    (release s).ret = s.ret := by simp [release]

@[simp] theorem release_cfg (s : State) :
    (release s).cfg = s.cfg := by simp [release]

@[simp] theorem release_choices (s : State) :
    (release s).choices = s.choices := by simp [release]

@[simp] theorem release_pending (s : State) :
    (release s).pending = s.pending := by simp [release]

@[simp] theorem heldSent_time (s : State) :
    (heldSent s).time = s.time := by simp [heldSent]

@[simp] theorem heldSent_lan (s : State) :
    (heldSent s).lan = s.lan := by simp [heldSent]

@[simp] theorem heldSent_cls (s : State) :
    (heldSent s).cls = s.cls := by simp [heldSent]

@[simp] theorem heldSent_pow (s : State) :
    (heldSent s).pow = s.pow := by simp [heldSent]

@[simp] theorem heldSent_ans (s : State) :
    (heldSent s).ans = s.ans := by simp [heldSent]

@[simp] theorem heldSent_bay (s : State) :
    (heldSent s).bay = s.bay := by simp [heldSent]

@[simp] theorem heldSent_pac (s : State) :
    (heldSent s).pac = s.pac := by simp [heldSent]

@[simp] theorem heldSent_share (s : State) :
    (heldSent s).share = s.share := by simp [heldSent]

@[simp] theorem heldSent_mgmt (s : State) :
    (heldSent s).mgmt = s.mgmt := by simp [heldSent]

@[simp] theorem heldSent_ret (s : State) :
    (heldSent s).ret = s.ret := by simp [heldSent]

@[simp] theorem heldSent_cfg (s : State) :
    (heldSent s).cfg = s.cfg := by simp [heldSent]

@[simp] theorem heldSent_choices (s : State) :
    (heldSent s).choices = s.choices := by simp [heldSent]

@[simp] theorem heldSent_pending (s : State) :
    (heldSent s).pending = s.pending := by simp [heldSent]

@[simp] theorem heldReturned_time (s : State) :
    (heldReturned s).time = s.time := rfl

@[simp] theorem heldReturned_lan (s : State) :
    (heldReturned s).lan = s.lan := rfl

@[simp] theorem heldReturned_cls (s : State) :
    (heldReturned s).cls = s.cls := rfl

@[simp] theorem heldReturned_cells (s : State) :
    (heldReturned s).cells = s.cells := rfl

@[simp] theorem heldReturned_pow (s : State) :
    (heldReturned s).pow = s.pow := rfl

@[simp] theorem heldReturned_ans (s : State) :
    (heldReturned s).ans = s.ans := rfl

@[simp] theorem heldReturned_bay (s : State) :
    (heldReturned s).bay = s.bay := rfl

@[simp] theorem heldReturned_pac (s : State) :
    (heldReturned s).pac = s.pac := rfl

@[simp] theorem heldReturned_share (s : State) :
    (heldReturned s).share = s.share := rfl

@[simp] theorem heldReturned_host (s : State) :
    (heldReturned s).host = s.host := rfl

@[simp] theorem heldReturned_mgmt (s : State) :
    (heldReturned s).mgmt = s.mgmt := rfl

@[simp] theorem heldReturned_note (s : State) :
    (heldReturned s).note = s.note := rfl

@[simp] theorem heldReturned_ret (s : State) :
    (heldReturned s).ret = s.ret := rfl

@[simp] theorem heldReturned_cfg (s : State) :
    (heldReturned s).cfg = s.cfg := rfl

@[simp] theorem heldReturned_choices (s : State) :
    (heldReturned s).choices = s.choices := rfl

@[simp] theorem heldReturned_pending (s : State) :
    (heldReturned s).pending = s.pending := rfl

@[simp] theorem flushHeld_time (s : State) :
    (flushHeld s).time = s.time := rfl

@[simp] theorem flushHeld_lan (s : State) :
    (flushHeld s).lan = s.lan := rfl

@[simp] theorem flushHeld_cls (s : State) :
    (flushHeld s).cls = s.cls := rfl

@[simp] theorem flushHeld_pow (s : State) :
    (flushHeld s).pow = s.pow := rfl

@[simp] theorem flushHeld_ans (s : State) :
    (flushHeld s).ans = s.ans := rfl

@[simp] theorem flushHeld_bay (s : State) :
    (flushHeld s).bay = s.bay := rfl

@[simp] theorem flushHeld_pac (s : State) :
    (flushHeld s).pac = s.pac := rfl

@[simp] theorem flushHeld_share (s : State) :
    (flushHeld s).share = s.share := rfl

@[simp] theorem flushHeld_host (s : State) :
    (flushHeld s).host = s.host := rfl

@[simp] theorem flushHeld_mgmt (s : State) :
    (flushHeld s).mgmt = s.mgmt := rfl

@[simp] theorem flushHeld_note (s : State) :
    (flushHeld s).note = s.note := rfl

@[simp] theorem flushHeld_ret (s : State) :
    (flushHeld s).ret = s.ret := rfl

@[simp] theorem flushHeld_cfg (s : State) :
    (flushHeld s).cfg = s.cfg := rfl

@[simp] theorem flushHeld_choices (s : State) :
    (flushHeld s).choices = s.choices := rfl

@[simp] theorem flushHeld_pending (s : State) :
    (flushHeld s).pending = s.pending := rfl

@[simp] theorem portDown_time (s : State) :
    (portDown s).time = s.time := by
  unfold portDown
  repeat' split
  all_goals simp

@[simp] theorem portDown_lan (s : State) :
    (portDown s).lan = s.lan := by
  unfold portDown
  repeat' split
  all_goals simp

@[simp] theorem portDown_cls (s : State) :
    (portDown s).cls = s.cls := by
  unfold portDown
  repeat' split
  all_goals simp

@[simp] theorem portDown_cells (s : State) :
    (portDown s).cells = s.cells := by
  unfold portDown
  repeat' split
  all_goals simp

@[simp] theorem portDown_pow (s : State) :
    (portDown s).pow = s.pow := by
  unfold portDown
  repeat' split
  all_goals simp

@[simp] theorem portDown_ans (s : State) :
    (portDown s).ans = s.ans := by
  unfold portDown
  repeat' split
  all_goals simp

@[simp] theorem portDown_bay (s : State) :
    (portDown s).bay = s.bay := by
  unfold portDown
  repeat' split
  all_goals simp

@[simp] theorem portDown_share (s : State) :
    (portDown s).share = s.share := by
  unfold portDown
  repeat' split
  all_goals simp

@[simp] theorem portDown_ret (s : State) :
    (portDown s).ret = s.ret := by
  unfold portDown
  repeat' split
  all_goals simp

@[simp] theorem portDown_cfg (s : State) :
    (portDown s).cfg = s.cfg := by
  unfold portDown
  repeat' split
  all_goals simp

@[simp] theorem portDown_choices (s : State) :
    (portDown s).choices = s.choices := by
  unfold portDown
  repeat' split
  all_goals simp

@[simp] theorem portDown_pending (s : State) :
    (portDown s).pending = s.pending := by
  unfold portDown
  repeat' split
  all_goals simp

@[simp] theorem railOff_time (s : State) :
    (railOff s).time = s.time := by simp [railOff]

@[simp] theorem railOff_lan (s : State) :
    (railOff s).lan = s.lan := by simp [railOff]

@[simp] theorem railOff_cls (s : State) :
    (railOff s).cls = s.cls := by simp [railOff]

@[simp] theorem railOff_cells (s : State) :
    (railOff s).cells = s.cells := by simp [railOff]

@[simp] theorem railOff_ans (s : State) :
    (railOff s).ans = s.ans := by simp [railOff]

@[simp] theorem railOff_bay (s : State) :
    (railOff s).bay = s.bay := by simp [railOff]

@[simp] theorem railOff_share (s : State) :
    (railOff s).share = s.share := by simp [railOff]

@[simp] theorem railOff_ret (s : State) :
    (railOff s).ret = s.ret := by simp [railOff]

@[simp] theorem railOff_cfg (s : State) :
    (railOff s).cfg = s.cfg := by simp [railOff]

@[simp] theorem railOff_choices (s : State) :
    (railOff s).choices = s.choices := by simp [railOff]

@[simp] theorem railOff_pending (s : State) :
    (railOff s).pending = s.pending := by simp [railOff]

@[simp] theorem enterRailSettle_time (s : State) :
    (enterRailSettle s).time = s.time := rfl

@[simp] theorem enterRailSettle_lan (s : State) :
    (enterRailSettle s).lan = s.lan := rfl

@[simp] theorem enterRailSettle_cls (s : State) :
    (enterRailSettle s).cls = s.cls := rfl

@[simp] theorem enterRailSettle_cells (s : State) :
    (enterRailSettle s).cells = s.cells := rfl

@[simp] theorem enterRailSettle_hold (s : State) :
    (enterRailSettle s).hold = s.hold := rfl

@[simp] theorem enterRailSettle_ans (s : State) :
    (enterRailSettle s).ans = s.ans := rfl

@[simp] theorem enterRailSettle_bay (s : State) :
    (enterRailSettle s).bay = s.bay := rfl

@[simp] theorem enterRailSettle_pac (s : State) :
    (enterRailSettle s).pac = s.pac := rfl

@[simp] theorem enterRailSettle_share (s : State) :
    (enterRailSettle s).share = s.share := rfl

@[simp] theorem enterRailSettle_host (s : State) :
    (enterRailSettle s).host = s.host := rfl

@[simp] theorem enterRailSettle_mgmt (s : State) :
    (enterRailSettle s).mgmt = s.mgmt := rfl

@[simp] theorem enterRailSettle_note (s : State) :
    (enterRailSettle s).note = s.note := rfl

@[simp] theorem enterRailSettle_ret (s : State) :
    (enterRailSettle s).ret = s.ret := rfl

@[simp] theorem enterRailSettle_cfg (s : State) :
    (enterRailSettle s).cfg = s.cfg := rfl

@[simp] theorem enterRailSettle_choices (s : State) :
    (enterRailSettle s).choices = s.choices := rfl

@[simp] theorem enterRailSettle_pending (s : State) :
    (enterRailSettle s).pending = s.pending := rfl

@[simp] theorem leaveRun_time (s : State) :
    (leaveRun s).time = s.time := rfl

@[simp] theorem leaveRun_lan (s : State) :
    (leaveRun s).lan = s.lan := rfl

@[simp] theorem leaveRun_cls (s : State) :
    (leaveRun s).cls = s.cls := rfl

@[simp] theorem leaveRun_cells (s : State) :
    (leaveRun s).cells = s.cells := rfl

@[simp] theorem leaveRun_hold (s : State) :
    (leaveRun s).hold = s.hold := rfl

@[simp] theorem leaveRun_ans (s : State) :
    (leaveRun s).ans = s.ans := rfl

@[simp] theorem leaveRun_bay (s : State) :
    (leaveRun s).bay = s.bay := rfl

@[simp] theorem leaveRun_host (s : State) :
    (leaveRun s).host = s.host := rfl

@[simp] theorem leaveRun_mgmt (s : State) :
    (leaveRun s).mgmt = s.mgmt := rfl

@[simp] theorem leaveRun_note (s : State) :
    (leaveRun s).note = s.note := rfl

@[simp] theorem leaveRun_ret (s : State) :
    (leaveRun s).ret = s.ret := rfl

@[simp] theorem leaveRun_cfg (s : State) :
    (leaveRun s).cfg = s.cfg := rfl

@[simp] theorem leaveRun_choices (s : State) :
    (leaveRun s).choices = s.choices := rfl

@[simp] theorem leaveRun_pending (s : State) :
    (leaveRun s).pending = s.pending := rfl

@[simp] theorem startWake_time (s : State) :
    (startWake s).time = s.time := by simp [startWake]

@[simp] theorem startWake_lan (s : State) :
    (startWake s).lan = s.lan := by simp [startWake]

@[simp] theorem startWake_cls (s : State) :
    (startWake s).cls = s.cls := by simp [startWake]

@[simp] theorem startWake_cells (s : State) :
    (startWake s).cells = s.cells := by simp [startWake]

@[simp] theorem startWake_hold (s : State) :
    (startWake s).hold = s.hold := by simp [startWake]

@[simp] theorem startWake_ans (s : State) :
    (startWake s).ans = s.ans := by simp [startWake]

@[simp] theorem startWake_pac (s : State) :
    (startWake s).pac = s.pac := by simp [startWake]

@[simp] theorem startWake_share (s : State) :
    (startWake s).share = s.share := by simp [startWake]

@[simp] theorem startWake_host (s : State) :
    (startWake s).host = s.host := by simp [startWake]

@[simp] theorem startWake_mgmt (s : State) :
    (startWake s).mgmt = s.mgmt := by simp [startWake]

@[simp] theorem startWake_note (s : State) :
    (startWake s).note = s.note := by simp [startWake]

@[simp] theorem startWake_ret (s : State) :
    (startWake s).ret = s.ret := by simp [startWake]

@[simp] theorem startWake_cfg (s : State) :
    (startWake s).cfg = s.cfg := by simp [startWake]

@[simp] theorem startWake_choices (s : State) :
    (startWake s).choices = s.choices := by simp [startWake]

@[simp] theorem startWake_pending (s : State) :
    (startWake s).pending = s.pending := by simp [startWake]

@[simp] theorem latchWake_time (name : WakeName) (bays : BaySet) (s : State) :
    (latchWake name bays s).time = s.time := rfl

@[simp] theorem latchWake_lan (name : WakeName) (bays : BaySet) (s : State) :
    (latchWake name bays s).lan = s.lan := rfl

@[simp] theorem latchWake_cls (name : WakeName) (bays : BaySet) (s : State) :
    (latchWake name bays s).cls = s.cls := rfl

@[simp] theorem latchWake_cells (name : WakeName) (bays : BaySet) (s : State) :
    (latchWake name bays s).cells = s.cells := rfl

@[simp] theorem latchWake_hold (name : WakeName) (bays : BaySet) (s : State) :
    (latchWake name bays s).hold = s.hold := rfl

@[simp] theorem latchWake_ans (name : WakeName) (bays : BaySet) (s : State) :
    (latchWake name bays s).ans = s.ans := rfl

@[simp] theorem latchWake_bay (name : WakeName) (bays : BaySet) (s : State) :
    (latchWake name bays s).bay = s.bay := rfl

@[simp] theorem latchWake_pac (name : WakeName) (bays : BaySet) (s : State) :
    (latchWake name bays s).pac = s.pac := rfl

@[simp] theorem latchWake_share (name : WakeName) (bays : BaySet) (s : State) :
    (latchWake name bays s).share = s.share := rfl

@[simp] theorem latchWake_host (name : WakeName) (bays : BaySet) (s : State) :
    (latchWake name bays s).host = s.host := rfl

@[simp] theorem latchWake_mgmt (name : WakeName) (bays : BaySet) (s : State) :
    (latchWake name bays s).mgmt = s.mgmt := rfl

@[simp] theorem latchWake_note (name : WakeName) (bays : BaySet) (s : State) :
    (latchWake name bays s).note = s.note := rfl

@[simp] theorem latchWake_ret (name : WakeName) (bays : BaySet) (s : State) :
    (latchWake name bays s).ret = s.ret := rfl

@[simp] theorem latchWake_cfg (name : WakeName) (bays : BaySet) (s : State) :
    (latchWake name bays s).cfg = s.cfg := rfl

@[simp] theorem latchWake_choices (name : WakeName) (bays : BaySet) (s : State) :
    (latchWake name bays s).choices = s.choices := rfl

@[simp] theorem latchWake_pending (name : WakeName) (bays : BaySet) (s : State) :
    (latchWake name bays s).pending = s.pending := rfl

@[simp] theorem wakeEvent_time (name : WakeName) (bays : BaySet) (s : State) :
    (wakeEvent name bays s).time = s.time := by
  unfold wakeEvent
  repeat' split
  all_goals simp

@[simp] theorem wakeEvent_lan (name : WakeName) (bays : BaySet) (s : State) :
    (wakeEvent name bays s).lan = s.lan := by
  unfold wakeEvent
  repeat' split
  all_goals simp

@[simp] theorem wakeEvent_cls (name : WakeName) (bays : BaySet) (s : State) :
    (wakeEvent name bays s).cls = s.cls := by
  unfold wakeEvent
  repeat' split
  all_goals simp

@[simp] theorem wakeEvent_cells (name : WakeName) (bays : BaySet) (s : State) :
    (wakeEvent name bays s).cells = s.cells := by
  unfold wakeEvent
  repeat' split
  all_goals simp

@[simp] theorem wakeEvent_hold (name : WakeName) (bays : BaySet) (s : State) :
    (wakeEvent name bays s).hold = s.hold := by
  unfold wakeEvent
  repeat' split
  all_goals simp

@[simp] theorem wakeEvent_ans (name : WakeName) (bays : BaySet) (s : State) :
    (wakeEvent name bays s).ans = s.ans := by
  unfold wakeEvent
  repeat' split
  all_goals simp

@[simp] theorem wakeEvent_pac (name : WakeName) (bays : BaySet) (s : State) :
    (wakeEvent name bays s).pac = s.pac := by
  unfold wakeEvent
  repeat' split
  all_goals simp

@[simp] theorem wakeEvent_share (name : WakeName) (bays : BaySet) (s : State) :
    (wakeEvent name bays s).share = s.share := by
  unfold wakeEvent
  repeat' split
  all_goals simp

@[simp] theorem wakeEvent_host (name : WakeName) (bays : BaySet) (s : State) :
    (wakeEvent name bays s).host = s.host := by
  unfold wakeEvent
  repeat' split
  all_goals simp

@[simp] theorem wakeEvent_mgmt (name : WakeName) (bays : BaySet) (s : State) :
    (wakeEvent name bays s).mgmt = s.mgmt := by
  unfold wakeEvent
  repeat' split
  all_goals simp

@[simp] theorem wakeEvent_note (name : WakeName) (bays : BaySet) (s : State) :
    (wakeEvent name bays s).note = s.note := by
  unfold wakeEvent
  repeat' split
  all_goals simp

@[simp] theorem wakeEvent_ret (name : WakeName) (bays : BaySet) (s : State) :
    (wakeEvent name bays s).ret = s.ret := by
  unfold wakeEvent
  repeat' split
  all_goals simp

@[simp] theorem wakeEvent_cfg (name : WakeName) (bays : BaySet) (s : State) :
    (wakeEvent name bays s).cfg = s.cfg := by
  unfold wakeEvent
  repeat' split
  all_goals simp

@[simp] theorem wakeEvent_choices (name : WakeName) (bays : BaySet) (s : State) :
    (wakeEvent name bays s).choices = s.choices := by
  unfold wakeEvent
  repeat' split
  all_goals simp

@[simp] theorem wakeEvent_pending (name : WakeName) (bays : BaySet) (s : State) :
    (wakeEvent name bays s).pending = s.pending := by
  unfold wakeEvent
  repeat' split
  all_goals simp

@[simp] theorem completeEntry_time (s : State) :
    (completeEntry s).time = s.time := by
  unfold completeEntry
  dsimp only
  repeat' split
  all_goals simp

@[simp] theorem completeEntry_lan (s : State) :
    (completeEntry s).lan = s.lan := by
  unfold completeEntry
  dsimp only
  repeat' split
  all_goals simp

@[simp] theorem completeEntry_cls (s : State) :
    (completeEntry s).cls = s.cls := by
  unfold completeEntry
  dsimp only
  repeat' split
  all_goals simp

@[simp] theorem completeEntry_cells (s : State) :
    (completeEntry s).cells = s.cells := by
  unfold completeEntry
  dsimp only
  repeat' split
  all_goals simp

@[simp] theorem completeEntry_ans (s : State) :
    (completeEntry s).ans = s.ans := by
  unfold completeEntry
  dsimp only
  repeat' split
  all_goals simp

@[simp] theorem completeEntry_share (s : State) :
    (completeEntry s).share = s.share := by
  unfold completeEntry
  dsimp only
  repeat' split
  all_goals simp

@[simp] theorem completeEntry_ret (s : State) :
    (completeEntry s).ret = s.ret := by
  unfold completeEntry
  dsimp only
  repeat' split
  all_goals simp

@[simp] theorem completeEntry_cfg (s : State) :
    (completeEntry s).cfg = s.cfg := by
  unfold completeEntry
  dsimp only
  repeat' split
  all_goals simp

@[simp] theorem completeEntry_choices (s : State) :
    (completeEntry s).choices = s.choices := by
  unfold completeEntry
  dsimp only
  repeat' split
  all_goals simp

@[simp] theorem completeEntry_pending (s : State) :
    (completeEntry s).pending = s.pending := by
  unfold completeEntry
  dsimp only
  repeat' split
  all_goals simp

@[simp] theorem releaseAndNotify_time (s : State) :
    (releaseAndNotify s).time = s.time := by
  unfold releaseAndNotify inEitherOrder
  dsimp only
  repeat' split
  all_goals simp

@[simp] theorem releaseAndNotify_lan (s : State) :
    (releaseAndNotify s).lan = s.lan := by
  unfold releaseAndNotify inEitherOrder
  dsimp only
  repeat' split
  all_goals simp

@[simp] theorem releaseAndNotify_cls (s : State) :
    (releaseAndNotify s).cls = s.cls := by
  unfold releaseAndNotify inEitherOrder
  dsimp only
  repeat' split
  all_goals simp

@[simp] theorem releaseAndNotify_pow (s : State) :
    (releaseAndNotify s).pow = s.pow := by
  unfold releaseAndNotify inEitherOrder
  dsimp only
  repeat' split
  all_goals simp

@[simp] theorem releaseAndNotify_ans (s : State) :
    (releaseAndNotify s).ans = s.ans := by
  unfold releaseAndNotify inEitherOrder
  dsimp only
  repeat' split
  all_goals simp

@[simp] theorem releaseAndNotify_bay (s : State) :
    (releaseAndNotify s).bay = s.bay := by
  unfold releaseAndNotify inEitherOrder
  dsimp only
  repeat' split
  all_goals simp

@[simp] theorem releaseAndNotify_pac (s : State) :
    (releaseAndNotify s).pac = s.pac := by
  unfold releaseAndNotify inEitherOrder
  dsimp only
  repeat' split
  all_goals simp

@[simp] theorem releaseAndNotify_share (s : State) :
    (releaseAndNotify s).share = s.share := by
  unfold releaseAndNotify inEitherOrder
  dsimp only
  repeat' split
  all_goals simp

@[simp] theorem releaseAndNotify_mgmt (s : State) :
    (releaseAndNotify s).mgmt = s.mgmt := by
  unfold releaseAndNotify inEitherOrder
  dsimp only
  repeat' split
  all_goals simp

@[simp] theorem releaseAndNotify_ret (s : State) :
    (releaseAndNotify s).ret = s.ret := by
  unfold releaseAndNotify inEitherOrder
  dsimp only
  repeat' split
  all_goals simp

@[simp] theorem releaseAndNotify_cfg (s : State) :
    (releaseAndNotify s).cfg = s.cfg := by
  unfold releaseAndNotify inEitherOrder
  dsimp only
  repeat' split
  all_goals simp

@[simp] theorem releaseAndNotify_pending (s : State) :
    (releaseAndNotify s).pending = s.pending := by
  unfold releaseAndNotify inEitherOrder
  dsimp only
  repeat' split
  all_goals simp

@[simp] theorem runReached_time (s : State) :
    (runReached s).time = s.time := by
  unfold runReached
  dsimp only
  repeat' split
  all_goals simp

@[simp] theorem runReached_lan (s : State) :
    (runReached s).lan = s.lan := by
  unfold runReached
  dsimp only
  repeat' split
  all_goals simp

@[simp] theorem runReached_cls (s : State) :
    (runReached s).cls = s.cls := by
  unfold runReached
  dsimp only
  repeat' split
  all_goals simp

@[simp] theorem runReached_ans (s : State) :
    (runReached s).ans = s.ans := by
  unfold runReached
  dsimp only
  repeat' split
  all_goals simp

@[simp] theorem runReached_bay (s : State) :
    (runReached s).bay = s.bay := by
  unfold runReached
  dsimp only
  repeat' split
  all_goals simp

@[simp] theorem runReached_share (s : State) :
    (runReached s).share = s.share := by
  unfold runReached
  dsimp only
  repeat' split
  all_goals simp

@[simp] theorem runReached_mgmt (s : State) :
    (runReached s).mgmt = s.mgmt := by
  unfold runReached
  dsimp only
  repeat' split
  all_goals simp

@[simp] theorem runReached_ret (s : State) :
    (runReached s).ret = s.ret := by
  unfold runReached
  dsimp only
  repeat' split
  all_goals simp

@[simp] theorem runReached_cfg (s : State) :
    (runReached s).cfg = s.cfg := by
  unfold runReached
  dsimp only
  repeat' split
  all_goals simp

@[simp] theorem runReached_pending (s : State) :
    (runReached s).pending = s.pending := by
  unfold runReached
  dsimp only
  repeat' split
  all_goals simp

@[simp] theorem wakeFault_time (s : State) :
    (wakeFault s).time = s.time := by simp [wakeFault]

@[simp] theorem wakeFault_cls (s : State) :
    (wakeFault s).cls = s.cls := by simp [wakeFault]

@[simp] theorem wakeFault_share (s : State) :
    (wakeFault s).share = s.share := by simp [wakeFault]

@[simp] theorem wakeFault_host (s : State) :
    (wakeFault s).host = s.host := by simp [wakeFault]

@[simp] theorem wakeFault_mgmt (s : State) :
    (wakeFault s).mgmt = s.mgmt := by simp [wakeFault]

@[simp] theorem wakeFault_ret (s : State) :
    (wakeFault s).ret = s.ret := by simp [wakeFault]

@[simp] theorem wakeFault_cfg (s : State) :
    (wakeFault s).cfg = s.cfg := by simp [wakeFault]

@[simp] theorem wakeFault_choices (s : State) :
    (wakeFault s).choices = s.choices := by simp [wakeFault]

@[simp] theorem wakeFault_pending (s : State) :
    (wakeFault s).pending = s.pending := by simp [wakeFault]

@[simp] theorem enterMinute_time (s : State) :
    (enterMinute s).time = s.time := by
  unfold enterMinute
  dsimp only
  repeat' split
  all_goals simp

@[simp] theorem enterMinute_lan (s : State) :
    (enterMinute s).lan = s.lan := by
  unfold enterMinute
  dsimp only
  repeat' split
  all_goals simp

@[simp] theorem enterMinute_cls (s : State) :
    (enterMinute s).cls = s.cls := by
  unfold enterMinute
  dsimp only
  repeat' split
  all_goals simp

@[simp] theorem enterMinute_cells (s : State) :
    (enterMinute s).cells = s.cells := by
  unfold enterMinute
  dsimp only
  repeat' split
  all_goals simp

@[simp] theorem enterMinute_hold (s : State) :
    (enterMinute s).hold = s.hold := by
  unfold enterMinute
  dsimp only
  repeat' split
  all_goals simp

@[simp] theorem enterMinute_ans (s : State) :
    (enterMinute s).ans = s.ans := by
  unfold enterMinute
  dsimp only
  repeat' split
  all_goals simp

@[simp] theorem enterMinute_pac (s : State) :
    (enterMinute s).pac = s.pac := by
  unfold enterMinute
  dsimp only
  repeat' split
  all_goals simp

@[simp] theorem enterMinute_share (s : State) :
    (enterMinute s).share = s.share := by
  unfold enterMinute
  dsimp only
  repeat' split
  all_goals simp

@[simp] theorem enterMinute_host (s : State) :
    (enterMinute s).host = s.host := by
  unfold enterMinute
  dsimp only
  repeat' split
  all_goals simp

@[simp] theorem enterMinute_mgmt (s : State) :
    (enterMinute s).mgmt = s.mgmt := by
  unfold enterMinute
  dsimp only
  repeat' split
  all_goals simp

@[simp] theorem enterMinute_ret (s : State) :
    (enterMinute s).ret = s.ret := by
  unfold enterMinute
  dsimp only
  repeat' split
  all_goals simp

@[simp] theorem enterMinute_cfg (s : State) :
    (enterMinute s).cfg = s.cfg := by
  unfold enterMinute
  dsimp only
  repeat' split
  all_goals simp

@[simp] theorem enterMinute_choices (s : State) :
    (enterMinute s).choices = s.choices := by
  unfold enterMinute
  dsimp only
  repeat' split
  all_goals simp

@[simp] theorem enterMinute_pending (s : State) :
    (enterMinute s).pending = s.pending := by
  unfold enterMinute
  dsimp only
  repeat' split
  all_goals simp


end Sys2Proof.Machine
end

