-- ==== Sys2Proof/Laws/Events.lean ====
section
/-! SUPPORT. What the operations of single events leave as it is: for each, one lemma for each part of the state that it
does not touch. -/

namespace Sys2Proof.Machine

@[simp] theorem handQuestion_time (q : Question) (s : State) :
    (handQuestion q s).time = s.time := by
  unfold handQuestion
  repeat' split
  all_goals simp

@[simp] theorem handQuestion_lan (q : Question) (s : State) :
    (handQuestion q s).lan = s.lan := by
  unfold handQuestion
  repeat' split
  all_goals simp

@[simp] theorem handQuestion_cls (q : Question) (s : State) :
    (handQuestion q s).cls = s.cls := by
  unfold handQuestion
  repeat' split
  all_goals simp

@[simp] theorem handQuestion_cells (q : Question) (s : State) :
    (handQuestion q s).cells = s.cells := by
  unfold handQuestion
  repeat' split
  all_goals simp

@[simp] theorem handQuestion_pow (q : Question) (s : State) :
    (handQuestion q s).pow = s.pow := by
  unfold handQuestion
  repeat' split
  all_goals simp

@[simp] theorem handQuestion_hold (q : Question) (s : State) :
    (handQuestion q s).hold = s.hold := by
  unfold handQuestion
  repeat' split
  all_goals simp

@[simp] theorem handQuestion_bay (q : Question) (s : State) :
    (handQuestion q s).bay = s.bay := by
  unfold handQuestion
  repeat' split
  all_goals simp

@[simp] theorem handQuestion_pac (q : Question) (s : State) :
    (handQuestion q s).pac = s.pac := by
  unfold handQuestion
  repeat' split
  all_goals simp

@[simp] theorem handQuestion_share (q : Question) (s : State) :
    (handQuestion q s).share = s.share := by
  unfold handQuestion
  repeat' split
  all_goals simp

@[simp] theorem handQuestion_host (q : Question) (s : State) :
    (handQuestion q s).host = s.host := by
  unfold handQuestion
  repeat' split
  all_goals simp

@[simp] theorem handQuestion_mgmt (q : Question) (s : State) :
    (handQuestion q s).mgmt = s.mgmt := by
  unfold handQuestion
  repeat' split
  all_goals simp

@[simp] theorem handQuestion_note (q : Question) (s : State) :
    (handQuestion q s).note = s.note := by
  unfold handQuestion
  repeat' split
  all_goals simp

@[simp] theorem handQuestion_ret (q : Question) (s : State) :
    (handQuestion q s).ret = s.ret := by
  unfold handQuestion
  repeat' split
  all_goals simp

@[simp] theorem handQuestion_cfg (q : Question) (s : State) :
    (handQuestion q s).cfg = s.cfg := by
  unfold handQuestion
  repeat' split
  all_goals simp

@[simp] theorem handQuestion_choices (q : Question) (s : State) :
    (handQuestion q s).choices = s.choices := by
  unfold handQuestion
  repeat' split
  all_goals simp

@[simp] theorem handQuestion_pending (q : Question) (s : State) :
    (handQuestion q s).pending = s.pending := by
  unfold handQuestion
  repeat' split
  all_goals simp

@[simp] theorem dispatchPass_time (f : FrameInHand) (m : MatchResult) (s : State) :
    (dispatchPass f m s).time = s.time := by
  unfold dispatchPass
  dsimp only
  repeat' split
  all_goals simp

@[simp] theorem dispatchPass_lan (f : FrameInHand) (m : MatchResult) (s : State) :
    (dispatchPass f m s).lan = s.lan := by
  unfold dispatchPass
  dsimp only
  repeat' split
  all_goals simp

@[simp] theorem dispatchPass_cls (f : FrameInHand) (m : MatchResult) (s : State) :
    (dispatchPass f m s).cls = s.cls := by
  unfold dispatchPass
  dsimp only
  repeat' split
  all_goals simp

@[simp] theorem dispatchPass_pow (f : FrameInHand) (m : MatchResult) (s : State) :
    (dispatchPass f m s).pow = s.pow := by
  unfold dispatchPass
  dsimp only
  repeat' split
  all_goals simp

@[simp] theorem dispatchPass_ans (f : FrameInHand) (m : MatchResult) (s : State) :
    (dispatchPass f m s).ans = s.ans := by
  unfold dispatchPass
  dsimp only
  repeat' split
  all_goals simp

@[simp] theorem dispatchPass_bay (f : FrameInHand) (m : MatchResult) (s : State) :
    (dispatchPass f m s).bay = s.bay := by
  unfold dispatchPass
  dsimp only
  repeat' split
  all_goals simp

@[simp] theorem dispatchPass_pac (f : FrameInHand) (m : MatchResult) (s : State) :
    (dispatchPass f m s).pac = s.pac := by
  unfold dispatchPass
  dsimp only
  repeat' split
  all_goals simp

@[simp] theorem dispatchPass_share (f : FrameInHand) (m : MatchResult) (s : State) :
    (dispatchPass f m s).share = s.share := by
  unfold dispatchPass
  dsimp only
  repeat' split
  all_goals simp

@[simp] theorem dispatchPass_mgmt (f : FrameInHand) (m : MatchResult) (s : State) :
    (dispatchPass f m s).mgmt = s.mgmt := by
  unfold dispatchPass
  dsimp only
  repeat' split
  all_goals simp

@[simp] theorem dispatchPass_ret (f : FrameInHand) (m : MatchResult) (s : State) :
    (dispatchPass f m s).ret = s.ret := by
  unfold dispatchPass
  dsimp only
  repeat' split
  all_goals simp

@[simp] theorem dispatchPass_cfg (f : FrameInHand) (m : MatchResult) (s : State) :
    (dispatchPass f m s).cfg = s.cfg := by
  unfold dispatchPass
  dsimp only
  repeat' split
  all_goals simp

@[simp] theorem dispatchPass_choices (f : FrameInHand) (m : MatchResult) (s : State) :
    (dispatchPass f m s).choices = s.choices := by
  unfold dispatchPass
  dsimp only
  repeat' split
  all_goals simp

@[simp] theorem dispatchPass_pending (f : FrameInHand) (m : MatchResult) (s : State) :
    (dispatchPass f m s).pending = s.pending := by
  unfold dispatchPass
  dsimp only
  repeat' split
  all_goals simp

@[simp] theorem shareReport_time (s : State) :
    (shareReport s).time = s.time := by
  unfold shareReport
  repeat' split
  all_goals simp

@[simp] theorem shareReport_lan (s : State) :
    (shareReport s).lan = s.lan := by
  unfold shareReport
  repeat' split
  all_goals simp

@[simp] theorem shareReport_cls (s : State) :
    (shareReport s).cls = s.cls := by
  unfold shareReport
  repeat' split
  all_goals simp

@[simp] theorem shareReport_cells (s : State) :
    (shareReport s).cells = s.cells := by
  unfold shareReport
  repeat' split
  all_goals simp

@[simp] theorem shareReport_pow (s : State) :
    (shareReport s).pow = s.pow := by
  unfold shareReport
  repeat' split
  all_goals simp

@[simp] theorem shareReport_hold (s : State) :
    (shareReport s).hold = s.hold := by
  unfold shareReport
  repeat' split
  all_goals simp

@[simp] theorem shareReport_ans (s : State) :
    (shareReport s).ans = s.ans := by
  unfold shareReport
  repeat' split
  all_goals simp

@[simp] theorem shareReport_bay (s : State) :
    (shareReport s).bay = s.bay := by
  unfold shareReport
  repeat' split
  all_goals simp

@[simp] theorem shareReport_pac (s : State) :
    (shareReport s).pac = s.pac := by
  unfold shareReport
  repeat' split
  all_goals simp

@[simp] theorem shareReport_host (s : State) :
    (shareReport s).host = s.host := by
  unfold shareReport
  repeat' split
  all_goals simp

@[simp] theorem shareReport_mgmt (s : State) :
    (shareReport s).mgmt = s.mgmt := by
  unfold shareReport
  repeat' split
  all_goals simp

@[simp] theorem shareReport_note (s : State) :
    (shareReport s).note = s.note := by
  unfold shareReport
  repeat' split
  all_goals simp

@[simp] theorem shareReport_ret (s : State) :
    (shareReport s).ret = s.ret := by
  unfold shareReport
  repeat' split
  all_goals simp

@[simp] theorem shareReport_cfg (s : State) :
    (shareReport s).cfg = s.cfg := by
  unfold shareReport
  repeat' split
  all_goals simp

@[simp] theorem shareReport_choices (s : State) :
    (shareReport s).choices = s.choices := by
  unfold shareReport
  repeat' split
  all_goals simp

@[simp] theorem shareReport_pending (s : State) :
    (shareReport s).pending = s.pending := by
  unfold shareReport
  repeat' split
  all_goals simp

@[simp] theorem dispatch_time (f : FrameInHand) (m : MatchResult) (s : State) :
    (dispatch f m s).time = s.time := by
  unfold dispatch
  dsimp only
  repeat' split
  all_goals simp

@[simp] theorem dispatch_lan (f : FrameInHand) (m : MatchResult) (s : State) :
    (dispatch f m s).lan = s.lan := by
  unfold dispatch
  dsimp only
  repeat' split
  all_goals simp

@[simp] theorem dispatch_cls (f : FrameInHand) (m : MatchResult) (s : State) :
    (dispatch f m s).cls = s.cls := by
  unfold dispatch
  dsimp only
  repeat' split
  all_goals simp

@[simp] theorem dispatch_pow (f : FrameInHand) (m : MatchResult) (s : State) :
    (dispatch f m s).pow = s.pow := by
  unfold dispatch
  dsimp only
  repeat' split
  all_goals simp

@[simp] theorem dispatch_mgmt (f : FrameInHand) (m : MatchResult) (s : State) :
    (dispatch f m s).mgmt = s.mgmt := by
  unfold dispatch
  dsimp only
  repeat' split
  all_goals simp

@[simp] theorem dispatch_ret (f : FrameInHand) (m : MatchResult) (s : State) :
    (dispatch f m s).ret = s.ret := by
  unfold dispatch
  dsimp only
  repeat' split
  all_goals simp

@[simp] theorem dispatch_cfg (f : FrameInHand) (m : MatchResult) (s : State) :
    (dispatch f m s).cfg = s.cfg := by
  unfold dispatch
  dsimp only
  repeat' split
  all_goals simp

@[simp] theorem dispatch_choices (f : FrameInHand) (m : MatchResult) (s : State) :
    (dispatch f m s).choices = s.choices := by
  unfold dispatch
  dsimp only
  repeat' split
  all_goals simp

@[simp] theorem dispatch_pending (f : FrameInHand) (m : MatchResult) (s : State) :
    (dispatch f m s).pending = s.pending := by
  unfold dispatch
  dsimp only
  repeat' split
  all_goals simp

@[simp] theorem raiseWakes_time (box : BoxState) (k : FrameKey) (m : MatchResult) (s : State) :
    (raiseWakes box k m s).time = s.time := by
  unfold raiseWakes inEitherOrder
  dsimp only
  repeat' split
  all_goals simp

@[simp] theorem raiseWakes_lan (box : BoxState) (k : FrameKey) (m : MatchResult) (s : State) :
    (raiseWakes box k m s).lan = s.lan := by
  unfold raiseWakes inEitherOrder
  dsimp only
  repeat' split
  all_goals simp

@[simp] theorem raiseWakes_cls (box : BoxState) (k : FrameKey) (m : MatchResult) (s : State) :
    (raiseWakes box k m s).cls = s.cls := by
  unfold raiseWakes inEitherOrder
  dsimp only
  repeat' split
  all_goals simp

@[simp] theorem raiseWakes_cells (box : BoxState) (k : FrameKey) (m : MatchResult) (s : State) :
    (raiseWakes box k m s).cells = s.cells := by
  unfold raiseWakes inEitherOrder
  dsimp only
  repeat' split
  all_goals simp

@[simp] theorem raiseWakes_hold (box : BoxState) (k : FrameKey) (m : MatchResult) (s : State) :
    (raiseWakes box k m s).hold = s.hold := by
  unfold raiseWakes inEitherOrder
  dsimp only
  repeat' split
  all_goals simp

@[simp] theorem raiseWakes_ans (box : BoxState) (k : FrameKey) (m : MatchResult) (s : State) :
    (raiseWakes box k m s).ans = s.ans := by
  unfold raiseWakes inEitherOrder
  dsimp only
  repeat' split
  all_goals simp

@[simp] theorem raiseWakes_pac (box : BoxState) (k : FrameKey) (m : MatchResult) (s : State) :
    (raiseWakes box k m s).pac = s.pac := by
  unfold raiseWakes inEitherOrder
  dsimp only
  repeat' split
  all_goals simp

@[simp] theorem raiseWakes_share (box : BoxState) (k : FrameKey) (m : MatchResult) (s : State) :
    (raiseWakes box k m s).share = s.share := by
  unfold raiseWakes inEitherOrder
  dsimp only
  repeat' split
  all_goals simp

@[simp] theorem raiseWakes_host (box : BoxState) (k : FrameKey) (m : MatchResult) (s : State) :
    (raiseWakes box k m s).host = s.host := by
  unfold raiseWakes inEitherOrder
  dsimp only
  repeat' split
  all_goals simp

@[simp] theorem raiseWakes_mgmt (box : BoxState) (k : FrameKey) (m : MatchResult) (s : State) :
    (raiseWakes box k m s).mgmt = s.mgmt := by
  unfold raiseWakes inEitherOrder
  dsimp only
  repeat' split
  all_goals simp

@[simp] theorem raiseWakes_note (box : BoxState) (k : FrameKey) (m : MatchResult) (s : State) :
    (raiseWakes box k m s).note = s.note := by
  unfold raiseWakes inEitherOrder
  dsimp only
  repeat' split
  all_goals simp

@[simp] theorem raiseWakes_ret (box : BoxState) (k : FrameKey) (m : MatchResult) (s : State) :
    (raiseWakes box k m s).ret = s.ret := by
  unfold raiseWakes inEitherOrder
  dsimp only
  repeat' split
  all_goals simp

@[simp] theorem raiseWakes_cfg (box : BoxState) (k : FrameKey) (m : MatchResult) (s : State) :
    (raiseWakes box k m s).cfg = s.cfg := by
  unfold raiseWakes inEitherOrder
  dsimp only
  repeat' split
  all_goals simp

@[simp] theorem raiseWakes_pending (box : BoxState) (k : FrameKey) (m : MatchResult) (s : State) :
    (raiseWakes box k m s).pending = s.pending := by
  unfold raiseWakes inEitherOrder
  dsimp only
  repeat' split
  all_goals simp

@[simp] theorem classifyFrame_time (frame : List Byte) (s : State) :
    (classifyFrame frame s).time = s.time := by simp [classifyFrame]

@[simp] theorem classifyFrame_lan (frame : List Byte) (s : State) :
    (classifyFrame frame s).lan = s.lan := by simp [classifyFrame]

@[simp] theorem classifyFrame_mgmt (frame : List Byte) (s : State) :
    (classifyFrame frame s).mgmt = s.mgmt := by simp [classifyFrame]

@[simp] theorem classifyFrame_ret (frame : List Byte) (s : State) :
    (classifyFrame frame s).ret = s.ret := by simp [classifyFrame]

@[simp] theorem classifyFrame_cfg (frame : List Byte) (s : State) :
    (classifyFrame frame s).cfg = s.cfg := by simp [classifyFrame]

@[simp] theorem classifyFrame_pending (frame : List Byte) (s : State) :
    (classifyFrame frame s).pending = s.pending := by simp [classifyFrame]

@[simp] theorem onRecord_time (i : Fin 16) (f : AnswerRecord → AnswerRecord) (s : State) :
    (onRecord i f s).time = s.time := rfl

@[simp] theorem onRecord_lan (i : Fin 16) (f : AnswerRecord → AnswerRecord) (s : State) :
    (onRecord i f s).lan = s.lan := rfl

@[simp] theorem onRecord_cls (i : Fin 16) (f : AnswerRecord → AnswerRecord) (s : State) :
    (onRecord i f s).cls = s.cls := rfl

@[simp] theorem onRecord_cells (i : Fin 16) (f : AnswerRecord → AnswerRecord) (s : State) :
    (onRecord i f s).cells = s.cells := rfl

@[simp] theorem onRecord_pow (i : Fin 16) (f : AnswerRecord → AnswerRecord) (s : State) :
    (onRecord i f s).pow = s.pow := rfl

@[simp] theorem onRecord_hold (i : Fin 16) (f : AnswerRecord → AnswerRecord) (s : State) :
    (onRecord i f s).hold = s.hold := rfl

@[simp] theorem onRecord_bay (i : Fin 16) (f : AnswerRecord → AnswerRecord) (s : State) :
    (onRecord i f s).bay = s.bay := rfl

@[simp] theorem onRecord_pac (i : Fin 16) (f : AnswerRecord → AnswerRecord) (s : State) :
    (onRecord i f s).pac = s.pac := rfl

@[simp] theorem onRecord_share (i : Fin 16) (f : AnswerRecord → AnswerRecord) (s : State) :
    (onRecord i f s).share = s.share := rfl

@[simp] theorem onRecord_host (i : Fin 16) (f : AnswerRecord → AnswerRecord) (s : State) :
    (onRecord i f s).host = s.host := rfl

@[simp] theorem onRecord_mgmt (i : Fin 16) (f : AnswerRecord → AnswerRecord) (s : State) :
    (onRecord i f s).mgmt = s.mgmt := rfl

@[simp] theorem onRecord_note (i : Fin 16) (f : AnswerRecord → AnswerRecord) (s : State) :
    (onRecord i f s).note = s.note := rfl

@[simp] theorem onRecord_ret (i : Fin 16) (f : AnswerRecord → AnswerRecord) (s : State) :
    (onRecord i f s).ret = s.ret := rfl

@[simp] theorem onRecord_cfg (i : Fin 16) (f : AnswerRecord → AnswerRecord) (s : State) :
    (onRecord i f s).cfg = s.cfg := rfl

@[simp] theorem onRecord_choices (i : Fin 16) (f : AnswerRecord → AnswerRecord) (s : State) :
    (onRecord i f s).choices = s.choices := rfl

@[simp] theorem onRecord_pending (i : Fin 16) (f : AnswerRecord → AnswerRecord) (s : State) :
    (onRecord i f s).pending = s.pending := rfl

@[simp] theorem buildAnswer_time (q : Question) (s : State) :
    (buildAnswer q s).time = s.time := by simp [buildAnswer]

@[simp] theorem buildAnswer_cls (q : Question) (s : State) :
    (buildAnswer q s).cls = s.cls := by simp [buildAnswer]

@[simp] theorem buildAnswer_cells (q : Question) (s : State) :
    (buildAnswer q s).cells = s.cells := by simp [buildAnswer]

@[simp] theorem buildAnswer_pow (q : Question) (s : State) :
    (buildAnswer q s).pow = s.pow := by simp [buildAnswer]

@[simp] theorem buildAnswer_hold (q : Question) (s : State) :
    (buildAnswer q s).hold = s.hold := by simp [buildAnswer]

@[simp] theorem buildAnswer_bay (q : Question) (s : State) :
    (buildAnswer q s).bay = s.bay := by simp [buildAnswer]

@[simp] theorem buildAnswer_share (q : Question) (s : State) :
    (buildAnswer q s).share = s.share := by simp [buildAnswer]

@[simp] theorem buildAnswer_host (q : Question) (s : State) :
    (buildAnswer q s).host = s.host := by simp [buildAnswer]

@[simp] theorem buildAnswer_mgmt (q : Question) (s : State) :
    (buildAnswer q s).mgmt = s.mgmt := by simp [buildAnswer]

@[simp] theorem buildAnswer_note (q : Question) (s : State) :
    (buildAnswer q s).note = s.note := by simp [buildAnswer]

@[simp] theorem buildAnswer_ret (q : Question) (s : State) :
    (buildAnswer q s).ret = s.ret := by simp [buildAnswer]

@[simp] theorem buildAnswer_cfg (q : Question) (s : State) :
    (buildAnswer q s).cfg = s.cfg := by simp [buildAnswer]

@[simp] theorem buildAnswer_choices (q : Question) (s : State) :
    (buildAnswer q s).choices = s.choices := by simp [buildAnswer]

@[simp] theorem buildAnswer_pending (q : Question) (s : State) :
    (buildAnswer q s).pending = s.pending := by simp [buildAnswer]

@[simp] theorem answerQuestion_time (q : Question) (s : State) :
    (answerQuestion q s).time = s.time := by
  unfold answerQuestion
  dsimp only
  repeat' split
  all_goals simp

@[simp] theorem answerQuestion_cls (q : Question) (s : State) :
    (answerQuestion q s).cls = s.cls := by
  unfold answerQuestion
  dsimp only
  repeat' split
  all_goals simp

@[simp] theorem answerQuestion_cells (q : Question) (s : State) :
    (answerQuestion q s).cells = s.cells := by
  unfold answerQuestion
  dsimp only
  repeat' split
  all_goals simp

@[simp] theorem answerQuestion_pow (q : Question) (s : State) :
    (answerQuestion q s).pow = s.pow := by
  unfold answerQuestion
  dsimp only
  repeat' split
  all_goals simp

@[simp] theorem answerQuestion_hold (q : Question) (s : State) :
    (answerQuestion q s).hold = s.hold := by
  unfold answerQuestion
  dsimp only
  repeat' split
  all_goals simp

@[simp] theorem answerQuestion_bay (q : Question) (s : State) :
    (answerQuestion q s).bay = s.bay := by
  unfold answerQuestion
  dsimp only
  repeat' split
  all_goals simp

@[simp] theorem answerQuestion_share (q : Question) (s : State) :
    (answerQuestion q s).share = s.share := by
  unfold answerQuestion
  dsimp only
  repeat' split
  all_goals simp

@[simp] theorem answerQuestion_host (q : Question) (s : State) :
    (answerQuestion q s).host = s.host := by
  unfold answerQuestion
  dsimp only
  repeat' split
  all_goals simp

@[simp] theorem answerQuestion_mgmt (q : Question) (s : State) :
    (answerQuestion q s).mgmt = s.mgmt := by
  unfold answerQuestion
  dsimp only
  repeat' split
  all_goals simp

@[simp] theorem answerQuestion_note (q : Question) (s : State) :
    (answerQuestion q s).note = s.note := by
  unfold answerQuestion
  dsimp only
  repeat' split
  all_goals simp

@[simp] theorem answerQuestion_ret (q : Question) (s : State) :
    (answerQuestion q s).ret = s.ret := by
  unfold answerQuestion
  dsimp only
  repeat' split
  all_goals simp

@[simp] theorem answerQuestion_cfg (q : Question) (s : State) :
    (answerQuestion q s).cfg = s.cfg := by
  unfold answerQuestion
  dsimp only
  repeat' split
  all_goals simp

@[simp] theorem answerQuestion_choices (q : Question) (s : State) :
    (answerQuestion q s).choices = s.choices := by
  unfold answerQuestion
  dsimp only
  repeat' split
  all_goals simp

@[simp] theorem answerQuestion_pending (q : Question) (s : State) :
    (answerQuestion q s).pending = s.pending := by
  unfold answerQuestion
  dsimp only
  repeat' split
  all_goals simp

@[simp] theorem applyPartition_time (p : Partition) (s : State) :
    (applyPartition p s).time = s.time := rfl

@[simp] theorem applyPartition_lan (p : Partition) (s : State) :
    (applyPartition p s).lan = s.lan := rfl

@[simp] theorem applyPartition_cls (p : Partition) (s : State) :
    (applyPartition p s).cls = s.cls := rfl

@[simp] theorem applyPartition_pow (p : Partition) (s : State) :
    (applyPartition p s).pow = s.pow := rfl

@[simp] theorem applyPartition_hold (p : Partition) (s : State) :
    (applyPartition p s).hold = s.hold := rfl

@[simp] theorem applyPartition_ans (p : Partition) (s : State) :
    (applyPartition p s).ans = s.ans := rfl

@[simp] theorem applyPartition_bay (p : Partition) (s : State) :
    (applyPartition p s).bay = s.bay := rfl

@[simp] theorem applyPartition_share (p : Partition) (s : State) :
    (applyPartition p s).share = s.share := rfl

@[simp] theorem applyPartition_host (p : Partition) (s : State) :
    (applyPartition p s).host = s.host := rfl

@[simp] theorem applyPartition_mgmt (p : Partition) (s : State) :
    (applyPartition p s).mgmt = s.mgmt := rfl

@[simp] theorem applyPartition_note (p : Partition) (s : State) :
    (applyPartition p s).note = s.note := rfl

@[simp] theorem applyPartition_ret (p : Partition) (s : State) :
    (applyPartition p s).ret = s.ret := rfl

@[simp] theorem applyPartition_cfg (p : Partition) (s : State) :
    (applyPartition p s).cfg = s.cfg := rfl

@[simp] theorem applyPartition_choices (p : Partition) (s : State) :
    (applyPartition p s).choices = s.choices := rfl

@[simp] theorem applyPartition_pending (p : Partition) (s : State) :
    (applyPartition p s).pending = s.pending := rfl

@[simp] theorem enterRetryOff_time (s : State) :
    (enterRetryOff s).time = s.time := by simp [enterRetryOff]

@[simp] theorem enterRetryOff_lan (s : State) :
    (enterRetryOff s).lan = s.lan := by simp [enterRetryOff]

@[simp] theorem enterRetryOff_cls (s : State) :
    (enterRetryOff s).cls = s.cls := by simp [enterRetryOff]

@[simp] theorem enterRetryOff_cells (s : State) :
    (enterRetryOff s).cells = s.cells := by simp [enterRetryOff]

@[simp] theorem enterRetryOff_ans (s : State) :
    (enterRetryOff s).ans = s.ans := by simp [enterRetryOff]

@[simp] theorem enterRetryOff_bay (s : State) :
    (enterRetryOff s).bay = s.bay := by simp [enterRetryOff]

@[simp] theorem enterRetryOff_share (s : State) :
    (enterRetryOff s).share = s.share := by simp [enterRetryOff]

@[simp] theorem enterRetryOff_ret (s : State) :
    (enterRetryOff s).ret = s.ret := by simp [enterRetryOff]

@[simp] theorem enterRetryOff_cfg (s : State) :
    (enterRetryOff s).cfg = s.cfg := by simp [enterRetryOff]

@[simp] theorem enterRetryOff_choices (s : State) :
    (enterRetryOff s).choices = s.choices := by simp [enterRetryOff]

@[simp] theorem enterRetryOff_pending (s : State) :
    (enterRetryOff s).pending = s.pending := by simp [enterRetryOff]

@[simp] theorem presenceReport_time (edge : PresenceEdge) (s : State) :
    (presenceReport edge s).time = s.time := by
  unfold presenceReport
  repeat' split
  all_goals simp

@[simp] theorem presenceReport_lan (edge : PresenceEdge) (s : State) :
    (presenceReport edge s).lan = s.lan := by
  unfold presenceReport
  repeat' split
  all_goals simp

@[simp] theorem presenceReport_cls (edge : PresenceEdge) (s : State) :
    (presenceReport edge s).cls = s.cls := by
  unfold presenceReport
  repeat' split
  all_goals simp

@[simp] theorem presenceReport_cells (edge : PresenceEdge) (s : State) :
    (presenceReport edge s).cells = s.cells := by
  unfold presenceReport
  repeat' split
  all_goals simp

@[simp] theorem presenceReport_hold (edge : PresenceEdge) (s : State) :
    (presenceReport edge s).hold = s.hold := by
  unfold presenceReport
  repeat' split
  all_goals simp

@[simp] theorem presenceReport_ans (edge : PresenceEdge) (s : State) :
    (presenceReport edge s).ans = s.ans := by
  unfold presenceReport
  repeat' split
  all_goals simp

@[simp] theorem presenceReport_pac (edge : PresenceEdge) (s : State) :
    (presenceReport edge s).pac = s.pac := by
  unfold presenceReport
  repeat' split
  all_goals simp

@[simp] theorem presenceReport_share (edge : PresenceEdge) (s : State) :
    (presenceReport edge s).share = s.share := by
  unfold presenceReport
  repeat' split
  all_goals simp

@[simp] theorem presenceReport_host (edge : PresenceEdge) (s : State) :
    (presenceReport edge s).host = s.host := by
  unfold presenceReport
  repeat' split
  all_goals simp

@[simp] theorem presenceReport_mgmt (edge : PresenceEdge) (s : State) :
    (presenceReport edge s).mgmt = s.mgmt := by
  unfold presenceReport
  repeat' split
  all_goals simp

@[simp] theorem presenceReport_note (edge : PresenceEdge) (s : State) :
    (presenceReport edge s).note = s.note := by
  unfold presenceReport
  repeat' split
  all_goals simp

@[simp] theorem presenceReport_ret (edge : PresenceEdge) (s : State) :
    (presenceReport edge s).ret = s.ret := by
  unfold presenceReport
  repeat' split
  all_goals simp

@[simp] theorem presenceReport_cfg (edge : PresenceEdge) (s : State) :
    (presenceReport edge s).cfg = s.cfg := by
  unfold presenceReport
  repeat' split
  all_goals simp

@[simp] theorem presenceReport_choices (edge : PresenceEdge) (s : State) :
    (presenceReport edge s).choices = s.choices := by
  unfold presenceReport
  repeat' split
  all_goals simp

@[simp] theorem presenceReport_pending (edge : PresenceEdge) (s : State) :
    (presenceReport edge s).pending = s.pending := by
  unfold presenceReport
  repeat' split
  all_goals simp

@[simp] theorem takeDown_time (bay : Bay) (target : BayState) (s : State) :
    (takeDown bay target s).time = s.time := by
  unfold takeDown
  dsimp only
  repeat' split
  all_goals simp

@[simp] theorem takeDown_lan (bay : Bay) (target : BayState) (s : State) :
    (takeDown bay target s).lan = s.lan := by
  unfold takeDown
  dsimp only
  repeat' split
  all_goals simp

@[simp] theorem takeDown_cls (bay : Bay) (target : BayState) (s : State) :
    (takeDown bay target s).cls = s.cls := by
  unfold takeDown
  dsimp only
  repeat' split
  all_goals simp

@[simp] theorem takeDown_cells (bay : Bay) (target : BayState) (s : State) :
    (takeDown bay target s).cells = s.cells := by
  unfold takeDown
  dsimp only
  repeat' split
  all_goals simp

@[simp] theorem takeDown_pow (bay : Bay) (target : BayState) (s : State) :
    (takeDown bay target s).pow = s.pow := by
  unfold takeDown
  dsimp only
  repeat' split
  all_goals simp

@[simp] theorem takeDown_hold (bay : Bay) (target : BayState) (s : State) :
    (takeDown bay target s).hold = s.hold := by
  unfold takeDown
  dsimp only
  repeat' split
  all_goals simp

@[simp] theorem takeDown_ans (bay : Bay) (target : BayState) (s : State) :
    (takeDown bay target s).ans = s.ans := by
  unfold takeDown
  dsimp only
  repeat' split
  all_goals simp

@[simp] theorem takeDown_share (bay : Bay) (target : BayState) (s : State) :
    (takeDown bay target s).share = s.share := by
  unfold takeDown
  dsimp only
  repeat' split
  all_goals simp

@[simp] theorem takeDown_host (bay : Bay) (target : BayState) (s : State) :
    (takeDown bay target s).host = s.host := by
  unfold takeDown
  dsimp only
  repeat' split
  all_goals simp

@[simp] theorem takeDown_mgmt (bay : Bay) (target : BayState) (s : State) :
    (takeDown bay target s).mgmt = s.mgmt := by
  unfold takeDown
  dsimp only
  repeat' split
  all_goals simp

@[simp] theorem takeDown_note (bay : Bay) (target : BayState) (s : State) :
    (takeDown bay target s).note = s.note := by
  unfold takeDown
  dsimp only
  repeat' split
  all_goals simp

@[simp] theorem takeDown_ret (bay : Bay) (target : BayState) (s : State) :
    (takeDown bay target s).ret = s.ret := by
  unfold takeDown
  dsimp only
  repeat' split
  all_goals simp

@[simp] theorem takeDown_cfg (bay : Bay) (target : BayState) (s : State) :
    (takeDown bay target s).cfg = s.cfg := by
  unfold takeDown
  dsimp only
  repeat' split
  all_goals simp

@[simp] theorem takeDown_choices (bay : Bay) (target : BayState) (s : State) :
    (takeDown bay target s).choices = s.choices := by
  unfold takeDown
  dsimp only
  repeat' split
  all_goals simp

@[simp] theorem takeDown_pending (bay : Bay) (target : BayState) (s : State) :
    (takeDown bay target s).pending = s.pending := by
  unfold takeDown
  dsimp only
  repeat' split
  all_goals simp

@[simp] theorem bayLost_time (bay : Bay) (s : State) :
    (bayLost bay s).time = s.time := by simp [bayLost]

@[simp] theorem bayLost_cls (bay : Bay) (s : State) :
    (bayLost bay s).cls = s.cls := by simp [bayLost]

@[simp] theorem bayLost_cells (bay : Bay) (s : State) :
    (bayLost bay s).cells = s.cells := by simp [bayLost]

@[simp] theorem bayLost_pow (bay : Bay) (s : State) :
    (bayLost bay s).pow = s.pow := by simp [bayLost]

@[simp] theorem bayLost_hold (bay : Bay) (s : State) :
    (bayLost bay s).hold = s.hold := by simp [bayLost]

@[simp] theorem bayLost_share (bay : Bay) (s : State) :
    (bayLost bay s).share = s.share := by simp [bayLost]

@[simp] theorem bayLost_host (bay : Bay) (s : State) :
    (bayLost bay s).host = s.host := by simp [bayLost]

@[simp] theorem bayLost_mgmt (bay : Bay) (s : State) :
    (bayLost bay s).mgmt = s.mgmt := by simp [bayLost]

@[simp] theorem bayLost_ret (bay : Bay) (s : State) :
    (bayLost bay s).ret = s.ret := by simp [bayLost]

@[simp] theorem bayLost_cfg (bay : Bay) (s : State) :
    (bayLost bay s).cfg = s.cfg := by simp [bayLost]

@[simp] theorem bayLost_choices (bay : Bay) (s : State) :
    (bayLost bay s).choices = s.choices := by simp [bayLost]

@[simp] theorem bayLost_pending (bay : Bay) (s : State) :
    (bayLost bay s).pending = s.pending := by simp [bayLost]

@[simp] theorem declineOffer_time (h : Handover) (reason : DeclineReason) (s : State) :
    (declineOffer h reason s).time = s.time := by simp [declineOffer]

@[simp] theorem declineOffer_cls (h : Handover) (reason : DeclineReason) (s : State) :
    (declineOffer h reason s).cls = s.cls := by simp [declineOffer]

@[simp] theorem declineOffer_cells (h : Handover) (reason : DeclineReason) (s : State) :
    (declineOffer h reason s).cells = s.cells := by simp [declineOffer]

@[simp] theorem declineOffer_pow (h : Handover) (reason : DeclineReason) (s : State) :
    (declineOffer h reason s).pow = s.pow := by simp [declineOffer]

@[simp] theorem declineOffer_hold (h : Handover) (reason : DeclineReason) (s : State) :
    (declineOffer h reason s).hold = s.hold := by simp [declineOffer]

@[simp] theorem declineOffer_bay (h : Handover) (reason : DeclineReason) (s : State) :
    (declineOffer h reason s).bay = s.bay := by simp [declineOffer]

@[simp] theorem declineOffer_share (h : Handover) (reason : DeclineReason) (s : State) :
    (declineOffer h reason s).share = s.share := by simp [declineOffer]

@[simp] theorem declineOffer_host (h : Handover) (reason : DeclineReason) (s : State) :
    (declineOffer h reason s).host = s.host := by simp [declineOffer]

@[simp] theorem declineOffer_mgmt (h : Handover) (reason : DeclineReason) (s : State) :
    (declineOffer h reason s).mgmt = s.mgmt := by simp [declineOffer]

@[simp] theorem declineOffer_note (h : Handover) (reason : DeclineReason) (s : State) :
    (declineOffer h reason s).note = s.note := by simp [declineOffer]

@[simp] theorem declineOffer_ret (h : Handover) (reason : DeclineReason) (s : State) :
    (declineOffer h reason s).ret = s.ret := by simp [declineOffer]

@[simp] theorem declineOffer_cfg (h : Handover) (reason : DeclineReason) (s : State) :
    (declineOffer h reason s).cfg = s.cfg := by simp [declineOffer]

@[simp] theorem declineOffer_choices (h : Handover) (reason : DeclineReason) (s : State) :
    (declineOffer h reason s).choices = s.choices := by simp [declineOffer]

@[simp] theorem declineOffer_pending (h : Handover) (reason : DeclineReason) (s : State) :
    (declineOffer h reason s).pending = s.pending := by simp [declineOffer]

@[simp] theorem takeOffer_time (h : Handover) (s : State) :
    (takeOffer h s).time = s.time := by
  unfold takeOffer
  repeat' split
  all_goals simp

@[simp] theorem takeOffer_cls (h : Handover) (s : State) :
    (takeOffer h s).cls = s.cls := by
  unfold takeOffer
  repeat' split
  all_goals simp

@[simp] theorem takeOffer_cells (h : Handover) (s : State) :
    (takeOffer h s).cells = s.cells := by
  unfold takeOffer
  repeat' split
  all_goals simp

@[simp] theorem takeOffer_pow (h : Handover) (s : State) :
    (takeOffer h s).pow = s.pow := by
  unfold takeOffer
  repeat' split
  all_goals simp

@[simp] theorem takeOffer_hold (h : Handover) (s : State) :
    (takeOffer h s).hold = s.hold := by
  unfold takeOffer
  repeat' split
  all_goals simp

@[simp] theorem takeOffer_share (h : Handover) (s : State) :
    (takeOffer h s).share = s.share := by
  unfold takeOffer
  repeat' split
  all_goals simp

@[simp] theorem takeOffer_host (h : Handover) (s : State) :
    (takeOffer h s).host = s.host := by
  unfold takeOffer
  repeat' split
  all_goals simp

@[simp] theorem takeOffer_mgmt (h : Handover) (s : State) :
    (takeOffer h s).mgmt = s.mgmt := by
  unfold takeOffer
  repeat' split
  all_goals simp

@[simp] theorem takeOffer_note (h : Handover) (s : State) :
    (takeOffer h s).note = s.note := by
  unfold takeOffer
  repeat' split
  all_goals simp

@[simp] theorem takeOffer_ret (h : Handover) (s : State) :
    (takeOffer h s).ret = s.ret := by
  unfold takeOffer
  repeat' split
  all_goals simp

@[simp] theorem takeOffer_cfg (h : Handover) (s : State) :
    (takeOffer h s).cfg = s.cfg := by
  unfold takeOffer
  repeat' split
  all_goals simp

@[simp] theorem takeOffer_choices (h : Handover) (s : State) :
    (takeOffer h s).choices = s.choices := by
  unfold takeOffer
  repeat' split
  all_goals simp

@[simp] theorem takeOffer_pending (h : Handover) (s : State) :
    (takeOffer h s).pending = s.pending := by
  unfold takeOffer
  repeat' split
  all_goals simp

@[simp] theorem acceptBlock_time (i : Slot) (x : Session) (g : Grant) (h : Handover) (s : State) :
    (acceptBlock i x g h s).time = s.time := by simp [acceptBlock]

@[simp] theorem acceptBlock_lan (i : Slot) (x : Session) (g : Grant) (h : Handover) (s : State) :
    (acceptBlock i x g h s).lan = s.lan := by simp [acceptBlock]

@[simp] theorem acceptBlock_cls (i : Slot) (x : Session) (g : Grant) (h : Handover) (s : State) :
    (acceptBlock i x g h s).cls = s.cls := by simp [acceptBlock]

@[simp] theorem acceptBlock_pow (i : Slot) (x : Session) (g : Grant) (h : Handover) (s : State) :
    (acceptBlock i x g h s).pow = s.pow := by simp [acceptBlock]

@[simp] theorem acceptBlock_hold (i : Slot) (x : Session) (g : Grant) (h : Handover) (s : State) :
    (acceptBlock i x g h s).hold = s.hold := by simp [acceptBlock]

@[simp] theorem acceptBlock_ans (i : Slot) (x : Session) (g : Grant) (h : Handover) (s : State) :
    (acceptBlock i x g h s).ans = s.ans := by simp [acceptBlock]

@[simp] theorem acceptBlock_bay (i : Slot) (x : Session) (g : Grant) (h : Handover) (s : State) :
    (acceptBlock i x g h s).bay = s.bay := by simp [acceptBlock]

@[simp] theorem acceptBlock_share (i : Slot) (x : Session) (g : Grant) (h : Handover) (s : State) :
    (acceptBlock i x g h s).share = s.share := by simp [acceptBlock]

@[simp] theorem acceptBlock_mgmt (i : Slot) (x : Session) (g : Grant) (h : Handover) (s : State) :
    (acceptBlock i x g h s).mgmt = s.mgmt := by simp [acceptBlock]

@[simp] theorem acceptBlock_note (i : Slot) (x : Session) (g : Grant) (h : Handover) (s : State) :
    (acceptBlock i x g h s).note = s.note := by simp [acceptBlock]

@[simp] theorem acceptBlock_ret (i : Slot) (x : Session) (g : Grant) (h : Handover) (s : State) :
    (acceptBlock i x g h s).ret = s.ret := by simp [acceptBlock]

@[simp] theorem acceptBlock_cfg (i : Slot) (x : Session) (g : Grant) (h : Handover) (s : State) :
    (acceptBlock i x g h s).cfg = s.cfg := by simp [acceptBlock]

@[simp] theorem acceptBlock_choices (i : Slot) (x : Session) (g : Grant) (h : Handover) (s : State) :
    (acceptBlock i x g h s).choices = s.choices := by simp [acceptBlock]

@[simp] theorem acceptBlock_pending (i : Slot) (x : Session) (g : Grant) (h : Handover) (s : State) :
    (acceptBlock i x g h s).pending = s.pending := by simp [acceptBlock]

@[simp] theorem strayBlock_time (i : Slot) (x : Session) (s : State) :
    (strayBlock i x s).time = s.time := rfl

@[simp] theorem strayBlock_lan (i : Slot) (x : Session) (s : State) :
    (strayBlock i x s).lan = s.lan := rfl

@[simp] theorem strayBlock_cls (i : Slot) (x : Session) (s : State) :
    (strayBlock i x s).cls = s.cls := rfl

@[simp] theorem strayBlock_cells (i : Slot) (x : Session) (s : State) :
    (strayBlock i x s).cells = s.cells := rfl

@[simp] theorem strayBlock_pow (i : Slot) (x : Session) (s : State) :
    (strayBlock i x s).pow = s.pow := rfl

@[simp] theorem strayBlock_hold (i : Slot) (x : Session) (s : State) :
    (strayBlock i x s).hold = s.hold := rfl

@[simp] theorem strayBlock_ans (i : Slot) (x : Session) (s : State) :
    (strayBlock i x s).ans = s.ans := rfl

@[simp] theorem strayBlock_bay (i : Slot) (x : Session) (s : State) :
    (strayBlock i x s).bay = s.bay := rfl

@[simp] theorem strayBlock_share (i : Slot) (x : Session) (s : State) :
    (strayBlock i x s).share = s.share := rfl

@[simp] theorem strayBlock_host (i : Slot) (x : Session) (s : State) :
    (strayBlock i x s).host = s.host := rfl

@[simp] theorem strayBlock_mgmt (i : Slot) (x : Session) (s : State) :
    (strayBlock i x s).mgmt = s.mgmt := rfl

@[simp] theorem strayBlock_note (i : Slot) (x : Session) (s : State) :
    (strayBlock i x s).note = s.note := rfl

@[simp] theorem strayBlock_ret (i : Slot) (x : Session) (s : State) :
    (strayBlock i x s).ret = s.ret := rfl

@[simp] theorem strayBlock_cfg (i : Slot) (x : Session) (s : State) :
    (strayBlock i x s).cfg = s.cfg := rfl

@[simp] theorem strayBlock_choices (i : Slot) (x : Session) (s : State) :
    (strayBlock i x s).choices = s.choices := rfl

@[simp] theorem strayBlock_pending (i : Slot) (x : Session) (s : State) :
    (strayBlock i x s).pending = s.pending := rfl

@[simp] theorem takeBlock_time (h : Handover) (s : State) :
    (takeBlock h s).time = s.time := by
  unfold takeBlock
  repeat' split
  all_goals simp

@[simp] theorem takeBlock_lan (h : Handover) (s : State) :
    (takeBlock h s).lan = s.lan := by
  unfold takeBlock
  repeat' split
  all_goals simp

@[simp] theorem takeBlock_cls (h : Handover) (s : State) :
    (takeBlock h s).cls = s.cls := by
  unfold takeBlock
  repeat' split
  all_goals simp

@[simp] theorem takeBlock_pow (h : Handover) (s : State) :
    (takeBlock h s).pow = s.pow := by
  unfold takeBlock
  repeat' split
  all_goals simp

@[simp] theorem takeBlock_hold (h : Handover) (s : State) :
    (takeBlock h s).hold = s.hold := by
  unfold takeBlock
  repeat' split
  all_goals simp

@[simp] theorem takeBlock_ans (h : Handover) (s : State) :
    (takeBlock h s).ans = s.ans := by
  unfold takeBlock
  repeat' split
  all_goals simp

@[simp] theorem takeBlock_bay (h : Handover) (s : State) :
    (takeBlock h s).bay = s.bay := by
  unfold takeBlock
  repeat' split
  all_goals simp

@[simp] theorem takeBlock_share (h : Handover) (s : State) :
    (takeBlock h s).share = s.share := by
  unfold takeBlock
  repeat' split
  all_goals simp

@[simp] theorem takeBlock_mgmt (h : Handover) (s : State) :
    (takeBlock h s).mgmt = s.mgmt := by
  unfold takeBlock
  repeat' split
  all_goals simp

@[simp] theorem takeBlock_note (h : Handover) (s : State) :
    (takeBlock h s).note = s.note := by
  unfold takeBlock
  repeat' split
  all_goals simp

@[simp] theorem takeBlock_ret (h : Handover) (s : State) :
    (takeBlock h s).ret = s.ret := by
  unfold takeBlock
  repeat' split
  all_goals simp

@[simp] theorem takeBlock_cfg (h : Handover) (s : State) :
    (takeBlock h s).cfg = s.cfg := by
  unfold takeBlock
  repeat' split
  all_goals simp

@[simp] theorem takeBlock_choices (h : Handover) (s : State) :
    (takeBlock h s).choices = s.choices := by
  unfold takeBlock
  repeat' split
  all_goals simp

@[simp] theorem takeBlock_pending (h : Handover) (s : State) :
    (takeBlock h s).pending = s.pending := by
  unfold takeBlock
  repeat' split
  all_goals simp

@[simp] theorem takeWithdraw_time (h : Handover) (s : State) :
    (takeWithdraw h s).time = s.time := by
  unfold takeWithdraw
  repeat' split
  all_goals simp

@[simp] theorem takeWithdraw_cls (h : Handover) (s : State) :
    (takeWithdraw h s).cls = s.cls := by
  unfold takeWithdraw
  repeat' split
  all_goals simp

@[simp] theorem takeWithdraw_cells (h : Handover) (s : State) :
    (takeWithdraw h s).cells = s.cells := by
  unfold takeWithdraw
  repeat' split
  all_goals simp

@[simp] theorem takeWithdraw_pow (h : Handover) (s : State) :
    (takeWithdraw h s).pow = s.pow := by
  unfold takeWithdraw
  repeat' split
  all_goals simp

@[simp] theorem takeWithdraw_hold (h : Handover) (s : State) :
    (takeWithdraw h s).hold = s.hold := by
  unfold takeWithdraw
  repeat' split
  all_goals simp

@[simp] theorem takeWithdraw_share (h : Handover) (s : State) :
    (takeWithdraw h s).share = s.share := by
  unfold takeWithdraw
  repeat' split
  all_goals simp

@[simp] theorem takeWithdraw_host (h : Handover) (s : State) :
    (takeWithdraw h s).host = s.host := by
  unfold takeWithdraw
  repeat' split
  all_goals simp

@[simp] theorem takeWithdraw_mgmt (h : Handover) (s : State) :
    (takeWithdraw h s).mgmt = s.mgmt := by
  unfold takeWithdraw
  repeat' split
  all_goals simp

@[simp] theorem takeWithdraw_ret (h : Handover) (s : State) :
    (takeWithdraw h s).ret = s.ret := by
  unfold takeWithdraw
  repeat' split
  all_goals simp

@[simp] theorem takeWithdraw_cfg (h : Handover) (s : State) :
    (takeWithdraw h s).cfg = s.cfg := by
  unfold takeWithdraw
  repeat' split
  all_goals simp

@[simp] theorem takeWithdraw_choices (h : Handover) (s : State) :
    (takeWithdraw h s).choices = s.choices := by
  unfold takeWithdraw
  repeat' split
  all_goals simp

@[simp] theorem takeWithdraw_pending (h : Handover) (s : State) :
    (takeWithdraw h s).pending = s.pending := by
  unfold takeWithdraw
  repeat' split
  all_goals simp

@[simp] theorem haltIf_time (cond : State → Session → Bool) (slot : Slot) (cause : HaltCause) (s : State) :
    (haltIf cond slot cause s).time = s.time := by
  unfold haltIf
  repeat' split
  all_goals simp

@[simp] theorem haltIf_cls (cond : State → Session → Bool) (slot : Slot) (cause : HaltCause) (s : State) :
    (haltIf cond slot cause s).cls = s.cls := by
  unfold haltIf
  repeat' split
  all_goals simp

@[simp] theorem haltIf_cells (cond : State → Session → Bool) (slot : Slot) (cause : HaltCause) (s : State) :
    (haltIf cond slot cause s).cells = s.cells := by
  unfold haltIf
  repeat' split
  all_goals simp

@[simp] theorem haltIf_pow (cond : State → Session → Bool) (slot : Slot) (cause : HaltCause) (s : State) :
    (haltIf cond slot cause s).pow = s.pow := by
  unfold haltIf
  repeat' split
  all_goals simp

@[simp] theorem haltIf_hold (cond : State → Session → Bool) (slot : Slot) (cause : HaltCause) (s : State) :
    (haltIf cond slot cause s).hold = s.hold := by
  unfold haltIf
  repeat' split
  all_goals simp

@[simp] theorem haltIf_share (cond : State → Session → Bool) (slot : Slot) (cause : HaltCause) (s : State) :
    (haltIf cond slot cause s).share = s.share := by
  unfold haltIf
  repeat' split
  all_goals simp

@[simp] theorem haltIf_host (cond : State → Session → Bool) (slot : Slot) (cause : HaltCause) (s : State) :
    (haltIf cond slot cause s).host = s.host := by
  unfold haltIf
  repeat' split
  all_goals simp

@[simp] theorem haltIf_mgmt (cond : State → Session → Bool) (slot : Slot) (cause : HaltCause) (s : State) :
    (haltIf cond slot cause s).mgmt = s.mgmt := by
  unfold haltIf
  repeat' split
  all_goals simp

@[simp] theorem haltIf_ret (cond : State → Session → Bool) (slot : Slot) (cause : HaltCause) (s : State) :
    (haltIf cond slot cause s).ret = s.ret := by
  unfold haltIf
  repeat' split
  all_goals simp

@[simp] theorem haltIf_cfg (cond : State → Session → Bool) (slot : Slot) (cause : HaltCause) (s : State) :
    (haltIf cond slot cause s).cfg = s.cfg := by
  unfold haltIf
  repeat' split
  all_goals simp

@[simp] theorem haltIf_choices (cond : State → Session → Bool) (slot : Slot) (cause : HaltCause) (s : State) :
    (haltIf cond slot cause s).choices = s.choices := by
  unfold haltIf
  repeat' split
  all_goals simp

@[simp] theorem haltIf_pending (cond : State → Session → Bool) (slot : Slot) (cause : HaltCause) (s : State) :
    (haltIf cond slot cause s).pending = s.pending := by
  unfold haltIf
  repeat' split
  all_goals simp

@[simp] theorem expireGrant_time (slot : Slot) (x : Session) (g : Grant) (s : State) :
    (expireGrant slot x g s).time = s.time := by
  unfold expireGrant
  dsimp only
  repeat' split
  all_goals simp

@[simp] theorem expireGrant_cls (slot : Slot) (x : Session) (g : Grant) (s : State) :
    (expireGrant slot x g s).cls = s.cls := by
  unfold expireGrant
  dsimp only
  repeat' split
  all_goals simp

@[simp] theorem expireGrant_cells (slot : Slot) (x : Session) (g : Grant) (s : State) :
    (expireGrant slot x g s).cells = s.cells := by
  unfold expireGrant
  dsimp only
  repeat' split
  all_goals simp

@[simp] theorem expireGrant_pow (slot : Slot) (x : Session) (g : Grant) (s : State) :
    (expireGrant slot x g s).pow = s.pow := by
  unfold expireGrant
  dsimp only
  repeat' split
  all_goals simp

@[simp] theorem expireGrant_hold (slot : Slot) (x : Session) (g : Grant) (s : State) :
    (expireGrant slot x g s).hold = s.hold := by
  unfold expireGrant
  dsimp only
  repeat' split
  all_goals simp

@[simp] theorem expireGrant_share (slot : Slot) (x : Session) (g : Grant) (s : State) :
    (expireGrant slot x g s).share = s.share := by
  unfold expireGrant
  dsimp only
  repeat' split
  all_goals simp

@[simp] theorem expireGrant_host (slot : Slot) (x : Session) (g : Grant) (s : State) :
    (expireGrant slot x g s).host = s.host := by
  unfold expireGrant
  dsimp only
  repeat' split
  all_goals simp

@[simp] theorem expireGrant_mgmt (slot : Slot) (x : Session) (g : Grant) (s : State) :
    (expireGrant slot x g s).mgmt = s.mgmt := by
  unfold expireGrant
  dsimp only
  repeat' split
  all_goals simp

@[simp] theorem expireGrant_ret (slot : Slot) (x : Session) (g : Grant) (s : State) :
    (expireGrant slot x g s).ret = s.ret := by
  unfold expireGrant
  dsimp only
  repeat' split
  all_goals simp

@[simp] theorem expireGrant_cfg (slot : Slot) (x : Session) (g : Grant) (s : State) :
    (expireGrant slot x g s).cfg = s.cfg := by
  unfold expireGrant
  dsimp only
  repeat' split
  all_goals simp

@[simp] theorem expireGrant_choices (slot : Slot) (x : Session) (g : Grant) (s : State) :
    (expireGrant slot x g s).choices = s.choices := by
  unfold expireGrant
  dsimp only
  repeat' split
  all_goals simp

@[simp] theorem expireGrant_pending (slot : Slot) (x : Session) (g : Grant) (s : State) :
    (expireGrant slot x g s).pending = s.pending := by
  unfold expireGrant
  dsimp only
  repeat' split
  all_goals simp

@[simp] theorem forwardToLan_time (data : List Byte) (s : State) :
    (forwardToLan data s).time = s.time := by
  unfold forwardToLan
  repeat' split
  all_goals simp

@[simp] theorem forwardToLan_cls (data : List Byte) (s : State) :
    (forwardToLan data s).cls = s.cls := by
  unfold forwardToLan
  repeat' split
  all_goals simp

@[simp] theorem forwardToLan_cells (data : List Byte) (s : State) :
    (forwardToLan data s).cells = s.cells := by
  unfold forwardToLan
  repeat' split
  all_goals simp

@[simp] theorem forwardToLan_pow (data : List Byte) (s : State) :
    (forwardToLan data s).pow = s.pow := by
  unfold forwardToLan
  repeat' split
  all_goals simp

@[simp] theorem forwardToLan_hold (data : List Byte) (s : State) :
    (forwardToLan data s).hold = s.hold := by
  unfold forwardToLan
  repeat' split
  all_goals simp

@[simp] theorem forwardToLan_bay (data : List Byte) (s : State) :
    (forwardToLan data s).bay = s.bay := by
  unfold forwardToLan
  repeat' split
  all_goals simp

@[simp] theorem forwardToLan_share (data : List Byte) (s : State) :
    (forwardToLan data s).share = s.share := by
  unfold forwardToLan
  repeat' split
  all_goals simp

@[simp] theorem forwardToLan_host (data : List Byte) (s : State) :
    (forwardToLan data s).host = s.host := by
  unfold forwardToLan
  repeat' split
  all_goals simp

@[simp] theorem forwardToLan_mgmt (data : List Byte) (s : State) :
    (forwardToLan data s).mgmt = s.mgmt := by
  unfold forwardToLan
  repeat' split
  all_goals simp

@[simp] theorem forwardToLan_note (data : List Byte) (s : State) :
    (forwardToLan data s).note = s.note := by
  unfold forwardToLan
  repeat' split
  all_goals simp

@[simp] theorem forwardToLan_ret (data : List Byte) (s : State) :
    (forwardToLan data s).ret = s.ret := by
  unfold forwardToLan
  repeat' split
  all_goals simp

@[simp] theorem forwardToLan_cfg (data : List Byte) (s : State) :
    (forwardToLan data s).cfg = s.cfg := by
  unfold forwardToLan
  repeat' split
  all_goals simp

@[simp] theorem forwardToLan_choices (data : List Byte) (s : State) :
    (forwardToLan data s).choices = s.choices := by
  unfold forwardToLan
  repeat' split
  all_goals simp

@[simp] theorem forwardToLan_pending (data : List Byte) (s : State) :
    (forwardToLan data s).pending = s.pending := by
  unfold forwardToLan
  repeat' split
  all_goals simp

@[simp] theorem reportSent_time (sent : HostSending) (s : State) :
    (reportSent sent s).time = s.time := by
  unfold reportSent
  repeat' split
  all_goals simp

@[simp] theorem reportSent_cls (sent : HostSending) (s : State) :
    (reportSent sent s).cls = s.cls := by
  unfold reportSent
  repeat' split
  all_goals simp

@[simp] theorem reportSent_pow (sent : HostSending) (s : State) :
    (reportSent sent s).pow = s.pow := by
  unfold reportSent
  repeat' split
  all_goals simp

@[simp] theorem reportSent_share (sent : HostSending) (s : State) :
    (reportSent sent s).share = s.share := by
  unfold reportSent
  repeat' split
  all_goals simp

@[simp] theorem reportSent_mgmt (sent : HostSending) (s : State) :
    (reportSent sent s).mgmt = s.mgmt := by
  unfold reportSent
  repeat' split
  all_goals simp

@[simp] theorem reportSent_ret (sent : HostSending) (s : State) :
    (reportSent sent s).ret = s.ret := by
  unfold reportSent
  repeat' split
  all_goals simp

@[simp] theorem reportSent_cfg (sent : HostSending) (s : State) :
    (reportSent sent s).cfg = s.cfg := by
  unfold reportSent
  repeat' split
  all_goals simp

@[simp] theorem reportSent_choices (sent : HostSending) (s : State) :
    (reportSent sent s).choices = s.choices := by
  unfold reportSent
  repeat' split
  all_goals simp

@[simp] theorem reportSent_pending (sent : HostSending) (s : State) :
    (reportSent sent s).pending = s.pending := by
  unfold reportSent
  repeat' split
  all_goals simp

@[simp] theorem tickTimers_time (s : State) :
    (tickTimers s).time = s.time := rfl

@[simp] theorem tickTimers_lan (s : State) :
    (tickTimers s).lan = s.lan := rfl

@[simp] theorem tickTimers_cls (s : State) :
    (tickTimers s).cls = s.cls := rfl

@[simp] theorem tickTimers_cells (s : State) :
    (tickTimers s).cells = s.cells := rfl

@[simp] theorem tickTimers_hold (s : State) :
    (tickTimers s).hold = s.hold := rfl

@[simp] theorem tickTimers_host (s : State) :
    (tickTimers s).host = s.host := rfl

@[simp] theorem tickTimers_mgmt (s : State) :
    (tickTimers s).mgmt = s.mgmt := rfl

@[simp] theorem tickTimers_note (s : State) :
    (tickTimers s).note = s.note := rfl

@[simp] theorem tickTimers_ret (s : State) :
    (tickTimers s).ret = s.ret := rfl

@[simp] theorem tickTimers_cfg (s : State) :
    (tickTimers s).cfg = s.cfg := rfl

@[simp] theorem tickTimers_choices (s : State) :
    (tickTimers s).choices = s.choices := rfl

@[simp] theorem tickTimers_pending (s : State) :
    (tickTimers s).pending = s.pending := rfl

@[simp] theorem markStale_time (s : State) :
    (markStale s).time = s.time := rfl

@[simp] theorem markStale_lan (s : State) :
    (markStale s).lan = s.lan := rfl

@[simp] theorem markStale_cls (s : State) :
    (markStale s).cls = s.cls := rfl

@[simp] theorem markStale_cells (s : State) :
    (markStale s).cells = s.cells := rfl

@[simp] theorem markStale_pow (s : State) :
    (markStale s).pow = s.pow := rfl

@[simp] theorem markStale_ans (s : State) :
    (markStale s).ans = s.ans := rfl

@[simp] theorem markStale_bay (s : State) :
    (markStale s).bay = s.bay := rfl

@[simp] theorem markStale_pac (s : State) :
    (markStale s).pac = s.pac := rfl

@[simp] theorem markStale_share (s : State) :
    (markStale s).share = s.share := rfl

@[simp] theorem markStale_host (s : State) :
    (markStale s).host = s.host := rfl

@[simp] theorem markStale_mgmt (s : State) :
    (markStale s).mgmt = s.mgmt := rfl

@[simp] theorem markStale_note (s : State) :
    (markStale s).note = s.note := rfl

@[simp] theorem markStale_ret (s : State) :
    (markStale s).ret = s.ret := rfl

@[simp] theorem markStale_cfg (s : State) :
    (markStale s).cfg = s.cfg := rfl

@[simp] theorem markStale_choices (s : State) :
    (markStale s).choices = s.choices := rfl

@[simp] theorem markStale_pending (s : State) :
    (markStale s).pending = s.pending := rfl

@[simp] theorem tickClock_time (s : State) :
    (tickClock s).time = s.time := by
  unfold tickClock
  repeat' split
  all_goals simp

@[simp] theorem tickClock_lan (s : State) :
    (tickClock s).lan = s.lan := by
  unfold tickClock
  repeat' split
  all_goals simp

@[simp] theorem tickClock_cls (s : State) :
    (tickClock s).cls = s.cls := by
  unfold tickClock
  repeat' split
  all_goals simp

@[simp] theorem tickClock_cells (s : State) :
    (tickClock s).cells = s.cells := by
  unfold tickClock
  repeat' split
  all_goals simp

@[simp] theorem tickClock_hold (s : State) :
    (tickClock s).hold = s.hold := by
  unfold tickClock
  repeat' split
  all_goals simp

@[simp] theorem tickClock_ans (s : State) :
    (tickClock s).ans = s.ans := by
  unfold tickClock
  repeat' split
  all_goals simp

@[simp] theorem tickClock_pac (s : State) :
    (tickClock s).pac = s.pac := by
  unfold tickClock
  repeat' split
  all_goals simp

@[simp] theorem tickClock_share (s : State) :
    (tickClock s).share = s.share := by
  unfold tickClock
  repeat' split
  all_goals simp

@[simp] theorem tickClock_host (s : State) :
    (tickClock s).host = s.host := by
  unfold tickClock
  repeat' split
  all_goals simp

@[simp] theorem tickClock_mgmt (s : State) :
    (tickClock s).mgmt = s.mgmt := by
  unfold tickClock
  repeat' split
  all_goals simp

@[simp] theorem tickClock_ret (s : State) :
    (tickClock s).ret = s.ret := by
  unfold tickClock
  repeat' split
  all_goals simp

@[simp] theorem tickClock_cfg (s : State) :
    (tickClock s).cfg = s.cfg := by
  unfold tickClock
  repeat' split
  all_goals simp

@[simp] theorem tickClock_choices (s : State) :
    (tickClock s).choices = s.choices := by
  unfold tickClock
  repeat' split
  all_goals simp

@[simp] theorem tickClock_pending (s : State) :
    (tickClock s).pending = s.pending := by
  unfold tickClock
  repeat' split
  all_goals simp

@[simp] theorem tickMs_lan (s : State) :
    (tickMs s).lan = s.lan := by simp [tickMs]

@[simp] theorem tickMs_cls (s : State) :
    (tickMs s).cls = s.cls := by simp [tickMs]

@[simp] theorem tickMs_cells (s : State) :
    (tickMs s).cells = s.cells := by simp [tickMs]

@[simp] theorem tickMs_host (s : State) :
    (tickMs s).host = s.host := by simp [tickMs]

@[simp] theorem tickMs_mgmt (s : State) :
    (tickMs s).mgmt = s.mgmt := by simp [tickMs]

@[simp] theorem tickMs_ret (s : State) :
    (tickMs s).ret = s.ret := by simp [tickMs]

@[simp] theorem tickMs_cfg (s : State) :
    (tickMs s).cfg = s.cfg := by simp [tickMs]

@[simp] theorem tickMs_choices (s : State) :
    (tickMs s).choices = s.choices := by simp [tickMs]

@[simp] theorem tickMs_pending (s : State) :
    (tickMs s).pending = s.pending := by simp [tickMs]

@[simp] theorem tick_lan (s : State) :
    (tick s).lan = s.lan := by
  unfold tick
  dsimp only
  repeat' split
  all_goals simp

@[simp] theorem tick_cls (s : State) :
    (tick s).cls = s.cls := by
  unfold tick
  dsimp only
  repeat' split
  all_goals simp

@[simp] theorem tick_cells (s : State) :
    (tick s).cells = s.cells := by
  unfold tick
  dsimp only
  repeat' split
  all_goals simp

@[simp] theorem tick_host (s : State) :
    (tick s).host = s.host := by
  unfold tick
  dsimp only
  repeat' split
  all_goals simp

@[simp] theorem tick_mgmt (s : State) :
    (tick s).mgmt = s.mgmt := by
  unfold tick
  dsimp only
  repeat' split
  all_goals simp

@[simp] theorem tick_ret (s : State) :
    (tick s).ret = s.ret := by
  unfold tick
  dsimp only
  repeat' split
  all_goals simp

@[simp] theorem tick_cfg (s : State) :
    (tick s).cfg = s.cfg := by
  unfold tick
  dsimp only
  repeat' split
  all_goals simp

@[simp] theorem tick_choices (s : State) :
    (tick s).choices = s.choices := by
  unfold tick
  dsimp only
  repeat' split
  all_goals simp

@[simp] theorem tick_pending (s : State) :
    (tick s).pending = s.pending := by
  unfold tick
  dsimp only
  repeat' split
  all_goals simp

/-! ## The minute-of-week clock and the stale flags -/

@[simp] theorem setSource_clock (p : Power) (name : WakeName) (w : WakeSource) :
    (p.setSource name w).clock = p.clock := by cases name <;> rfl

@[simp] theorem latchWake_clock (name : WakeName) (bays : BaySet) (s : State) :
    (latchWake name bays s).pow.clock = s.pow.clock := by simp [latchWake]

@[simp] theorem startWake_clock (s : State) : (startWake s).pow.clock = s.pow.clock := by
  simp [startWake, enterRailSettle]

@[simp] theorem wakeEvent_clock (name : WakeName) (bays : BaySet) (s : State) :
    (wakeEvent name bays s).pow.clock = s.pow.clock := by
  unfold wakeEvent
  repeat' split
  all_goals simp

/-- Where a SET clock stands after it has entered a minute (R52). -/
theorem enterMinute_clock (s : State) (h : s.pow.clock.set = true) :
    (enterMinute s).pow.clock = { minute := nextMinute s.pow.clock.minute, count := 0, set := true, due := false } := by
  unfold enterMinute
  rw [if_pos h]
  dsimp only
  repeat' split
  all_goals simp

/-- All that a tick does to the clock and by it: count, make a minute due, or enter the minute that was due (R52). -/
theorem tickClock_cases (s : State) :
    (s.pow.clock.set = false ∧ tickClock s = s) ∨
    (s.pow.clock.set = true ∧ s.pow.clock.due = false ∧
      tickClock s =
        { s with
          pow.clock :=
            if s.pow.clock.count + 1 < 60000 then { s.pow.clock with count := s.pow.clock.count + 1 }
            else { s.pow.clock with due := true } }) ∨
    (s.pow.clock.set = true ∧ s.pow.clock.due = true ∧
      tickClock s = { enterMinute s with pow.clock.count := 1 } ∧
      (tickClock s).pow.clock =
        { minute := nextMinute s.pow.clock.minute, count := 1, set := true, due := false }) := by
  cases hs : s.pow.clock.set
  · exact .inl ⟨rfl, by simp [tickClock, hs]⟩
  · cases hd : s.pow.clock.due
    · refine .inr (.inl ⟨rfl, rfl, ?_⟩)
      unfold tickClock
      rw [if_pos hs, if_neg (by simp [hd])]
      split <;> rfl
    · exact .inr (.inr ⟨rfl, rfl, by simp [tickClock, hs, hd], by simp [tickClock, hs, hd, enterMinute_clock]⟩)

/-- What a moment does to a held record: its stale flag alone, set where the age exceeds the limit (R67). -/
theorem HeldRecord.aged_eq (limit : Nat) (now : Word32) (r : HeldRecord) :
    r.aged limit now = { r with stale := r.stale || decide (limit * 1000 < r.age now) } := by
  unfold HeldRecord.aged
  split <;> simp [*]

end Sys2Proof.Machine
end

