-- ==== Sys2Proof/Laws/Memory.lean ====
section
/-! SUPPORT. The cells' contents: every operation keeps the canonical form, and a byte read after a write is the byte
written, or, outside the bytes written, the byte that was there. -/

namespace Sys2Proof.Machine

/-! ## The canonical form -/

/-- A lower bound may be lowered. -/
theorem Memory.risingFrom_mono {low high : Nat} {m : Memory} (h : low ≤ high)
    (hm : Memory.risingFrom high m = true) : Memory.risingFrom low m = true := by
  cases m with
  | nil => rfl
  | cons c cs =>
    simp only [Memory.risingFrom, Bool.and_eq_true, decide_eq_true_eq] at hm ⊢
    exact ⟨⟨⟨by omega, hm.1.1.2⟩, hm.1.2⟩, hm.2⟩

/-- A filtered list rises from the same bound. -/
theorem Memory.risingFrom_filter (p : Host.Cell → Bool) {low : Nat} {m : Memory}
    (h : Memory.risingFrom low m = true) : Memory.risingFrom low (m.filter p) = true := by
  induction m generalizing low with
  | nil => rfl
  | cons c cs ih =>
    simp only [Memory.risingFrom, Bool.and_eq_true, decide_eq_true_eq] at h
    by_cases hp : p c
    · simp only [List.filter_cons, hp, if_true, Memory.risingFrom, Bool.and_eq_true, decide_eq_true_eq]
      exact ⟨⟨h.1.1, h.1.2⟩, ih h.2⟩
    · simp only [List.filter_cons, hp]
      exact Memory.risingFrom_mono (by omega) (ih h.2)

/-- Two rising lists join where every address of the first lies below the bound of the second. -/
theorem Memory.risingFrom_append {low mid : Nat} {m₁ m₂ : Memory} (h₁ : Memory.risingFrom low m₁ = true)
    (hlt : ∀ c ∈ m₁, c.1 < mid) (h₂ : Memory.risingFrom mid m₂ = true) (hlow : low ≤ mid) :
    Memory.risingFrom low (m₁ ++ m₂) = true := by
  induction m₁ generalizing low with
  | nil => exact Memory.risingFrom_mono hlow h₂
  | cons c cs ih =>
    simp only [Memory.risingFrom, Bool.and_eq_true, decide_eq_true_eq] at h₁
    simp only [List.cons_append, Memory.risingFrom, Bool.and_eq_true, decide_eq_true_eq]
    exact ⟨⟨h₁.1.1, h₁.1.2⟩, ih h₁.2 (fun d hd => hlt d (List.mem_cons_of_mem _ hd))
      (hlt c List.mem_cons_self)⟩

/-- Every address of a rising list lies at or above its bound. -/
theorem Memory.risingFrom_le {low : Nat} {m : Memory} (h : Memory.risingFrom low m = true) :
    ∀ c ∈ m, low ≤ c.1 := by
  induction m generalizing low with
  | nil => simp
  | cons c cs ih =>
    simp only [Memory.risingFrom, Bool.and_eq_true, decide_eq_true_eq] at h
    intro d hd
    rcases List.mem_cons.mp hd with rfl | hd
    · exact h.1.1.1
    · have := ih h.2 d hd
      omega

/-- A list whose addresses all lie at or above a higher bound rises from that bound. -/
theorem Memory.risingFrom_raise {low high : Nat} {m : Memory} (h : Memory.risingFrom low m = true)
    (hge : ∀ c ∈ m, high ≤ c.1) : Memory.risingFrom high m = true := by
  cases m with
  | nil => rfl
  | cons c cs =>
    simp only [Memory.risingFrom, Bool.and_eq_true, decide_eq_true_eq] at h ⊢
    exact ⟨⟨⟨hge c List.mem_cons_self, h.1.1.2⟩, h.1.2⟩, h.2⟩

/-- The entries for stored bytes rise from the first address. -/
theorem risingFrom_entriesFor (address : Nat) (bytes : List Byte) :
    Memory.risingFrom address (entriesFor address bytes) = true := by
  induction bytes generalizing address with
  | nil => rfl
  | cons b bs ih =>
    unfold entriesFor
    split
    · exact Memory.risingFrom_mono (by omega) (ih _)
    · rename_i h
      simp only [not_or, not_le] at h
      simp only [Memory.risingFrom, Bool.and_eq_true, decide_eq_true_eq]
      exact ⟨⟨⟨le_refl _, h.2⟩, h.1⟩, ih _⟩

/-- The entries for stored bytes lie below the address behind the last byte. -/
theorem entriesFor_lt (address : Nat) (bytes : List Byte) :
    ∀ c ∈ entriesFor address bytes, c.1 < address + bytes.length := by
  induction bytes generalizing address with
  | nil => simp [entriesFor]
  | cons b bs ih =>
    intro c hc
    unfold entriesFor at hc
    simp only [List.length_cons]
    split at hc
    · have := ih _ c hc
      omega
    · rcases List.mem_cons.mp hc with rfl | hc
      · simp
      · have := ih _ c hc
        omega

/-- Storing bytes keeps the canonical form. -/
theorem Memory.wf_writeRun {m : Memory} (address : Nat) (bytes : List Byte) (h : m.wf = true) :
    (m.writeRun address bytes).wf = true := by
  unfold Memory.wf Memory.writeRun at *
  have hleft : Memory.risingFrom 0 (m.filter fun c => decide (c.1 < address)) = true := Memory.risingFrom_filter _ h
  have hright : Memory.risingFrom (address + bytes.length)
      (m.filter fun c => decide (address + bytes.length ≤ c.1)) = true := by
    apply Memory.risingFrom_raise (Memory.risingFrom_filter _ h)
    intro c hc
    simpa using (List.mem_filter.mp hc).2
  rw [List.append_assoc]
  apply Memory.risingFrom_append hleft (mid := address)
  · intro c hc
    simpa using (List.mem_filter.mp hc).2
  · exact Memory.risingFrom_append (risingFrom_entriesFor address bytes) (entriesFor_lt address bytes) hright (by omega)
  · omega

/-- Writing a frame into the ring keeps the canonical form. -/
theorem wf_writeRing {m : Memory} (p : Partition) (t : Nat) (bytes : List Byte) (h : m.wf = true) :
    (writeRing m p t bytes).wf = true :=
  Memory.wf_writeRun _ _ (Memory.wf_writeRun _ _ h)

/-! ## Reading after a write -/

/-- No byte is found at an address that no entry has. -/
theorem Memory.read_eq_zero {m : Memory} {a : Nat} (h : ∀ c ∈ m, c.1 ≠ a) : m.read a = 0 := by
  unfold Memory.read
  rw [List.find?_eq_none.mpr]
  intro c hc
  simpa using h c hc

/-- A byte is read in the first of two lists that has its address. -/
theorem Memory.read_append_left {m₁ m₂ : Memory} {a : Nat} (h : ∀ c ∈ m₂, c.1 ≠ a) :
    Memory.read (m₁ ++ m₂) a = Memory.read m₁ a := by
  unfold Memory.read
  rw [List.find?_append]
  cases hf : m₁.find? (fun c => c.1 == a) with
  | some c => rfl
  | none =>
    have : m₂.find? (fun c => c.1 == a) = none := by
      rw [List.find?_eq_none]
      intro c hc
      simpa using h c hc
    simp [this]

/-- A byte is read in the second of two lists when the first does not have its address. -/
theorem Memory.read_append_right {m₁ m₂ : Memory} {a : Nat} (h : ∀ c ∈ m₁, c.1 ≠ a) :
    Memory.read (m₁ ++ m₂) a = Memory.read m₂ a := by
  unfold Memory.read
  rw [List.find?_append]
  have : m₁.find? (fun c => c.1 == a) = none := by
    rw [List.find?_eq_none]
    intro c hc
    simpa using h c hc
  simp [this]

/-- A filter that keeps every entry of an address leaves the byte read there. -/
theorem Memory.read_filter {m : Memory} {a : Nat} (p : Host.Cell → Bool) (h : ∀ c : Host.Cell, c.1 = a → p c = true) :
    Memory.read (m.filter p) a = m.read a := by
  unfold Memory.read
  rw [List.find?_filter]
  congr 1
  congr 1
  funext c
  by_cases hc : c.1 = a
  · simp [hc, h c hc]
  · simp [hc]

/-- The byte that stored bytes give at an address. -/
theorem read_entriesFor (address : Nat) (bytes : List Byte) (a : Nat) (hs : a < storeBytes) (hlow : address ≤ a)
    (hhigh : a < address + bytes.length) : Memory.read (entriesFor address bytes) a = bytes.getD (a - address) 0 := by
  induction bytes generalizing address with
  | nil => simp at hhigh; omega
  | cons b bs ih =>
    simp only [List.length_cons] at hhigh
    unfold entriesFor
    by_cases ha : a = address
    · subst ha
      split
      · rename_i h
        rcases h with rfl | h
        · rw [Memory.read_eq_zero]
          · simp
          · intro c hc
            have := Memory.risingFrom_le (risingFrom_entriesFor (a + 1) bs) c hc
            omega
        · omega
      · simp [Memory.read]
    · have hstep : a - address = (a - (address + 1)) + 1 := by omega
      have hrest := ih (address + 1) (by omega) (by omega)
      rw [hstep]
      split
      · simpa using hrest
      · rw [show ((address, b) :: entriesFor (address + 1) bs : Memory) = [(address, b)] ++ entriesFor (address + 1) bs
          from rfl, Memory.read_append_right]
        · simpa using hrest
        · simp; omega

/-- What a stored run gives back: the byte stored at its address, and elsewhere the byte that was there. -/
theorem Memory.read_writeRun (m : Memory) (address : Nat) (bytes : List Byte) (a : Nat) (hs : a < storeBytes) :
    (m.writeRun address bytes).read a =
      if address ≤ a ∧ a < address + bytes.length then bytes.getD (a - address) 0 else m.read a := by
  unfold Memory.writeRun
  have hmid : ∀ c ∈ entriesFor address bytes, address ≤ c.1 ∧ c.1 < address + bytes.length := fun c hc =>
    ⟨Memory.risingFrom_le (risingFrom_entriesFor address bytes) c hc, entriesFor_lt address bytes c hc⟩
  by_cases hlow : a < address
  · rw [if_neg (by omega), List.append_assoc, Memory.read_append_left, Memory.read_filter]
    · intro c hc; simp; omega
    · intro c hc
      rcases List.mem_append.mp hc with h | h
      · have := hmid c h; omega
      · have : address + bytes.length ≤ c.1 := by simpa using (List.mem_filter.mp h).2
        omega
  · by_cases hhigh : a < address + bytes.length
    · rw [if_pos ⟨by omega, hhigh⟩, Memory.read_append_left, Memory.read_append_right,
        read_entriesFor address bytes a hs (by omega) hhigh]
      · intro c hc
        have : c.1 < address := by simpa using (List.mem_filter.mp hc).2
        omega
      · intro c hc
        have : address + bytes.length ≤ c.1 := by simpa using (List.mem_filter.mp hc).2
        omega
    · rw [if_neg (by omega), Memory.read_append_right, Memory.read_filter]
      · intro c hc; simp; omega
      · intro c hc
        rcases List.mem_append.mp hc with h | h
        · have : c.1 < address := by simpa using (List.mem_filter.mp h).2
          omega
        · have := hmid c h; omega

/-- The bytes read from an address on, one by one. -/
theorem Memory.readRun_eq_map (m : Memory) (address n : Nat) :
    m.readRun address n = (List.range n).map fun k => m.read (address + k) := by
  induction n generalizing address with
  | zero => rfl
  | succ n ih =>
    rw [Memory.readRun, ih, List.range_succ_eq_map]
    simp [Function.comp_def, Nat.add_comm, Nat.add_left_comm]

/-- A run read has as many bytes as were asked for. -/
@[simp] theorem Memory.length_readRun (m : Memory) (address n : Nat) : (m.readRun address n).length = n := by
  simp [Memory.readRun_eq_map]

/-- Stored bytes are read back, where they lie within the store. -/
theorem Memory.readRun_writeRun (m : Memory) (address : Nat) (bytes : List Byte)
    (h : address + bytes.length ≤ storeBytes) : (m.writeRun address bytes).readRun address bytes.length = bytes := by
  rw [Memory.readRun_eq_map]
  apply List.ext_getElem
  · simp
  · intro k hk _
    simp only [List.length_map, List.length_range] at hk
    rw [List.getElem_map, List.getElem_range, Memory.read_writeRun _ _ _ _ (by omega), if_pos (by omega)]
    simp [List.getD_eq_getElem?_getD, hk]

end Sys2Proof.Machine
end

