-- ==== Sys2Proof/Laws/Requests.lean ====
section
/-! SUPPORT. Taking a management request, the egress arbiters and the pacing-message queue: for each, once, everything it
can do. -/

namespace Sys2Proof.Machine

/-! ## The arbiters -/

/-- A busy host link starts no frame. -/
theorem hostKick_busy {s : State} (h : s.host.sending.isSome = true) : hostKick s = s := by
  cases hs : s.host.sending <;> simp_all [hostKick]

/-- A DOWN H-port starts no frame. -/
theorem hostKick_down {s : State} (h : s.host.up = false) : hostKick s = s := by
  simp [hostKick, h]

/-- An idle host link with nothing waiting stays idle. -/
theorem hostKick_empty {s : State} (hr : s.host.responses = []) (hl : s.host.lpath = [])
    (hd : s.pac.delivery = none) : hostKick s = s := by
  unfold hostKick
  split
  · rw [hr, hl, hd]
  · rfl

/-- A busy LAN starts no frame. -/
theorem lanKick_busy {s : State} (h : s.lan.sending.isSome = true) : lanKick s = s := by
  cases hs : s.lan.sending <;> simp_all [lanKick]

/-- A DOWN LAN link starts no frame. -/
theorem lanKick_down {s : State} (h : s.lan.up = false) : lanKick s = s := by
  simp [lanKick, h]

/-- An idle LAN with nothing waiting stays idle. -/
theorem lanKick_empty {s : State} (hq : s.pac.queue = []) (ha : s.ans.answers = [])
    (hf : s.lan.hostFrames = []) : lanKick s = s := by
  unfold lanKick
  split
  · rw [hq, ha, hf]
  · rfl

/-- A response with the H-port UP and the host link busy joins the tail of the response queue. -/
theorem queueResponse_busy {s : State} (data : List Byte) (hu : s.host.up = true)
    (h : s.host.sending.isSome = true) :
    queueResponse data s = { s with host.responses := s.host.responses ++ [data] } := by
  unfold queueResponse
  rw [if_pos hu]
  exact hostKick_busy h

/-- A response with the H-port DOWN is discarded. -/
theorem queueResponse_down {s : State} (data : List Byte) (hu : s.host.up = false) : queueResponse data s = s := by
  simp [queueResponse, hu]

/-- A message for which the queue has room, with the LAN busy, joins the tail. -/
theorem queueMsg_busy {s : State} {m : PacingMsg} (hr : s.pac.queue.length < m.kind.room)
    (h : s.lan.sending.isSome = true) : queueMsg m s = { s with pac.queue := s.pac.queue ++ [m] } := by
  unfold queueMsg
  rw [if_pos hr]
  exact lanKick_busy h

/-- A message for which the queue has no room is counted as lost. -/
theorem queueMsg_full {s : State} {m : PacingMsg} (hr : m.kind.room ≤ s.pac.queue.length) :
    queueMsg m s = { s with pac.replyLost := satAdd s.pac.replyLost 1 } := by
  simp [queueMsg, Nat.not_lt.mpr hr]

/-! ## Taking a request -/

/-- A waiting request of the kind is dequeued and decided. -/
theorem takeRequest_waits {s : State} {kind : ReqKind} {r : Request} {rest : List (List Byte)}
    (h : Waits s kind r rest) (act : Request → List Byte → State → Reply) (after : State → State) :
    takeRequest kind act after s = decideRequest kind act after r (dequeue r rest s) := by
  obtain ⟨hh, hd, hl, f, hf, hp, hk⟩ := h
  simp [takeRequest, requestHead, hh, hd, hf, hl, hp, hk]

/-- A request that reaches its kind's own rule: the rule's reply, the response, and what follows an OK. -/
theorem takeRequest_taken {s : State} {kind : ReqKind} {r : Request} {p : List Byte} {rest : List (List Byte)}
    (h : Taken s kind r p rest) (act : Request → List Byte → State → Reply) (after : State → State) :
    takeRequest kind act after s =
      match (act r p (dequeue r rest s)).answer with
      | none => (act r p (dequeue r rest s)).state
      | some (.ok, data) => after (respond r .ok data (act r p (dequeue r rest s)).state)
      | some (code, data) => respond r code data (act r p (dequeue r rest s)).state := by
  obtain ⟨hw, ha, hp, hl⟩ := h
  rw [takeRequest_waits hw]
  have hbox : (dequeue r rest s).pow.box = s.pow.box := rfl
  simp only [decideRequest, hbox, ha, hp, Nat.not_lt.mpr hl, if_false] <;> rfl

/-- A request whose kind's rule answers OK. -/
theorem takePlain_ok {s : State} {kind : ReqKind} {r : Request} {p : List Byte} {rest : List (List Byte)}
    (h : Taken s kind r p rest) {act : List Byte → State → Reply} {t : State} {data : List Byte}
    (ho : act p (dequeue r rest s) = .ok t data) : takePlain kind act s = respond r .ok data t := by
  unfold takePlain
  rw [takeRequest_taken h]
  simp [ho, Reply.ok]

/-- A request whose kind's rule refuses. -/
theorem takePlain_refuse {s : State} {kind : ReqKind} {r : Request} {p : List Byte} {rest : List (List Byte)}
    (h : Taken s kind r p rest) {act : List Byte → State → Reply} {t : State} {code : ResultCode} (hc : code ≠ .ok)
    (ho : act p (dequeue r rest s) = .refuse t code) : takePlain kind act s = respond r code [] t := by
  unfold takePlain
  rw [takeRequest_taken h]
  cases code <;> simp_all [Reply.refuse]

end Sys2Proof.Machine
end

