-- ==== Sys2Proof/Laws/State.lean ====
section
/-! SUPPORT. The named updates of the state: what each makes of the fields it touches, by definition. What an update leaves
as it is stands in Laws/Units.lean, Laws/Engines.lean and Laws/Events.lean. -/

namespace Sys2Proof.Machine

/-! ## Tables -/

/-- An element of a table one element of which has changed. -/
theorem getElem_vecMod {α : Type} {n : Nat} (v : Vector α n) (i : Fin n) (f : α → α) (k : Nat) (hk : k < n) :
    (vecMod v i f)[k] = if k = i then f v[i] else v[k] := by
  unfold vecMod
  by_cases h : k = i
  · subst h; simp
  · rw [if_neg h]
    exact Vector.getElem_set_ne _ _ (fun e => h e.symm)

/-- The changed element itself. -/
@[simp] theorem getElem_vecMod_self {α : Type} {n : Nat} (v : Vector α n) (i : Fin n) (f : α → α) :
    (vecMod v i f)[(i : Nat)] = f v[(i : Nat)] := by
  simp [getElem_vecMod]

/-- Another element than the changed one. -/
theorem getElem_vecMod_ne {α : Type} {n : Nat} (v : Vector α n) (i j : Fin n) (f : α → α) (h : j ≠ i) :
    (vecMod v i f)[j] = v[j] := by
  have : (j : Nat) ≠ i := fun e => h (Fin.ext e)
  simp [getElem_vecMod, this]

/-- An element of a table every element of which has changed. -/
@[simp] theorem getElem_vecMap {α β : Type} {n : Nat} (f : α → β) (v : Vector α n) (k : Nat) (hk : k < n) :
    (vecMap f v)[k] = f v[k] := by
  simp [vecMap]

/-! ## Notices -/

@[simp] theorem raise_note_kinds (kind : NoticeKind) (detail : Detail) (s : State) :
    (raise kind detail s).note.kinds = vecMod s.note.kinds kind.index fun n =>
      { n with pending := true, count := satAdd n.count 1, detail := some detail } := rfl

@[simp] theorem raise_note_outcomes (kind : NoticeKind) (detail : Detail) (s : State) :
    (raise kind detail s).note.outcomes = s.note.outcomes := rfl

@[simp] theorem raise_note_lost (kind : NoticeKind) (detail : Detail) (s : State) :
    (raise kind detail s).note.lost = s.note.lost := rfl

/-! ## Bays -/

@[simp] theorem onBay_bay_bays (bay : Bay) (f : BayRecord → BayRecord) (s : State) :
    (onBay bay f s).bay.bays = vecMod s.bay.bays bay f := rfl

@[simp] theorem onBay_bay_queue (bay : Bay) (f : BayRecord → BayRecord) (s : State) :
    (onBay bay f s).bay.queue = s.bay.queue := rfl

@[simp] theorem onBay_bay_budget (bay : Bay) (f : BayRecord → BayRecord) (s : State) :
    (onBay bay f s).bay.budget = s.bay.budget := rfl

@[simp] theorem changeNeeded_bay_bays (gives takes : BaySet) (s : State) :
    (changeNeeded gives takes s).bay.bays = Vector.ofFn fun i => s.bay.bays[i].recount (hasBay gives i) (hasBay takes i) := rfl

@[simp] theorem changeNeeded_bay_queue (gives takes : BaySet) (s : State) :
    (changeNeeded gives takes s).bay.queue = s.bay.queue := rfl

@[simp] theorem changeNeeded_bay_budget (gives takes : BaySet) (s : State) :
    (changeNeeded gives takes s).bay.budget = s.bay.budget := rfl

@[simp] theorem reportReady_pac_slots (bay : Bay) (s : State) :
    (reportReady bay s).pac.slots = s.pac.slots := rfl

@[simp] theorem reportReady_pac_profiles (bay : Bay) (s : State) :
    (reportReady bay s).pac.profiles = s.pac.profiles := rfl

@[simp] theorem reportReady_pac_stage (bay : Bay) (s : State) :
    (reportReady bay s).pac.stage = s.pac.stage := rfl

@[simp] theorem reportReady_pac_fifo (bay : Bay) (s : State) :
    (reportReady bay s).pac.fifo = s.pac.fifo := rfl

@[simp] theorem reportReady_pac_delivery (bay : Bay) (s : State) :
    (reportReady bay s).pac.delivery = s.pac.delivery := rfl

@[simp] theorem reportReady_pac_incoming (bay : Bay) (s : State) :
    (reportReady bay s).pac.incoming = s.pac.incoming := rfl

@[simp] theorem reportReady_pac_queue (bay : Bay) (s : State) :
    (reportReady bay s).pac.queue = s.pac.queue := rfl

@[simp] theorem reportReady_pac_replyLost (bay : Bay) (s : State) :
    (reportReady bay s).pac.replyLost = s.pac.replyLost := rfl

@[simp] theorem reportReady_pac_protocolErrors (bay : Bay) (s : State) :
    (reportReady bay s).pac.protocolErrors = s.pac.protocolErrors := rfl

@[simp] theorem reportReady_pac_blocksTaken (bay : Bay) (s : State) :
    (reportReady bay s).pac.blocksTaken = s.pac.blocksTaken := rfl

@[simp] theorem reportReady_pac_readySet (bay : Bay) (s : State) :
    (reportReady bay s).pac.readySet = s.pac.readySet ||| oneBay bay := rfl

@[simp] theorem reportUnready_pac_profiles (bay : Bay) (s : State) :
    (reportUnready bay s).pac.profiles = s.pac.profiles := rfl

@[simp] theorem reportUnready_pac_stage (bay : Bay) (s : State) :
    (reportUnready bay s).pac.stage = s.pac.stage := rfl

@[simp] theorem reportUnready_pac_fifo (bay : Bay) (s : State) :
    (reportUnready bay s).pac.fifo = s.pac.fifo := rfl

@[simp] theorem reportUnready_pac_delivery (bay : Bay) (s : State) :
    (reportUnready bay s).pac.delivery = s.pac.delivery := rfl

@[simp] theorem reportUnready_pac_incoming (bay : Bay) (s : State) :
    (reportUnready bay s).pac.incoming = s.pac.incoming := rfl

@[simp] theorem reportUnready_pac_queue (bay : Bay) (s : State) :
    (reportUnready bay s).pac.queue = s.pac.queue := rfl

@[simp] theorem reportUnready_pac_replyLost (bay : Bay) (s : State) :
    (reportUnready bay s).pac.replyLost = s.pac.replyLost := rfl

@[simp] theorem reportUnready_pac_protocolErrors (bay : Bay) (s : State) :
    (reportUnready bay s).pac.protocolErrors = s.pac.protocolErrors := rfl

@[simp] theorem reportUnready_pac_blocksTaken (bay : Bay) (s : State) :
    (reportUnready bay s).pac.blocksTaken = s.pac.blocksTaken := rfl

@[simp] theorem reportUnready_pac_readySet (bay : Bay) (s : State) :
    (reportUnready bay s).pac.readySet = s.pac.readySet &&& ~~~ oneBay bay := rfl

/-! ## Sessions and stage slots -/

@[simp] theorem fallSessions_pac_slots (p : Session → Bool) (s : State) :
    (fallSessions p s).pac.slots = vecMap
      (fun slot => { slot with session := slot.session.map fun x => if p x then x.fallen else x }) s.pac.slots := rfl

@[simp] theorem fallSessions_pac_profiles (p : Session → Bool) (s : State) :
    (fallSessions p s).pac.profiles = s.pac.profiles := rfl

@[simp] theorem fallSessions_pac_stage (p : Session → Bool) (s : State) :
    (fallSessions p s).pac.stage = s.pac.stage := rfl

@[simp] theorem fallSessions_pac_fifo (p : Session → Bool) (s : State) :
    (fallSessions p s).pac.fifo = s.pac.fifo := rfl

@[simp] theorem fallSessions_pac_delivery (p : Session → Bool) (s : State) :
    (fallSessions p s).pac.delivery = s.pac.delivery := rfl

@[simp] theorem fallSessions_pac_incoming (p : Session → Bool) (s : State) :
    (fallSessions p s).pac.incoming = s.pac.incoming := rfl

@[simp] theorem fallSessions_pac_queue (p : Session → Bool) (s : State) :
    (fallSessions p s).pac.queue = s.pac.queue := rfl

@[simp] theorem fallSessions_pac_replyLost (p : Session → Bool) (s : State) :
    (fallSessions p s).pac.replyLost = s.pac.replyLost := rfl

@[simp] theorem fallSessions_pac_protocolErrors (p : Session → Bool) (s : State) :
    (fallSessions p s).pac.protocolErrors = s.pac.protocolErrors := rfl

@[simp] theorem fallSessions_pac_blocksTaken (p : Session → Bool) (s : State) :
    (fallSessions p s).pac.blocksTaken = s.pac.blocksTaken := rfl

@[simp] theorem fallSessions_pac_readySet (p : Session → Bool) (s : State) :
    (fallSessions p s).pac.readySet = s.pac.readySet := rfl

@[simp] theorem onSlot_pac_slots (i : Slot) (f : SessionSlot → SessionSlot) (s : State) :
    (onSlot i f s).pac.slots = vecMod s.pac.slots i f := rfl

@[simp] theorem onSlot_pac_profiles (i : Slot) (f : SessionSlot → SessionSlot) (s : State) :
    (onSlot i f s).pac.profiles = s.pac.profiles := rfl

@[simp] theorem onSlot_pac_stage (i : Slot) (f : SessionSlot → SessionSlot) (s : State) :
    (onSlot i f s).pac.stage = s.pac.stage := rfl

@[simp] theorem onSlot_pac_fifo (i : Slot) (f : SessionSlot → SessionSlot) (s : State) :
    (onSlot i f s).pac.fifo = s.pac.fifo := rfl

@[simp] theorem onSlot_pac_delivery (i : Slot) (f : SessionSlot → SessionSlot) (s : State) :
    (onSlot i f s).pac.delivery = s.pac.delivery := rfl

@[simp] theorem onSlot_pac_incoming (i : Slot) (f : SessionSlot → SessionSlot) (s : State) :
    (onSlot i f s).pac.incoming = s.pac.incoming := rfl

@[simp] theorem onSlot_pac_queue (i : Slot) (f : SessionSlot → SessionSlot) (s : State) :
    (onSlot i f s).pac.queue = s.pac.queue := rfl

@[simp] theorem onSlot_pac_replyLost (i : Slot) (f : SessionSlot → SessionSlot) (s : State) :
    (onSlot i f s).pac.replyLost = s.pac.replyLost := rfl

@[simp] theorem onSlot_pac_protocolErrors (i : Slot) (f : SessionSlot → SessionSlot) (s : State) :
    (onSlot i f s).pac.protocolErrors = s.pac.protocolErrors := rfl

@[simp] theorem onSlot_pac_blocksTaken (i : Slot) (f : SessionSlot → SessionSlot) (s : State) :
    (onSlot i f s).pac.blocksTaken = s.pac.blocksTaken := rfl

@[simp] theorem onSlot_pac_readySet (i : Slot) (f : SessionSlot → SessionSlot) (s : State) :
    (onSlot i f s).pac.readySet = s.pac.readySet := rfl

@[simp] theorem setStage_pac_slots (k : Nat) (slot : StageSlot) (s : State) :
    (setStage k slot s).pac.slots = s.pac.slots := rfl

@[simp] theorem setStage_pac_profiles (k : Nat) (slot : StageSlot) (s : State) :
    (setStage k slot s).pac.profiles = s.pac.profiles := rfl

@[simp] theorem setStage_pac_stage (k : Nat) (slot : StageSlot) (s : State) :
    (setStage k slot s).pac.stage = s.pac.stage.set k slot := rfl

@[simp] theorem setStage_pac_fifo (k : Nat) (slot : StageSlot) (s : State) :
    (setStage k slot s).pac.fifo = s.pac.fifo := rfl

@[simp] theorem setStage_pac_delivery (k : Nat) (slot : StageSlot) (s : State) :
    (setStage k slot s).pac.delivery = s.pac.delivery := rfl

@[simp] theorem setStage_pac_incoming (k : Nat) (slot : StageSlot) (s : State) :
    (setStage k slot s).pac.incoming = s.pac.incoming := rfl

@[simp] theorem setStage_pac_queue (k : Nat) (slot : StageSlot) (s : State) :
    (setStage k slot s).pac.queue = s.pac.queue := rfl

@[simp] theorem setStage_pac_replyLost (k : Nat) (slot : StageSlot) (s : State) :
    (setStage k slot s).pac.replyLost = s.pac.replyLost := rfl

@[simp] theorem setStage_pac_protocolErrors (k : Nat) (slot : StageSlot) (s : State) :
    (setStage k slot s).pac.protocolErrors = s.pac.protocolErrors := rfl

@[simp] theorem setStage_pac_blocksTaken (k : Nat) (slot : StageSlot) (s : State) :
    (setStage k slot s).pac.blocksTaken = s.pac.blocksTaken := rfl

@[simp] theorem setStage_pac_readySet (k : Nat) (slot : StageSlot) (s : State) :
    (setStage k slot s).pac.readySet = s.pac.readySet := rfl

@[simp] theorem protocolError_pac_slots (s : State) :
    (protocolError s).pac.slots = s.pac.slots := rfl

@[simp] theorem protocolError_pac_profiles (s : State) :
    (protocolError s).pac.profiles = s.pac.profiles := rfl

@[simp] theorem protocolError_pac_stage (s : State) :
    (protocolError s).pac.stage = s.pac.stage := rfl

@[simp] theorem protocolError_pac_fifo (s : State) :
    (protocolError s).pac.fifo = s.pac.fifo := rfl

@[simp] theorem protocolError_pac_delivery (s : State) :
    (protocolError s).pac.delivery = s.pac.delivery := rfl

@[simp] theorem protocolError_pac_incoming (s : State) :
    (protocolError s).pac.incoming = s.pac.incoming := rfl

@[simp] theorem protocolError_pac_queue (s : State) :
    (protocolError s).pac.queue = s.pac.queue := rfl

@[simp] theorem protocolError_pac_replyLost (s : State) :
    (protocolError s).pac.replyLost = s.pac.replyLost := rfl

@[simp] theorem protocolError_pac_protocolErrors (s : State) :
    (protocolError s).pac.protocolErrors = satAdd s.pac.protocolErrors 1 := rfl

@[simp] theorem protocolError_pac_blocksTaken (s : State) :
    (protocolError s).pac.blocksTaken = s.pac.blocksTaken := rfl

@[simp] theorem protocolError_pac_readySet (s : State) :
    (protocolError s).pac.readySet = s.pac.readySet := rfl

@[simp] theorem discardStaged_pac_slots (s : State) :
    (discardStaged s).pac.slots = vecMap (fun slot => { slot with leftBehind := 0 }) s.pac.slots := rfl

@[simp] theorem discardStaged_pac_profiles (s : State) :
    (discardStaged s).pac.profiles = s.pac.profiles := rfl

@[simp] theorem discardStaged_pac_stage (s : State) :
    (discardStaged s).pac.stage = s.pac.stage.map fun slot => if slot.isFilled then .free else slot := rfl

@[simp] theorem discardStaged_pac_fifo (s : State) :
    (discardStaged s).pac.fifo = [] := rfl

@[simp] theorem discardStaged_pac_delivery (s : State) :
    (discardStaged s).pac.delivery = s.pac.delivery := rfl

@[simp] theorem discardStaged_pac_incoming (s : State) :
    (discardStaged s).pac.incoming = s.pac.incoming := rfl

@[simp] theorem discardStaged_pac_queue (s : State) :
    (discardStaged s).pac.queue = s.pac.queue := rfl

@[simp] theorem discardStaged_pac_replyLost (s : State) :
    (discardStaged s).pac.replyLost = s.pac.replyLost := rfl

@[simp] theorem discardStaged_pac_protocolErrors (s : State) :
    (discardStaged s).pac.protocolErrors = s.pac.protocolErrors := rfl

@[simp] theorem discardStaged_pac_blocksTaken (s : State) :
    (discardStaged s).pac.blocksTaken = s.pac.blocksTaken := rfl

@[simp] theorem discardStaged_pac_readySet (s : State) :
    (discardStaged s).pac.readySet = s.pac.readySet := rfl

@[simp] theorem writeCells_cells_mem (address : Nat) (bytes : List Byte) (s : State) :
    (writeCells address bytes s).cells.mem = s.cells.mem.writeRun address bytes := rfl

@[simp] theorem writeCells_cells_part (address : Nat) (bytes : List Byte) (s : State) :
    (writeCells address bytes s).cells.part = s.cells.part := rfl

@[simp] theorem writeCells_cells_atReset (address : Nat) (bytes : List Byte) (s : State) :
    (writeCells address bytes s).cells.atReset = s.cells.atReset := rfl

@[simp] theorem writeCells_cells_ring (address : Nat) (bytes : List Byte) (s : State) :
    (writeCells address bytes s).cells.ring = s.cells.ring := rfl

/-! ## Hold queue -/

@[simp] theorem dropHeld_hold_records (s : State) :
    (dropHeld s).hold.records = s.hold.records := rfl

@[simp] theorem dropHeld_hold_overflow (s : State) :
    (dropHeld s).hold.overflow = s.hold.overflow := rfl

@[simp] theorem dropHeld_hold_drops (s : State) :
    (dropHeld s).hold.drops = satAdd s.hold.drops 1 := rfl

@[simp] theorem dropHeld_hold_stales (s : State) :
    (dropHeld s).hold.stales = s.hold.stales := rfl

@[simp] theorem dropHeld_hold_limit (s : State) :
    (dropHeld s).hold.limit = s.hold.limit := rfl

@[simp] theorem dropHeld_hold_sending (s : State) :
    (dropHeld s).hold.sending = s.hold.sending := rfl

@[simp] theorem heldReturned_hold_records (s : State) :
    (heldReturned s).hold.records = s.hold.records := rfl

@[simp] theorem heldReturned_hold_overflow (s : State) :
    (heldReturned s).hold.overflow = s.hold.overflow := rfl

@[simp] theorem heldReturned_hold_drops (s : State) :
    (heldReturned s).hold.drops = s.hold.drops := rfl

@[simp] theorem heldReturned_hold_stales (s : State) :
    (heldReturned s).hold.stales = s.hold.stales := rfl

@[simp] theorem heldReturned_hold_limit (s : State) :
    (heldReturned s).hold.limit = s.hold.limit := rfl

@[simp] theorem heldReturned_hold_sending (s : State) :
    (heldReturned s).hold.sending = false := rfl

@[simp] theorem flushHeld_hold_records (s : State) :
    (flushHeld s).hold.records = [] := rfl

@[simp] theorem flushHeld_hold_overflow (s : State) :
    (flushHeld s).hold.overflow = false := rfl

@[simp] theorem flushHeld_hold_drops (s : State) :
    (flushHeld s).hold.drops = satAdd s.hold.drops s.hold.records.length := rfl

@[simp] theorem flushHeld_hold_stales (s : State) :
    (flushHeld s).hold.stales = s.hold.stales := rfl

@[simp] theorem flushHeld_hold_limit (s : State) :
    (flushHeld s).hold.limit = s.hold.limit := rfl

@[simp] theorem flushHeld_hold_sending (s : State) :
    (flushHeld s).hold.sending = false := rfl

/-! ## Power -/

@[simp] theorem enterRailSettle_pow_box (s : State) :
    (enterRailSettle s).pow.box = .waking .railSettle := rfl

@[simp] theorem enterRailSettle_pow_attempts (s : State) :
    (enterRailSettle s).pow.attempts = s.pow.attempts := rfl

@[simp] theorem enterRailSettle_pow_latch (s : State) :
    (enterRailSettle s).pow.latch = s.pow.latch := rfl

@[simp] theorem enterRailSettle_pow_record (s : State) :
    (enterRailSettle s).pow.record = s.pow.record := rfl

@[simp] theorem enterRailSettle_pow_entryTimer (s : State) :
    (enterRailSettle s).pow.entryTimer = s.pow.entryTimer := rfl

@[simp] theorem enterRailSettle_pow_stabTimer (s : State) :
    (enterRailSettle s).pow.stabTimer = some s.pow.timing.stabilization := rfl

@[simp] theorem enterRailSettle_pow_bootTimer (s : State) :
    (enterRailSettle s).pow.bootTimer = s.pow.bootTimer := rfl

@[simp] theorem enterRailSettle_pow_retryTimer (s : State) :
    (enterRailSettle s).pow.retryTimer = s.pow.retryTimer := rfl

@[simp] theorem enterRailSettle_pow_heartbeatTimer (s : State) :
    (enterRailSettle s).pow.heartbeatTimer = s.pow.heartbeatTimer := rfl

@[simp] theorem enterRailSettle_pow_pwrEn (s : State) :
    (enterRailSettle s).pow.pwrEn = true := rfl

@[simp] theorem enterRailSettle_pow_rst (s : State) :
    (enterRailSettle s).pow.rst = true := rfl

@[simp] theorem enterRailSettle_pow_timing (s : State) :
    (enterRailSettle s).pow.timing = s.pow.timing := rfl

@[simp] theorem enterRailSettle_pow_lan (s : State) :
    (enterRailSettle s).pow.lan = s.pow.lan := rfl

@[simp] theorem enterRailSettle_pow_signature (s : State) :
    (enterRailSettle s).pow.signature = s.pow.signature := rfl

@[simp] theorem enterRailSettle_pow_button (s : State) :
    (enterRailSettle s).pow.button = s.pow.button := rfl

@[simp] theorem enterRailSettle_pow_alarm (s : State) :
    (enterRailSettle s).pow.alarm = s.pow.alarm := rfl

@[simp] theorem enterRailSettle_pow_bay (s : State) :
    (enterRailSettle s).pow.bay = s.pow.bay := rfl

@[simp] theorem enterRailSettle_pow_buttonEdge (s : State) :
    (enterRailSettle s).pow.buttonEdge = s.pow.buttonEdge := rfl

@[simp] theorem enterRailSettle_pow_bayEdge (s : State) :
    (enterRailSettle s).pow.bayEdge = s.pow.bayEdge := rfl

@[simp] theorem enterRailSettle_pow_clock (s : State) :
    (enterRailSettle s).pow.clock = s.pow.clock := rfl

@[simp] theorem enterRailSettle_pow_alarms (s : State) :
    (enterRailSettle s).pow.alarms = s.pow.alarms := rfl

@[simp] theorem enterRailSettle_pow_held (s : State) :
    (enterRailSettle s).pow.held = s.pow.held := rfl

@[simp] theorem leaveRun_pow_box (s : State) :
    (leaveRun s).pow.box = s.pow.box := rfl

@[simp] theorem leaveRun_pow_attempts (s : State) :
    (leaveRun s).pow.attempts = s.pow.attempts := rfl

@[simp] theorem leaveRun_pow_latch (s : State) :
    (leaveRun s).pow.latch = s.pow.latch := rfl

@[simp] theorem leaveRun_pow_record (s : State) :
    (leaveRun s).pow.record = s.pow.record := rfl

@[simp] theorem leaveRun_pow_entryTimer (s : State) :
    (leaveRun s).pow.entryTimer = s.pow.entryTimer := rfl

@[simp] theorem leaveRun_pow_stabTimer (s : State) :
    (leaveRun s).pow.stabTimer = s.pow.stabTimer := rfl

@[simp] theorem leaveRun_pow_bootTimer (s : State) :
    (leaveRun s).pow.bootTimer = s.pow.bootTimer := rfl

@[simp] theorem leaveRun_pow_retryTimer (s : State) :
    (leaveRun s).pow.retryTimer = s.pow.retryTimer := rfl

@[simp] theorem leaveRun_pow_heartbeatTimer (s : State) :
    (leaveRun s).pow.heartbeatTimer = none := rfl

@[simp] theorem leaveRun_pow_pwrEn (s : State) :
    (leaveRun s).pow.pwrEn = s.pow.pwrEn := rfl

@[simp] theorem leaveRun_pow_rst (s : State) :
    (leaveRun s).pow.rst = s.pow.rst := rfl

@[simp] theorem leaveRun_pow_timing (s : State) :
    (leaveRun s).pow.timing = s.pow.timing := rfl

@[simp] theorem leaveRun_pow_lan (s : State) :
    (leaveRun s).pow.lan = s.pow.lan := rfl

@[simp] theorem leaveRun_pow_signature (s : State) :
    (leaveRun s).pow.signature = s.pow.signature := rfl

@[simp] theorem leaveRun_pow_button (s : State) :
    (leaveRun s).pow.button = s.pow.button := rfl

@[simp] theorem leaveRun_pow_alarm (s : State) :
    (leaveRun s).pow.alarm = s.pow.alarm := rfl

@[simp] theorem leaveRun_pow_bay (s : State) :
    (leaveRun s).pow.bay = s.pow.bay := rfl

@[simp] theorem leaveRun_pow_buttonEdge (s : State) :
    (leaveRun s).pow.buttonEdge = s.pow.buttonEdge := rfl

@[simp] theorem leaveRun_pow_bayEdge (s : State) :
    (leaveRun s).pow.bayEdge = s.pow.bayEdge := rfl

@[simp] theorem leaveRun_pow_clock (s : State) :
    (leaveRun s).pow.clock = s.pow.clock := rfl

@[simp] theorem leaveRun_pow_alarms (s : State) :
    (leaveRun s).pow.alarms = s.pow.alarms := rfl

@[simp] theorem leaveRun_pow_held (s : State) :
    (leaveRun s).pow.held = s.pow.held := rfl

@[simp] theorem leaveRun_share_active (s : State) :
    (leaveRun s).share.active = false := rfl

@[simp] theorem leaveRun_share_timer (s : State) :
    (leaveRun s).share.timer = none := rfl

@[simp] theorem leaveRun_share_window (s : State) :
    (leaveRun s).share.window = s.share.window := rfl

/-! ## Answers -/

@[simp] theorem onRecord_ans_records (i : Fin 16) (f : AnswerRecord → AnswerRecord) (s : State) :
    (onRecord i f s).ans.records = vecMod s.ans.records i f := rfl

@[simp] theorem onRecord_ans_questions (i : Fin 16) (f : AnswerRecord → AnswerRecord) (s : State) :
    (onRecord i f s).ans.questions = s.ans.questions := rfl

@[simp] theorem onRecord_ans_answers (i : Fin 16) (f : AnswerRecord → AnswerRecord) (s : State) :
    (onRecord i f s).ans.answers = s.ans.answers := rfl

@[simp] theorem onRecord_ans_sending (i : Fin 16) (f : AnswerRecord → AnswerRecord) (s : State) :
    (onRecord i f s).ans.sending = s.ans.sending := rfl

@[simp] theorem onRecord_ans_invalid (i : Fin 16) (f : AnswerRecord → AnswerRecord) (s : State) :
    (onRecord i f s).ans.invalid = s.ans.invalid := rfl

/-! ## Resets -/

@[simp] theorem Power.atResetLevels_box (p : Power) (ms : Nat) :
    (p.atResetLevels ms).box = .sleep := rfl

@[simp] theorem Power.atResetLevels_attempts (p : Power) (ms : Nat) :
    (p.atResetLevels ms).attempts = 0 := rfl

@[simp] theorem Power.atResetLevels_latch (p : Power) (ms : Nat) :
    (p.atResetLevels ms).latch = p.latch := rfl

@[simp] theorem Power.atResetLevels_entryTimer (p : Power) (ms : Nat) :
    (p.atResetLevels ms).entryTimer = p.entryTimer := rfl

@[simp] theorem Power.atResetLevels_stabTimer (p : Power) (ms : Nat) :
    (p.atResetLevels ms).stabTimer = none := rfl

@[simp] theorem Power.atResetLevels_bootTimer (p : Power) (ms : Nat) :
    (p.atResetLevels ms).bootTimer = p.bootTimer := rfl

@[simp] theorem Power.atResetLevels_retryTimer (p : Power) (ms : Nat) :
    (p.atResetLevels ms).retryTimer = p.retryTimer := rfl

@[simp] theorem Power.atResetLevels_heartbeatTimer (p : Power) (ms : Nat) :
    (p.atResetLevels ms).heartbeatTimer = p.heartbeatTimer := rfl

@[simp] theorem Power.atResetLevels_pwrEn (p : Power) (ms : Nat) :
    (p.atResetLevels ms).pwrEn = false := rfl

@[simp] theorem Power.atResetLevels_rst (p : Power) (ms : Nat) :
    (p.atResetLevels ms).rst = true := rfl

@[simp] theorem Power.atResetLevels_timing (p : Power) (ms : Nat) :
    (p.atResetLevels ms).timing = p.timing := rfl

@[simp] theorem Power.atResetLevels_lan (p : Power) (ms : Nat) :
    (p.atResetLevels ms).lan = p.lan := rfl

@[simp] theorem Power.atResetLevels_signature (p : Power) (ms : Nat) :
    (p.atResetLevels ms).signature = p.signature := rfl

@[simp] theorem Power.atResetLevels_button (p : Power) (ms : Nat) :
    (p.atResetLevels ms).button = p.button := rfl

@[simp] theorem Power.atResetLevels_alarm (p : Power) (ms : Nat) :
    (p.atResetLevels ms).alarm = p.alarm := rfl

@[simp] theorem Power.atResetLevels_bay (p : Power) (ms : Nat) :
    (p.atResetLevels ms).bay = p.bay := rfl

@[simp] theorem Power.atResetLevels_buttonEdge (p : Power) (ms : Nat) :
    (p.atResetLevels ms).buttonEdge = p.buttonEdge := rfl

@[simp] theorem Power.atResetLevels_bayEdge (p : Power) (ms : Nat) :
    (p.atResetLevels ms).bayEdge = p.bayEdge := rfl

@[simp] theorem Power.atResetLevels_clock (p : Power) (ms : Nat) :
    (p.atResetLevels ms).clock = p.clock := rfl

@[simp] theorem Power.atResetLevels_alarms (p : Power) (ms : Nat) :
    (p.atResetLevels ms).alarms = p.alarms := rfl

@[simp] theorem Power.atResetLevels_held (p : Power) (ms : Nat) :
    (p.atResetLevels ms).held = some ms := rfl

@[simp] theorem resetAll_time (presence activity : BaySet) (clock : Clock) (s : State) :
    (resetAll presence activity clock s).time = { ms := 0, us := 0 } := rfl

@[simp] theorem resetAll_lan (presence activity : BaySet) (clock : Clock) (s : State) :
    (resetAll presence activity clock s).lan = State.reset.lan := rfl

@[simp] theorem resetAll_cls (presence activity : BaySet) (clock : Clock) (s : State) :
    (resetAll presence activity clock s).cls = State.reset.cls := rfl

@[simp] theorem resetAll_ans (presence activity : BaySet) (clock : Clock) (s : State) :
    (resetAll presence activity clock s).ans = State.reset.ans := rfl

@[simp] theorem resetAll_host (presence activity : BaySet) (clock : Clock) (s : State) :
    (resetAll presence activity clock s).host = State.reset.host := rfl

@[simp] theorem resetAll_mgmt (presence activity : BaySet) (clock : Clock) (s : State) :
    (resetAll presence activity clock s).mgmt = State.reset.mgmt := rfl

@[simp] theorem resetAll_note (presence activity : BaySet) (clock : Clock) (s : State) :
    (resetAll presence activity clock s).note = State.reset.note := rfl

@[simp] theorem resetAll_pow (presence activity : BaySet) (clock : Clock) (s : State) :
    (resetAll presence activity clock s).pow = resetPower s.ret clock := rfl

@[simp] theorem resetAll_bay (presence activity : BaySet) (clock : Clock) (s : State) :
    (resetAll presence activity clock s).bay = resetBays s.ret presence activity := rfl

@[simp] theorem resetAll_choices (presence activity : BaySet) (clock : Clock) (s : State) :
    (resetAll presence activity clock s).choices = s.choices := rfl

@[simp] theorem resetAll_pending (presence activity : BaySet) (clock : Clock) (s : State) :
    (resetAll presence activity clock s).pending = s.pending := rfl

@[simp] theorem holdReset_pow (presence activity : BaySet) (clock : Clock) (ms : Nat) (s : State) :
    (holdReset presence activity clock ms s).pow = (resetPower s.ret clock).atResetLevels ms := rfl

@[simp] theorem holdReset_time (presence activity : BaySet) (clock : Clock) (ms : Nat) (s : State) :
    (holdReset presence activity clock ms s).time = (resetAll presence activity clock s).time := rfl

@[simp] theorem holdReset_lan (presence activity : BaySet) (clock : Clock) (ms : Nat) (s : State) :
    (holdReset presence activity clock ms s).lan = (resetAll presence activity clock s).lan := rfl

@[simp] theorem holdReset_cls (presence activity : BaySet) (clock : Clock) (ms : Nat) (s : State) :
    (holdReset presence activity clock ms s).cls = (resetAll presence activity clock s).cls := rfl

@[simp] theorem holdReset_cells (presence activity : BaySet) (clock : Clock) (ms : Nat) (s : State) :
    (holdReset presence activity clock ms s).cells = (resetAll presence activity clock s).cells := rfl

@[simp] theorem holdReset_hold (presence activity : BaySet) (clock : Clock) (ms : Nat) (s : State) :
    (holdReset presence activity clock ms s).hold = (resetAll presence activity clock s).hold := rfl

@[simp] theorem holdReset_ans (presence activity : BaySet) (clock : Clock) (ms : Nat) (s : State) :
    (holdReset presence activity clock ms s).ans = (resetAll presence activity clock s).ans := rfl

@[simp] theorem holdReset_bay (presence activity : BaySet) (clock : Clock) (ms : Nat) (s : State) :
    (holdReset presence activity clock ms s).bay = (resetAll presence activity clock s).bay := rfl

@[simp] theorem holdReset_pac (presence activity : BaySet) (clock : Clock) (ms : Nat) (s : State) :
    (holdReset presence activity clock ms s).pac = (resetAll presence activity clock s).pac := rfl

@[simp] theorem holdReset_share (presence activity : BaySet) (clock : Clock) (ms : Nat) (s : State) :
    (holdReset presence activity clock ms s).share = (resetAll presence activity clock s).share := rfl

@[simp] theorem holdReset_host (presence activity : BaySet) (clock : Clock) (ms : Nat) (s : State) :
    (holdReset presence activity clock ms s).host = (resetAll presence activity clock s).host := rfl

@[simp] theorem holdReset_mgmt (presence activity : BaySet) (clock : Clock) (ms : Nat) (s : State) :
    (holdReset presence activity clock ms s).mgmt = (resetAll presence activity clock s).mgmt := rfl

@[simp] theorem holdReset_note (presence activity : BaySet) (clock : Clock) (ms : Nat) (s : State) :
    (holdReset presence activity clock ms s).note = (resetAll presence activity clock s).note := rfl

@[simp] theorem holdReset_ret (presence activity : BaySet) (clock : Clock) (ms : Nat) (s : State) :
    (holdReset presence activity clock ms s).ret = (resetAll presence activity clock s).ret := rfl

@[simp] theorem holdReset_cfg (presence activity : BaySet) (clock : Clock) (ms : Nat) (s : State) :
    (holdReset presence activity clock ms s).cfg = (resetAll presence activity clock s).cfg := rfl

@[simp] theorem holdReset_choices (presence activity : BaySet) (clock : Clock) (ms : Nat) (s : State) :
    (holdReset presence activity clock ms s).choices = (resetAll presence activity clock s).choices := rfl

@[simp] theorem holdReset_pending (presence activity : BaySet) (clock : Clock) (ms : Nat) (s : State) :
    (holdReset presence activity clock ms s).pending = (resetAll presence activity clock s).pending := rfl

/-! ## The frame in hand -/

@[simp] theorem endFrame_inHand (c : Classifier) : (endFrame c).inHand = none := by
  unfold endFrame swapIfDue swapBanks Classifier.setBank
  cases c.active <;> (dsimp only [Bank.other]; split <;> rfl)

@[simp] theorem endFrame_shadow (c : Classifier) : (endFrame c).shadow = .loading := by
  unfold endFrame swapIfDue
  cases h : c.shadow <;> simp [swapBanks]

@[simp] theorem endFrame_loader (c : Classifier) : (endFrame c).loader = c.loader := by
  unfold endFrame swapIfDue swapBanks Classifier.setBank
  cases c.active <;> (dsimp only [Bank.other]; split <;> rfl)

@[simp] theorem endFrame_defaultClass (c : Classifier) : (endFrame c).defaultClass = c.defaultClass := by
  unfold endFrame swapIfDue swapBanks Classifier.setBank
  cases c.active <;> (dsimp only [Bank.other]; split <;> rfl)

/-- With no swap due the frame only stops being in hand. -/
theorem endFrame_of_loading {c : Classifier} (h : c.shadow = .loading) : endFrame c = { c with inHand := none } := by
  simp [endFrame, swapIfDue, h]

/-- With a swap due the banks swap as the frame stops being in hand. -/
theorem endFrame_of_primed {c : Classifier} (h : c.shadow = .primed) :
    endFrame c = swapBanks { c with inHand := none } := by
  simp [endFrame, swapIfDue, h]

end Sys2Proof.Machine
end

