-- ==== Sys2Proof/Laws/Principles.lean ====
section
/-! SUPPORT. The induction of each repeating operation, packaged once: a property that one turn keeps, the operation keeps.
With them what one halt leaves in the session slots. -/

namespace Sys2Proof.Machine

/-! ## Requests -/

/-- A property kept by taking a request, by its kind's own rule in the states that take it, by a response and by what
follows the response, is kept by the command of the kind. -/
theorem takeRequest_keeps {P : State → Prop} {kind : ReqKind} {act : Request → List Byte → State → Reply}
    {after : State → State} {s : State} (taking : ∀ r rest t, P t → P (dequeue r rest t))
    (answering : ∀ r code data t, P t → P (respond r code data t))
    (acting : ∀ r p t, admission t.pow.box kind = .taken → P t → P (act r p t).state)
    (following : ∀ t, P t → P (after t)) (h : P s) : P (takeRequest kind act after s) := by
  unfold takeRequest
  split
  · exact h
  · split
    · exact h
    · split
      · unfold decideRequest
        split
        · exact taking _ _ _ h
        · exact answering _ _ _ _ (taking _ _ _ h)
        · rename_i ha
          split
          · exact answering _ _ _ _ (taking _ _ _ h)
          · split
            · exact answering _ _ _ _ (taking _ _ _ h)
            · dsimp only
              split
              · exact acting _ _ _ ha (taking _ _ _ h)
              · exact following _ (answering _ _ _ _ (acting _ _ _ ha (taking _ _ _ h)))
              · exact answering _ _ _ _ (acting _ _ _ ha (taking _ _ _ h))
      · exact h

/-- The same of a kind whose response is all that follows its rule. -/
theorem takePlain_keeps {P : State → Prop} {kind : ReqKind} {act : List Byte → State → Reply} {s : State}
    (taking : ∀ r rest t, P t → P (dequeue r rest t)) (answering : ∀ r code data t, P t → P (respond r code data t))
    (acting : ∀ p t, admission t.pow.box kind = .taken → P t → P (act p t).state) (h : P s) :
    P (takePlain kind act s) :=
  takeRequest_keeps taking answering (fun _ p t => acting p t) (fun _ ht => ht) h

/-! ## Bays -/

/-- A property that each admission of a head within the free budget keeps, trying the head keeps. -/
theorem tryHeads_keeps {P : State → Prop}
    (admitting : ∀ b rest t, t.bay.queue = b :: rest → t.bay.bays[b].settings.cost ≤ t.bay.freeBudget → P t →
      P (onBay b BayRecord.admitted { t with bay.queue := rest })) (n : Nat) :
    ∀ s : State, P s → P (tryHeads n s) := by
  induction n with
  | zero => exact fun s h => h
  | succ n ih =>
    intro s h
    unfold tryHeads
    split
    · exact h
    · rename_i b rest hq
      split
      · rename_i hc
        exact ih _ (admitting b rest s hq hc h)
      · exact h

/-- A property that the effect on one bay and each admission keep, a demand keeps. -/
theorem demand_keeps {P : State → Prop} (applying : ∀ b t, P t → P (demandBay b t))
    (admitting : ∀ b rest t, t.bay.queue = b :: rest → t.bay.bays[b].settings.cost ≤ t.bay.freeBudget → P t →
      P (onBay b BayRecord.admitted { t with bay.queue := rest })) (set : BaySet) (s : State) (h : P s) :
    P (demand set s) := by
  have step : ∀ b t, P t → P (if hasBay set b then demandBay b t else t) := by
    intro b t ht
    split
    · exact applying b t ht
    · exact ht
  unfold demand
  split
  · exact h
  · exact tryHeads_keeps admitting _ _ (step _ _ (step _ _ (step _ _ (step _ _ h))))

/-! ## The hold queue -/

/-- A property that a stale discard and the hand-over of a fresh head keep, release keeps. -/
theorem releaseN_keeps {P : State → Prop}
    (discarding : ∀ r rest t, t.hold.records = r :: rest → r.stale = true → P t →
      P (raise .staleDropped (.staleDropped r.cls r.entry (r.age t.time.ms))
        { popHeld t with hold.stales := satAdd (popHeld t).hold.stales 1 }))
    (handing : ∀ r rest t, t.hold.records = r :: rest → r.stale = false → t.hold.sending = false → P t →
      P (handReleased (frameData (readRing t.cells.mem t.cells.part r.firstCell r.length))
        { t with hold.sending := true })) (n : Nat) :
    ∀ s : State, P s → P (releaseN n s) := by
  induction n with
  | zero => exact fun s h => h
  | succ n ih =>
    intro s h
    unfold releaseN
    split
    · rename_i hc
      split
      · exact h
      · rename_i r rest hr
        split
        · rename_i hs
          exact ih _ (discarding r rest s hr hs h)
        · rename_i hs
          exact handing r rest s hr (by simpa using hs) (by simp_all) h
    · exact h

/-! ## Notices -/

/-- A property that building one notice keeps, building the notices that qualify keeps. -/
theorem buildNotices_keeps {P : State → Prop} (building : ∀ kind t, P t → P (buildNotice kind t)) {s : State}
    (h : P s) : P (buildNotices s) := by
  unfold buildNotices
  have fold : ∀ (l : List NoticeKind) (t : State), P t → P (l.foldl (fun t kind => buildNotice kind t) t) := by
    intro l
    induction l with
    | nil => exact fun t ht => ht
    | cons k ks ih => exact fun t ht => ih _ (building k t ht)
  exact fold _ _ h

/-! ## Sessions -/

/-- A property that each halt keeps, halting every session that a test names keeps. -/
theorem haltWhere_keeps {P : State → Prop} {cause : HaltCause} (halting : ∀ i t, P t → P (haltSession i cause t))
    (p : Session → Bool) {s : State} (h : P s) : P (haltWhere p cause s) := by
  unfold haltWhere
  have fold : ∀ (l : List Slot) (t : State), P t →
      P (l.foldl
        (fun t i =>
          match t.pac.slots[i].session with
          | some x => if p x then haltSession i cause t else t
          | none => t) t) := by
    intro l
    induction l with
    | nil => exact fun t ht => ht
    | cons i is ih =>
      intro t ht
      refine ih _ ?_
      beta_reduce
      split
      · split
        · exact halting i t ht
        · exact ht
      · exact ht
  exact fold _ _ h

/-- The session that the arbiter picks is a ready session of its slot. -/
theorem earliestReady_some {s : State} {i : Slot} {x : Session} (h : earliestReady s = some (i, x)) :
    s.pac.slots[i].session = some x ∧ sessionReady s x = true := by
  unfold earliestReady at h
  have fold : ∀ (l : List Slot) (best : Option (Slot × Session)),
      (∀ j y, best = some (j, y) → s.pac.slots[j].session = some y ∧ sessionReady s y = true) →
      ∀ j y,
        l.foldl
          (fun best i =>
            match s.pac.slots[i].session with
            | some x =>
              if sessionReady s x then
                match best with
                | some (_, y) => if x.nextDue.toNat < y.nextDue.toNat then some (i, x) else best
                | none => some (i, x)
              else best
            | none => best) best = some (j, y) →
        s.pac.slots[j].session = some y ∧ sessionReady s y = true := by
    intro l
    induction l with
    | nil => exact fun best hb => hb
    | cons k ks ih =>
      intro best hb
      refine ih _ ?_
      intro j y hj
      revert hj
      beta_reduce
      split
      · rename_i z hz
        split
        · rename_i hready
          split
          · split
            · intro hj
              simp only [Option.some.injEq, Prod.mk.injEq] at hj
              obtain ⟨rfl, rfl⟩ := hj
              exact ⟨hz, hready⟩
            · exact hb j y
          · intro hj
            simp only [Option.some.injEq, Prod.mk.injEq] at hj
            obtain ⟨rfl, rfl⟩ := hj
            exact ⟨hz, hready⟩
        · exact hb j y
      · exact hb j y
  exact fold _ none (by simp) i x h

/-- The stage slot that the arbiter picks is FREE. -/
theorem lowestFree_some {stage : List StageSlot} {k : Nat} (h : lowestFree stage = some k) :
    k < stage.length ∧ stage.getD k .free = .free := by
  unfold lowestFree at h
  rw [List.findIdx?_eq_some_iff_getElem] at h
  obtain ⟨hk, hf, -⟩ := h
  refine ⟨hk, ?_⟩
  rw [List.getD_eq_getElem?_getD, List.getElem?_eq_getElem hk, Option.getD_some]
  cases hs : stage[k] <;> simp_all [StageSlot.isFree]

/-- A property that each grant of a ready session on a FREE stage slot keeps, the arbiter keeps. -/
theorem arbitrateN_keeps {P : State → Prop}
    (granting : ∀ i x k t, t.pac.slots[i].session = some x → sessionReady t x = true → k < t.pac.stage.length →
      t.pac.stage.getD k .free = .free → P t → P (issueGrant i x k t)) (n : Nat) :
    ∀ s : State, P s → P (arbitrateN n s) := by
  induction n with
  | zero => exact fun s h => h
  | succ n ih =>
    intro s h
    unfold arbitrateN
    split
    · rename_i k i x hk hi
      exact ih _ (granting i x k s (earliestReady_some hi).1 (earliestReady_some hi).2 (lowestFree_some hk).1
        (lowestFree_some hk).2 h)
    · exact h

/-- Joining the pacing-message queue leaves the session slots. -/
@[simp] theorem queueMsg_slots (m : PacingMsg) (s : State) : (queueMsg m s).pac.slots = s.pac.slots := by
  unfold queueMsg
  split
  · unfold lanKick
    split
    · split <;> rfl
    · rfl
  · rfl

/-- A halt of an IDLE slot changes nothing. -/
theorem haltSession_idle {i : Slot} {cause : HaltCause} {s : State} (h : s.pac.slots[i].session = none) :
    haltSession i cause s = s := by
  unfold haltSession
  rw [h]

/-- What a halt leaves in the session slots: its own slot IDLE with the undelivered blocks left behind, but under
WAKE_FAULT, every other slot as it was (R130). -/
theorem haltSession_slots {i : Slot} {cause : HaltCause} {s : State} {x : Session}
    (h : s.pac.slots[i].session = some x) :
    (haltSession i cause s).pac.slots =
      vecMod s.pac.slots i fun slot =>
        { session := none,
          leftBehind := if cause = .wakeFault then slot.leftBehind else slot.leftBehind + x.undelivered } := by
  have queued : ∀ t : State, (declineFollowOn x t).pac.slots = t.pac.slots := by
    intro t
    unfold declineFollowOn
    split <;> simp
  unfold haltSession
  rw [h]
  by_cases hc : cause = .linkDown <;> simp [hc, queued, onSlot]

end Sys2Proof.Machine
end

