-- ==== Sys2Proof/WellFormed.lean ====
section
/-! DEFINITION. The commands an outside may send: the checks on an operand that its type does not already make. The
indices of bays, session slots and answer records are bounded by their types. -/

namespace Sys2Proof

/-- Whether a command's operands are ones the outside can supply: a grant sequence lies in 1 to 4,294,967,295
(R119, R121), and a held record's position lies below the 512 records of the list (R61). Frames of any length may
arrive: the part discards what it does not take (R1, R166). -/
def Instr.wellFormed : Instr → Bool
  | .grantExpiry _ seq => decide (1 ≤ seq) && decide (seq ≤ 4294967295)
  | .recordStale position => decide (position < 512)
  | _ => true

end Sys2Proof
end

