-- ==== Sys2Proof/Tests/Slice0.lean ====
section
/-! SUPPORT. Tests on small states: the spec's worked examples, the smoke test of `Instr.wellFormed`, and for every
obligation with hypotheses a witness that they can be met. Expected values come from the spec's text and tables, or from
hand calculation with its rules. -/

namespace Sys2Proof.Tests

/- One theorem at a time: each `decide +kernel` would else hold a thread of its own. -/
set_option Elab.async false

open Sys2Proof.Machine

/-! ## Ill-formed commands -/

/-- A grant sequence of 0 is refused. -/
theorem test_sequence_zero_is_refused : (Instr.grantExpiry 0 0).wellFormed = false := by decide

/-- A grant sequence beyond the last is refused. -/
theorem test_sequence_beyond_the_last_is_refused : (Instr.grantExpiry 0 4294967296).wellFormed = false := by decide

/-- A position beyond the 512 records is refused. -/
theorem test_position_beyond_the_list_is_refused : (Instr.recordStale 512).wellFormed = false := by decide

/-- The last sequence and the last position are well formed. -/
theorem test_last_operands_are_well_formed :
    (Instr.grantExpiry 3 4294967295).wellFormed = true ∧ (Instr.recordStale 511).wellFormed = true := by decide

/-- No word spells a command: the table gives no row any bits. -/
theorem test_no_word_spells_a_command : decodeTableWord 16 0 = none := rfl

/-! ## Small states -/

/-- A box in RUN with both links UP and nothing waiting. -/
def running : State :=
  { State.reset with
    pow.box := .run, pow.rst := false, pow.stabTimer := none, lan.up := true, host.up := true }

/-- A box in a state, otherwise like `running`. -/
def boxed (box : BoxState) : State := { running with pow.box := box }

/-- The frame data of a request of a kind with parameters. -/
def ask (kind : ReqKind) (p : List Byte) : List Byte :=
  etherFrame 1 7 0x88B6 (num 2 5 ++ num 2 kind.code ++ num 2 0 ++ num 2 p.length ++ p)

/-- The request that `ask` carries. -/
def asked (kind : ReqKind) (p : List Byte) : Request := { src := 7, tag := 5, kind := kind.code, params := some p }

/-- A state whose request queue holds that request alone. -/
def asking (kind : ReqKind) (p : List Byte) (s : State) : State := { s with host.requests := [ask kind p] }

/-- A request that parses, in a state that takes its kind, reaches its rule. -/
theorem taken {kind : ReqKind} {p : List Byte} {s : State} (hp : parseRequest (ask kind p) = some (asked kind p))
    (hm : s.mgmt = { inHand := none, deferred := [] }) (hr : s.host.responses.length < 16) (ha : admission s.pow.box kind = .taken)
    (hl : kind.fixedLength ≤ p.length) : Taken (asking kind p s) kind (asked kind p) p [] :=
  ⟨⟨congrArg _ hm, congrArg _ hm, hr, _, rfl, hp, rfl⟩, ha, rfl, hl⟩

/-- The same for a request that only waits. -/
theorem waits {kind : ReqKind} {p : List Byte} {s : State} (hp : parseRequest (ask kind p) = some (asked kind p))
    (hm : s.mgmt = { inHand := none, deferred := [] }) (hr : s.host.responses.length < 16) :
    Waits (asking kind p s) kind (asked kind p) [] :=
  ⟨congrArg _ hm, congrArg _ hm, hr, _, rfl, hp, rfl⟩

/-- A frame of 64 bytes, all zero but for its frame check sequence. -/
def quiet : List Byte := withFcs (List.replicate 60 0)

/-- A flow table whose entry 0 matches every frame. -/
def classing (action : Action) (wake : Bool) (bays : BaySet) (s : State) : State :=
  { s with
    cls.bankA := State.reset.cls.bankA.set 0 { FlowEntry.blank with valid := true, action := action, wake := wake, bays := bays } }

/-! ## Worked examples of the spec -/

set_option maxRecDepth 4000 in
/-- The check value of the Ethernet frame check sequence over the nine ASCII digits 1 to 9. -/
theorem test_frame_check_of_the_nine_digits :
    crc32 [0x31, 0x32, 0x33, 0x34, 0x35, 0x36, 0x37, 0x38, 0x39] = 0xCBF43926 := by decide

/-- R140: the default profile with NB = 10 has P = 1,250 and TP = 6. -/
theorem test_revised_peak_of_ten_blocks :
    Profile.default.peakFor 10 = 1250 ∧ Profile.default.taperFor 10 = 6 := by decide

/-- Section 8.6: NB = 100 gives P = 8,000 and TP = 19, NB = 40 gives P = 6,250 and TP = 16. -/
theorem test_peaks_of_the_worked_sessions :
    Profile.default.peakFor 100 = 8000 ∧ Profile.default.taperFor 100 = 19 ∧ Profile.default.peakFor 40 = 6250 ∧
      Profile.default.taperFor 40 = 16 := by decide

/-- Table 8.3: the first grant's step leaves 750, the steps at T = 20 and T = 19 leave 8,000 and 7,500 in TAPER. -/
theorem test_grant_steps_of_table_8_3 :
    let x := newSession Profile.default 9 1 100 0 0
    (({ x with todo := 99 }).grantStep true 8000).rate = 750 ∧
      (({ x with todo := 20, rate := 8000, phase := .cruise }).grantStep true 8000).rate = 8000 ∧
      (({ x with todo := 19, rate := 8000, phase := .cruise }).grantStep true 8000).rate = 7500 ∧
      (({ x with todo := 19, rate := 8000, phase := .cruise }).grantStep true 8000).phase = .taper := by decide

/-- R152: the intervals at 16,000, 16 and 7,500 grants per second. -/
theorem test_intervals : interval 16000 = 62 ∧ interval 16 = 62500 ∧ interval 7500 = 133 := by decide

/-- R136: FLOOR 20,000, PEAK 9,000, SC 0 and RISE 0 are stored as 16,000, 16,000, 16,000 and 1. -/
theorem test_clamped_profile :
    let p := ({ Profile.default with floor := 20000, peak := 9000, ceiling := 0, rise := 0 }).clamped
    p.floor = 16000 ∧ p.peak = 16000 ∧ p.ceiling = 16000 ∧ p.rise = 1 := by decide

/-- R91: 15, 25, 40 and 45 minutes become 20, 30, 30 and 60, and 0 stays NEVER. -/
theorem test_clamped_idle_intervals :
    clampIdle 15 = 20 ∧ clampIdle 25 = 30 ∧ clampIdle 40 = 30 ∧ clampIdle 45 = 60 ∧ clampIdle 0 = 0 := by decide

/-- R22: a = 64 with s = 3776 is accepted, with s = 3808 and for a = 8 refused. -/
theorem test_partitions_of_the_example :
    partitionAllowed 64 3776 = true ∧ partitionAllowed 64 3808 = false ∧ partitionAllowed 8 0 = false := by decide

/-- Table 2.1, frame I: a run of 36 cells from relative cell 226 of a ring of 256 ends at cell 6. -/
theorem test_ring_wraps_as_in_table_2_1 :
    (226 + cellsFor 9216) % 256 = 6 ∧ cellsFor 1518 = 6 ∧ cellsFor 1000 = 4 ∧ cellsFor 64 = 1 := by decide

/-- Table 1.3: the SYN of a connection to port 443 wins entry 2, its later frames entry 3. -/
theorem test_worked_match :
    let bank := ((State.reset.cls.bankA.set 2
        { FlowEntry.blank with
          valid := true, ipProto := some 6, dstPort := some { lo := 443, hi := 443 }, syn := some true,
          action := .share, wake := true, bays := 1 }).set 3
        { FlowEntry.blank with
          valid := true, ipProto := some 6, dstPort := some { lo := 443, hi := 443 }, action := .share, bays := 1 })
    let key : FrameKey :=
      { dstKind := .box, src := 1, vlan := none, ethertype := 0x0800, ipProto := some 6, dstPort := some 443,
        syn := some true, pacingType := none, wakeSig := false, length := 64 }
    winner bank key = some 2 ∧ winner bank { key with syn := some false } = some 3 ∧
      winner bank { key with dstPort := some 445 } = none ∧ winner bank { key with dstPort := none } = none := by
  decide

/-! ## Hypotheses that can be met -/

theorem test_quiet_is_good : frameGood quiet = true := by decide +kernel

/-- A wake start waits: a box in SLEEP with nothing pending. -/
def asleep : State := { running with pow.box := .sleep, pow.pwrEn := false, pow.rst := true, host.up := false }

theorem witness_StepRunsTheFrontCommand :
    ({ running with pending := [.noticeBuild, .grantIssue] } : State).pending = [.noticeBuild, .grantIssue] := rfl

/-- A running box whose clock stands at the end of a minute, the minute due or not. -/
def clocked (minute : Nat) (due : Bool) : State :=
  { running with
    pow.clock := { minute := minute, count := 59999, set := true, due := due },
    pow.alarms := running.pow.alarms.set 7 { on := true, minute := 0 } }

theorem witness_IdleStepLetsAMicrosecondPass :
    running.pending = [] ∧ running.pow.held = none ∧ (running.time.us + 1).toNat % 1000 ≠ 0 ∧
      (({ running with time.us := 999 } : State).time.us + 1).toNat % 1000 = 0 ∧ running.pow.clock.set = false ∧
      (∀ due ∈ [true, false],
        let s : State := { clocked 10079 due with time.us := 999 }
        s.pending = [] ∧ s.pow.held = none ∧ (s.time.us + 1).toNat % 1000 = 0 ∧ s.pow.clock.set = true ∧
          s.pow.clock.due = due) := by decide +kernel

/-- R52: the tick that ends a minute makes the next one due; MINUTE_ENTERED enters it, and nothing is due then. -/
theorem test_a_minute_is_entered_once :
    (tickClock (clocked 10079 false)).pow.clock = { minute := 10079, count := 59999, set := true, due := true } ∧
      (enterMinute (clocked 10079 true)).pow.clock = { minute := 0, count := 0, set := true, due := false } ∧
      (tickClock (clocked 10079 true)).pow.clock = { minute := 0, count := 1, set := true, due := false } := by
  decide +kernel

theorem witness_PowerOnResetsEveryBlock :
    running.pow.clock.set = false ∧
      (clocked 10079 false).pow.clock.set = true ∧
      (∀ a b, Instr.noticeBuild ≠ .powerOn a b) ∧ ∀ a b n, Instr.noticeBuild ≠ .panelReset a b n :=
  ⟨by decide, by decide, nofun, nofun⟩

/-- Every retained store gives its records' contents, the factory values where nothing is programmed. -/
theorem witness_PowerOnResetsEveryBlock_gives (r : Retained) : r.gives r.contents := by
  refine fun i => ⟨fun copy h => ?_, fun h => ?_⟩
  · show (r.copies[i].getLast?).getD _ = copy
    rw [h]
    rfl
  · show (r.copies[i].getLast?).getD _ = _
    rw [h]
    rfl

/-- R26, R48, R58 and R91: what a reset applies from programmed records with values that are not allowed, or halfway. -/
theorem test_a_reset_applies_programmed_records :
    let cp : List Nat → List (List Byte) := fun l => [[9], l.map (BitVec.ofNat 8 ·)]
    let s : State := { running with ret.copies := #v[[], [], [], cp [0, 16, 0, 32], cp [1], cp [1, 0, 16, 0, 7, 2, 5, 0],
      cp [24, 19, 0, 61, 0, 90], cp [9, 0, 40, 7]] }
    let t := idle (holdReset 5 0 running.pow.clock 0 s)
    t.cells.part = { answer := 16, hold := 4048, stage := 32, source := .retained } ∧ t.pow.box = .sleep ∧
      t.pow.lan = { enable := true, pending := false, arm := .oneShot, bays := 0 } ∧
      t.pow.signature = { enable := true, pending := false, arm := .continuous, bays := 5 } ∧
      t.pow.timing = { stabilization := 32, boot := 10, heartbeat := 0, entry := 60 } ∧ t.hold.limit = 1 ∧
      t.share.window = 60 ∧ t.bay.budget = 1 ∧
      t.bay.bays[(0 : Fin 4)].settings = { cost := 1, spin := 1, idle := 30, edge := .rising } := by
  decide +kernel

/-- A part held in reset by PANEL_RESET with drives in bays 0 and 2. -/
def heldInReset : State := holdReset 5 0 running.pow.clock 7 running

/-- R185 and R186: while the reset is held the rail is off with the host in reset; when it ends the part is WAKING, with
the bays as the presence lines say. -/
theorem test_a_held_reset_ends :
    heldInReset.pow.pwrEn = false ∧ heldInReset.pow.rst = true ∧ (idle heldInReset).pow.pwrEn = true ∧
      (idle heldInReset).pow.box = .waking .railSettle ∧
      (idle heldInReset).bay.bays[(2 : Fin 4)].state = .off ∧ (idle heldInReset).bay.bays[(1 : Fin 4)].state = .absent := by
  decide +kernel

/-- A key that every entry of conditions ANY meets. -/
def plainKey : FrameKey := frameKey running.cfg (frameData quiet) quiet.length

theorem witness_TheLowestMatchingEntryWins :
    (∀ j : Fin 64, (running.cls.bank running.cls.active)[j].meets plainKey = false) ∧
      ((classing .pass false 0 running).cls.bankA)[(0 : Fin 64)].meets plainKey = true ∧
      (∀ j : Fin 64, j < 63 →
        (running.cls.bankA.set 63 { FlowEntry.blank with valid := true })[j].meets plainKey = false) ∧
      (running.cls.bankA.set 63 { FlowEntry.blank with valid := true })[(63 : Fin 64)].meets plainKey = true := by
  decide

/-- The frame data of a TCP connection opened to port 443 from station 9, by broadcast under VLAN tag 5: R2 and R3 give
its key field by field. -/
def opening (flags : Byte) : List Byte :=
  num 6 0xFFFFFFFFFFFF ++ num 6 9 ++ [0x81, 0x00, 0xF0, 0x05, 0x08, 0x00] ++
    ([0x45, 0, 0, 40, 0, 0, 0x40, 0, 64, 6] ++ List.replicate 10 0) ++
    ([0xC0, 0, 0x01, 0xBB] ++ List.replicate 8 0 ++ [0x50, flags] ++ List.replicate 6 0)

/-- R2 to R4: the key of an opening frame, and of the frame that answers it. -/
theorem test_key_of_an_opening_frame :
    60 ≤ (pad60 (opening 0x02)).length ∧
      frameKey running.cfg (pad60 (opening 0x02)) 64 =
        { dstKind := .broadcast, src := 9, vlan := some 5, ethertype := 0x0800, ipProto := some 6,
          dstPort := some 443, syn := some true, pacingType := none, wakeSig := false, length := 64 } ∧
      (frameKey running.cfg (pad60 (opening 0x12)) 64).syn = some false := by
  decide +kernel

/-- A table state takes the quiet frame. -/
theorem received {s : State} (hl : s.lan.up = true) :
    Received s quiet (frameKey s.cfg (frameData quiet) quiet.length)
      (resolve (endFrame s.cls) (frameKey s.cfg (frameData quiet) quiet.length)) :=
  ⟨hl, test_quiet_is_good, rfl, rfl⟩

theorem witness_FramesAreHandedOverByClass :
    (∃ k m, Received (classing .drop false 0 running) quiet k m ∧ k.wakeSig = false ∧ m.wake = false ∧ m.action = .drop) ∧
    (∃ k m, Received (classing (.backup 3) false 0 { running with cfg.pacingType := 0 }) quiet k m ∧ k.wakeSig = false ∧
      m.wake = false ∧ m.action = .backup 3 ∧ k.ethertype = 0) ∧
    (∃ k m, Received (classing (.proxy 15) false 0 asleep) quiet k m ∧ k.wakeSig = false ∧ m.wake = false ∧
      m.action = .proxy 15 ∧ (classing (.proxy 15) false 0 asleep).pow.box ≠ .run ∧
      (classing (.proxy 15) false 0 asleep).ans.questions.length < 4) ∧
    frameGood [] = false :=
  ⟨⟨_, _, received rfl, by decide +kernel⟩, ⟨_, _, received rfl, by decide +kernel⟩,
    ⟨_, _, received rfl, by decide +kernel⟩, rfl⟩

/-- A frame that carries the wake signature of box LAN address 0 and raises no other source. -/
def signed : List Byte := withFcs (List.replicate 14 0 ++ signatureRun 0)

theorem signed_is_good : frameGood signed = true := by
  have hl : signed.length = 120 := by decide +kernel
  have hd : frameData signed = List.replicate 14 0 ++ signatureRun 0 := by decide +kernel
  have hf : signed.drop (120 - 4) = fcs (List.replicate 14 0 ++ signatureRun 0) :=
    List.drop_left' (by decide +kernel)
  simp [frameGood, hl, hd, hf]

/-- The same forms where the frame raises a wake source that is heard in SLEEP or SLEEP_ENTRY. -/
theorem witness_FramesAreHandedOverByClass_wakes :
    (∃ k m, Received (classing .drop true 3 asleep) quiet k m ∧ m.wake = true ∧ m.action = .drop ∧
      asleep.pow.lan.enable = true) ∧
    (∃ k m, Received (classing (.backup 3) true 3 { asleep with cfg.pacingType := 0 }) quiet k m ∧ m.wake = true ∧
      m.action = .backup 3 ∧ k.ethertype = 0) ∧
    (∃ k m, Received (classing (.proxy 0) true 3 (boxed .sleepEntry)) quiet k m ∧ m.wake = true ∧
      m.action = .proxy 0 ∧ (boxed .sleepEntry).pow.box ≠ .run) ∧
    ∃ k m, Received asleep signed k m ∧ k.wakeSig = true ∧ m.wake = false ∧ m.action = .pass ∧
      asleep.pow.signature.enable = true := by
  refine ⟨?_, ?_, ?_, ⟨_, _, ⟨rfl, signed_is_good, rfl, rfl⟩, by decide +kernel⟩⟩ <;>
    exact ⟨_, _, received rfl, by decide +kernel⟩

/-- R12: a PROXY entry with wake YES both answers the question and starts a wake. -/
theorem test_a_proxy_frame_wakes_and_asks :
    let t := classifyFrame quiet (classing (.proxy 15) true 0 asleep)
    t.ans.questions = [{ index := 15, data := List.replicate 60 0, length := 64 }] ∧
      t.pow.box = .waking .railSettle := by
  decide +kernel

/-- A box asleep with 4 questions waiting, whose table wakes for nothing and answers from record 15. -/
def questioned (valid : Bool) : State :=
  { classing (.proxy 15) false 0 asleep with
    ans.questions := List.replicate 4 { index := 0, data := [], length := 64 },
    ans.records := asleep.ans.records.set 15 { asleep.ans.records[(15 : Fin 16)] with valid := valid } }

theorem witness_FramesAreHandedOverByClass_full (valid : Bool) :
    ∃ k m, Received (questioned valid) quiet k m ∧ k.wakeSig = false ∧ m.wake = false ∧ m.action = .proxy 15 ∧
      (questioned valid).pow.box ≠ .run ∧ 4 ≤ (questioned valid).ans.questions.length ∧
      (questioned valid).ans.records[(15 : Fin 16)].valid = valid :=
  ⟨_, _, received rfl, by revert valid; decide +kernel⟩

/-- A held record of one cell. -/
def held : HeldRecord :=
  { firstCell := 0, cells := 1, length := 64, cls := .pass, entry := none, arrival := 0, stale := false }

/-- A state that holds one record. -/
def holding (s : State) : State :=
  { s with hold.records := [held], cells.ring := { head := 0, tail := 1, used := 1 } }

theorem witness_HostBoundFramesPassOrAreHeld :
    (∃ k m, Received { running with host.sending := some (.response []) } quiet k m ∧ k.wakeSig = false ∧
      m.wake = false ∧ m.action = .pass ∧ running.pow.box = .run ∧ running.hold.records = [] ∧ running.host.up = true) ∧
    (running.host.sending = none ∧ running.host.responses = [] ∧ running.host.lpath = []) ∧
    (∃ k m, Received (holding running) quiet k m ∧ k.wakeSig = false ∧ m.wake = false ∧ m.action = .pass ∧
      (holding running).hold.records ≠ []) ∧
    (∃ k m, Received (boxed .sleepEntry) quiet k m ∧ k.wakeSig = false ∧ m.wake = false ∧ m.action = .pass) ∧
    (∃ k m, Received (boxed (.waking .retryOff)) quiet k m ∧ k.wakeSig = false ∧ m.wake = false ∧ m.action = .pass) ∧
    (∃ k m, Received asleep quiet k m ∧ k.wakeSig = false ∧ m.wake = false ∧ m.action = .pass ∧
      asleep.pow.box = .sleep) ∧
    (∃ k m, Received (classing .share false 15 running) quiet k m ∧ k.wakeSig = false ∧ m.wake = false ∧
      m.action = .share ∧ (classing .share false 15 running).pow.box = .run) :=
  ⟨⟨_, _, received rfl, by decide +kernel⟩, ⟨rfl, rfl, rfl⟩, ⟨_, _, received rfl, by decide +kernel⟩,
    ⟨_, _, received rfl, by decide +kernel⟩, ⟨_, _, received rfl, by decide +kernel⟩,
    ⟨_, _, received rfl, by decide +kernel⟩, ⟨_, _, received rfl, by decide +kernel⟩⟩

/-- A received frame of each other form: a wake-YES PASS frame in SLEEP and in SLEEP_ENTRY, BACKUP that is no pacing
frame, PROXY in RUN, SHARE outside RUN; the L path with no room, and a SHARE frame in RUN with a record held. -/
theorem witness_HostBoundFramesPassOrAreHeld_forms :
    (∃ k m, Received (classing .pass true 5 asleep) quiet k m ∧ k.wakeSig = false ∧ m.wake = true ∧ m.action = .pass ∧
      asleep.pow.box = .sleep) ∧
    (∃ k m, Received (classing .share true 5 (boxed .sleepEntry)) quiet k m ∧ k.wakeSig = false ∧ m.wake = true ∧
      m.action = .share ∧ (boxed .sleepEntry).pow.box ≠ .run) ∧
    (∃ k m, Received (classing (.backup 3) false 0 running) quiet k m ∧ k.wakeSig = false ∧ m.wake = false ∧
      m.action = .backup 3 ∧ k.ethertype ≠ running.cfg.pacingType) ∧
    (∃ k m, Received (classing (.proxy 0) true 0 running) quiet k m ∧ k.wakeSig = false ∧ m.action = .proxy 0) ∧
    (∃ k m, Received { running with host.lpath := List.replicate 16 { released := false, data := [] } } quiet k m ∧
      k.wakeSig = false ∧ m.action = .pass) ∧
    (∃ k m, Received (classing .share true 15 (holding running)) quiet k m ∧ k.wakeSig = false ∧ m.action = .share ∧
      (holding running).hold.records ≠ []) := by
  refine ⟨?_, ?_, ?_, ?_, ?_, ?_⟩ <;> exact ⟨_, _, received rfl, by decide +kernel⟩

/-- A state with the quiet frame in hand. -/
def grasping (s : State) : State :=
  { s with cls.inHand := some { frame := quiet, key := plainKey, arrival := 0 } }

/-- Table 1.5: a settle with frame X in hand leaves the shadow PRIMED and bank A active; at the frame's end bank B is
active and the shadow LOADING; with no frame in hand the swap is made at once. -/
theorem test_settling_as_in_table_1_5 :
    (shadowStatus (swapIfDue { (grasping running).cls with shadow := .primed }) = [1, 0]) ∧
      (endFrame { (grasping running).cls with shadow := .primed }).active = .b ∧
      (endFrame { (grasping running).cls with shadow := .primed }).shadow = .loading ∧
      shadowStatus (swapIfDue { running.cls with shadow := .primed }) = [0, 1] := by
  decide +kernel

theorem witness_LanFrameWakesTheSleepingBox :
    (∃ k m, Received (classing .drop true 15 asleep) quiet k m ∧
      (m.wake && m.entry.isSome && asleep.pow.lan.enable) = true ∧ asleep.pow.box = .sleep ∧
      asleep.pow.latch = false ∧ asleep.pow.anyPending = false) ∧
    (∃ k m, Received (classing .drop true 15 (grasping (boxed .sleepEntry))) quiet k m ∧
      (m.wake && m.entry.isSome && running.pow.lan.enable) = true ∧ running.pow.latch = false) ∧
    ({ asleep with pow.latch := true } : State).pow.latch = true ∧
    hasRun (signatureRun running.cfg.boxAddr) (signatureRun 0) = true ∧ running.pow.signature.enable = true :=
  ⟨⟨_, _, received rfl, by decide +kernel⟩, ⟨_, _, received rfl, by decide +kernel⟩, by decide +kernel⟩

/-! ### Requests -/

/-- A request in RUN. -/
theorem takenInRun {kind : ReqKind} {p : List Byte} (hp : parseRequest (ask kind p) = some (asked kind p))
    (ha : admission .run kind = .taken) (hl : kind.fixedLength ≤ p.length) :
    Taken (asking kind p running) kind (asked kind p) p [] :=
  taken hp rfl (by decide) ha hl

theorem witness_SettleSwapsTheBanks :
    (∃ s r p rest, Taken s .settleFlows r p rest ∧ s.cls.inHand = none) ∧
    (∃ s r p rest, Taken s .settleFlows r p rest ∧ s.cls.inHand ≠ none) ∧
    (∃ s r p rest, Taken s .unsettleFlows r p rest) ∧
    (∃ s r p rest, Taken s .setDefaultAction r p rest ∧ byteAt p 0 = 4) ∧
    ∃ s r p rest, Taken s .setDefaultAction r p rest ∧ byteAt p 0 = 1 :=
  ⟨⟨_, _, [], _, takenInRun (by decide +kernel) rfl (by decide), rfl⟩,
    ⟨_, _, [], _, taken (s := grasping running) (by decide +kernel) rfl (by decide) rfl (by decide), nofun⟩,
    ⟨_, _, [], _, takenInRun (by decide +kernel) rfl (by decide)⟩,
    ⟨_, _, [4], _, takenInRun (by decide +kernel) rfl (by decide), rfl⟩,
    ⟨_, _, [1], _, takenInRun (by decide +kernel) rfl (by decide), rfl⟩⟩

/-- Five carried entries behind their count. -/
def fiveEntries : List Byte := [5] ++ (List.replicate 5 FlowEntry.blank.carried).flatten

theorem five_carried : Carries fiveEntries (List.replicate 5 .blank) := by
  unfold Carries
  decide +kernel

/-- The loader record that a LOAD_FLOWS of the window 60 to 62 sets. -/
def threeWide (mode : WindowMode) : Loader := { first := 60, last := 62, mode := mode, pointer := 60 }

/-- Five entries for a window of three, in both modes, and for the window that CONTINUE_FLOWS finds. -/
theorem witness_LoadingFillsTheShadowWindow :
    (∀ mode : WindowMode, ∃ s r p rest, Taken s .loadFlows r p rest ∧ (threeWide mode).first.val = natAt p 0 1 ∧
      (threeWide mode).last.val = natAt p 1 1 ∧ natAt p 0 1 ≤ natAt p 1 1 ∧ natAt p 2 1 = (if mode = .stop then 0 else 1) ∧
      (threeWide mode).pointer = natAt p 0 1 ∧ Carries (p.drop 3) (List.replicate 5 .blank)) ∧
    (∃ s r p rest es, Taken s .continueFlows r p rest ∧ Carries p es ∧
      s.cls.loader.pointer ≤ s.cls.loader.last.val) ∧
    (threeWide .stop).written 5 = 3 ∧ (threeWide .wrap).written 5 = 5 :=
  ⟨fun mode => ⟨_, _, [60, 62] ++ num 1 mode.code ++ fiveEntries, _,
      takenInRun (by cases mode <;> decide +kernel) rfl (by cases mode <;> decide +kernel), by cases mode <;> rfl,
      by cases mode <;> rfl, by cases mode <;> decide, by cases mode <;> rfl, by cases mode <;> rfl,
      by cases mode <;> exact five_carried⟩,
    ⟨_, _, fiveEntries, _, _, takenInRun (by decide +kernel) rfl (by decide +kernel), five_carried, by decide⟩,
    by decide, by decide⟩

/-- A carried entry with one byte replaced. -/
def spoiled (offset : Nat) (b : Byte) : List Byte := FlowEntry.blank.carried.set offset b

/-- For each reason of R14 parameters of LOAD_FLOWS just beyond it. -/
def refusedWindows : List (List Byte) :=
  [[1, 0, 0] ++ fiveEntries, [0, 64, 0] ++ fiveEntries, [0, 63, 2] ++ fiveEntries, [0, 63, 0, 0],
    [0, 63, 0, 17] ++ List.replicate 476 0, [0, 63, 0, 2] ++ FlowEntry.blank.carried, [0, 63, 0, 1] ++ spoiled 23 5]

theorem witness_LoadingFillsTheShadowWindow_refusals :
    (∀ p ∈ refusedWindows, Taken (asking .loadFlows p running) .loadFlows (asked .loadFlows p) p []) ∧
      natAt refusedWindows[0] 1 1 < natAt refusedWindows[0] 0 1 ∧ 63 < natAt refusedWindows[1] 1 1 ∧
      1 < natAt refusedWindows[2] 2 1 ∧
      (∀ p ∈ refusedWindows.drop 3, EntriesRefused (p.drop 3) ∧
        Taken (asking .continueFlows (p.drop 3) running) .continueFlows (asked .continueFlows (p.drop 3)) (p.drop 3) []) := by
  have h : ∀ p ∈ refusedWindows, (parseRequest (ask .loadFlows p) = some (asked .loadFlows p) ∧ 3 ≤ p.length) ∧
      parseRequest (ask .continueFlows (p.drop 3)) = some (asked .continueFlows (p.drop 3)) := by
    decide +kernel
  refine ⟨fun p hp => takenInRun (h p hp).1.1 rfl (h p hp).1.2, by decide, by decide, by decide, fun p hp => ⟨?_, ?_⟩⟩
  · revert p
    unfold EntriesRefused EntryRefused
    decide +kernel
  · exact takenInRun (h p (List.mem_of_mem_drop hp)).2 rfl (Nat.zero_le _)

/-- R13 and Table 1.5: the first request writes 10 of 16 entries and exhausts its window; the third writes 16 and leaves
the pointer at 16. -/
theorem test_loading_as_in_table_1_5 :
    (storeEntries (List.replicate 16 .blank)
        { running with cls.loader := { first := 0, last := 9, mode := .stop, pointer := 0 } }).answer =
        some (.ok, [10, 10, 1]) ∧
      (storeEntries (List.replicate 16 .blank)
        { running with cls.loader := { first := 10, last := 19, mode := .wrap, pointer := 10 } }).answer =
        some (.ok, [16, 16, 0]) := by
  decide +kernel

/-- A loader whose window 63 to 63 one entry has exhausted. -/
def exhausted : State := { running with cls.loader := { first := 63, last := 63, mode := .stop, pointer := 64 } }

theorem witness_LoadingFillsTheShadowWindow_exhausted :
    ∃ s r p rest es, Taken s .continueFlows r p rest ∧ Carries p es ∧
      s.cls.loader.last.val < s.cls.loader.pointer :=
  ⟨_, _, fiveEntries, _, _, taken (s := exhausted) (by decide +kernel) rfl (by decide) rfl (by decide +kernel),
    five_carried, by decide⟩

/-- R15: CONTINUE_FLOWS on an exhausted window carries the count alone, and its last entry the pointer 64 too. -/
theorem test_an_exhausted_window_carries_the_count_alone :
    (storeEntries [.blank] exhausted).answer = some (.ok, [0]) ∧
      (storeEntries [.blank] { exhausted with cls.loader.pointer := 63 }).answer = some (.ok, [1, 64, 1]) := by
  decide +kernel

/-- R77, R113 and R188: the head record of an empty list and the fields of an IDLE slot are absent one by one. -/
theorem test_absent_fields_have_a_presence_byte_each :
    headFields running = List.replicate (5 + 9) 0 ∧ sessionFields running none = List.replicate (15 + 86) 0 ∧
      headFields (holding running) = [1, 0, 1, 255, 1, 0, 64, 1, 0, 0, 0, 0, 1, 0] := by
  decide +kernel

theorem witness_ReadRequestsChangeNothing :
    (∃ s r p rest, Taken s .readFlow r p rest ∧ natAt p 0 1 ≤ 1 ∧ natAt p 1 1 < 64) ∧
    (∃ s r p rest, Taken s .readFlowStatus r p rest ∧ byteAt p 0 = 0) ∧
    (∃ s r p rest, Taken s .readPartition r p rest) ∧
    (∃ s r p rest, Taken s .readAnswer r p rest ∧ natAt p 0 1 < 16 ∧ byteAt p 1 = 0) ∧
    (∃ s r p rest, Taken s .readWake r p rest) ∧ (∃ s r p rest, Taken s .readHold r p rest ∧ byteAt p 0 = 0) ∧
    (∃ s r p rest, Taken s .readBays r p rest) ∧
    (∃ s r p rest, Taken s .readSession r p rest ∧ natAt p 0 1 < 4 ∧ byteAt p 1 = 0) ∧
    ∃ s r p rest, Taken s .readRetained r p rest ∧ natAt p 0 1 < 8 :=
  ⟨⟨_, _, [1, 63], _, takenInRun (by decide +kernel) rfl (by decide), by decide, by decide⟩,
    ⟨_, _, [0], _, takenInRun (by decide +kernel) rfl (by decide), rfl⟩,
    ⟨_, _, [], _, takenInRun (by decide +kernel) rfl (by decide)⟩,
    ⟨_, _, [15, 0], _, takenInRun (by decide +kernel) rfl (by decide), by decide, rfl⟩,
    ⟨_, _, [], _, takenInRun (by decide +kernel) rfl (by decide)⟩,
    ⟨_, _, [0], _, takenInRun (by decide +kernel) rfl (by decide), rfl⟩,
    ⟨_, _, [], _, takenInRun (by decide +kernel) rfl (by decide)⟩,
    ⟨_, _, [3, 0], _, takenInRun (by decide +kernel) rfl (by decide), by decide, rfl⟩,
    ⟨_, _, [7], _, takenInRun (by decide +kernel) rfl (by decide), by decide⟩⟩

theorem witness_ReadRequestsChangeNothing_refusals :
    ∀ q ∈ ([(.readFlow, [2, 0]), (.readFlow, [1, 64]), (.readAnswer, [16, 0]), (.readSession, [4, 0]),
        (.readRetained, [8])] : List (ReqKind × List Byte)),
      Taken (asking q.1 q.2 running) q.1 (asked q.1 q.2) q.2 [] ∧
        ((q.1 = .readFlow ∧ (1 < natAt q.2 0 1 ∨ 63 < natAt q.2 1 1)) ∨
          (q.1 = .readAnswer ∧ 15 < natAt q.2 0 1) ∨ (q.1 = .readSession ∧ 3 < natAt q.2 0 1) ∨
          (q.1 = .readRetained ∧ 7 < natAt q.2 0 1)) := by
  intro a ha
  have h : (parseRequest (ask a.1 a.2) = some (asked a.1 a.2) ∧ a.1.fixedLength ≤ a.2.length) ∧
      admission .run a.1 = .taken := by
    revert a
    decide +kernel
  refine ⟨takenInRun h.1.1 h.2 h.1.2, ?_⟩
  revert a
  decide +kernel

theorem witness_ClearingReadsClearTheirCounts :
    (∃ s r p rest, Taken s .readFlowStatus r p rest ∧ byteAt p 0 ≠ 0) ∧
    (∃ s r p rest, Taken s .readHold r p rest ∧ byteAt p 0 ≠ 0) ∧
    (∃ s r p rest, Taken s .readSession r p rest ∧ natAt p 0 1 < 4 ∧ byteAt p 1 ≠ 0) ∧
    (∃ s r p rest, Taken s .readAnswer r p rest ∧ natAt p 0 1 < 16 ∧ byteAt p 1 ≠ 0) ∧
    ∃ s r p rest, Taken s .readNotices r p rest :=
  ⟨⟨_, _, [1], _, takenInRun (by decide +kernel) rfl (by decide), by decide⟩,
    ⟨_, _, [255], _, takenInRun (by decide +kernel) rfl (by decide), by decide⟩,
    ⟨_, _, [3, 1], _, takenInRun (by decide +kernel) rfl (by decide), by decide, by decide⟩,
    ⟨_, _, [15, 1], _, takenInRun (by decide +kernel) rfl (by decide), by decide, by decide⟩,
    ⟨_, _, [], _, takenInRun (by decide +kernel) rfl (by decide)⟩⟩

theorem witness_RefusedRequestsChangeNothing :
    (∃ s r rest, Waits s .sleep r rest ∧ admission s.pow.box .sleep = .refused) ∧
    (∃ s r rest, Waits s .readHold r rest ∧ admission s.pow.box .readHold = .notAnswered) ∧
    (∃ s r rest p, Waits s .setBays r rest ∧ admission s.pow.box .setBays = .taken ∧ r.params = some p ∧
      p.length < ReqKind.setBays.fixedLength) ∧
    (∃ r, parseRequest (etherFrame 1 7 0x88B6 (num 2 5 ++ num 2 0x0B01)) = some r ∧ ∀ kind : ReqKind, r.kind ≠ kind.code) ∧
    ([] : List Byte).length < 18 := by
  refine ⟨⟨_, _, _, waits (p := []) (s := boxed .sleepEntry) (by decide +kernel) rfl (by decide), rfl⟩,
    ⟨_, _, _, waits (p := [0]) (s := asleep) (by decide +kernel) rfl (by decide), rfl⟩,
    ⟨_, _, _, List.replicate 16 0, waits (p := List.replicate 16 0) (s := running) (by decide +kernel) rfl (by decide),
      rfl, rfl, by decide⟩,
    ⟨{ src := 7, tag := 5, kind := 0x0B01, params := some [] }, by decide +kernel, ?_⟩, by decide⟩
  intro kind
  cases kind <;> decide

theorem witness_ResponseEnvelopeReadsBack :
    65535 < 65536 ∧ ([] : List Byte).length < 65536 ∧ 60 ≤ (List.replicate 60 (0 : Byte)).length ∧
      (List.replicate 60 (0 : Byte)).length ≤ 9212 ∧ State.reset.host.up = false ∧ running.host.up = true ∧
      running.host.sending = none ∧ running.host.responses = [] := by
  decide +kernel

theorem witness_SetPartitionChecksThenRebuilds :
    (∃ s r p rest, Taken s .setPartition r p rest ∧ natAt p 0 2 < 16) ∧
    (∃ s r p rest, Taken s .setPartition r p rest ∧ natAt p 0 2 = 256 ∧ natAt p 2 2 = 3584 ∧ s.hold.records = [] ∧
      (∀ slot ∈ s.pac.stage, slot = .free) ∧ (∀ i : Slot, s.pac.slots[i].session = none) ∧
      ∀ i : Fin 16, s.ans.records[i].valid = false) ∧
    ∃ s r p rest, Taken s .setPartition r p rest ∧ natAt p 0 2 = 16 ∧ natAt p 2 2 = 0 ∧ s.hold.records ≠ [] :=
  ⟨⟨_, _, [0, 15, 0, 0], _, takenInRun (by decide +kernel) rfl (by decide), by decide⟩,
    ⟨_, _, [1, 0, 14, 0], _, takenInRun (by decide +kernel) rfl (by decide),
      by decide +kernel⟩,
    ⟨_, _, [0, 16, 0, 0], _, taken (s := holding running) (by decide +kernel) rfl (by decide) rfl (by decide), by decide,
      by decide, by decide⟩⟩

/-- A valid answer record without checks. -/
def answering (timer : Option Nat) (checks : List Check) (s : State) : State :=
  { s with
    ans.records := s.ans.records.set 0
      { AnswerRecord.blank with valid := true, length := 60, checks := checks, timer := timer, holdoff := 1000 },
    ans.questions := [{ index := 0, data := List.replicate 60 0, length := 64 }] }

/-- Parameters of LOAD_ANSWER: index 15, one check, one substitution, a template of 60 bytes at the region's last
cell. -/
def template : List Byte :=
  [15, 1, 1, 0] ++ num 2 63 ++ num 2 60 ++ num 2 1000 ++ ([12, 1, 8] ++ List.replicate 15 0) ++ [6, 6, 0, 54] ++
    List.replicate 60 1

theorem witness_LoadAnswerStoresTheTemplate :
    ∃ s r rest, Taken s .loadAnswer r template rest ∧ s.ans.records[(0 : Fin 16)].valid = true ∧
      s.cells.part.answer ≤ 256 ∧ natAt template 0 1 < 16 ∧
      (template.drop 32).length = natAt template 6 2 ∧ natAt template 4 2 + 1 ≤ s.cells.part.answer ∧
      (∀ j : Fin 16, j.val ≠ natAt template 0 1 → s.ans.records[j].valid = true →
        63 + (60 + 255) / 256 ≤ s.ans.records[j].offset ∨
          s.ans.records[j].offset + (s.ans.records[j].length + 255) / 256 ≤ 63) ∧
      (∀ k ∈ parseChecks 1 (template.drop 10), 1 ≤ k.2 ∧ k.2 ≤ 16 ∧ k.1.offset ≤ 127) ∧
      ∀ t ∈ parseSubsts 1 (template.drop 28), 1 ≤ t.count ∧ t.count ≤ 16 ∧ t.offset ≤ 127 ∧ t.target + t.count ≤ 60 :=
  ⟨_, _, _, taken (s := answering none [] running) (by decide +kernel) rfl (by decide) rfl (by decide +kernel),
    by decide +kernel⟩

/-- Parameters of LOAD_ANSWER: index, the counts of one check and one substitution with their offsets, target, cell
offset, and a template of the given length. -/
def loading (index check count subst target cell length : Nat) (bytes : List Byte) : List Byte :=
  [BitVec.ofNat 8 index, 1, 1, 0] ++ num 2 cell ++ num 2 length ++ num 2 0 ++
    ([BitVec.ofNat 8 check, BitVec.ofNat 8 count] ++ List.replicate 16 0) ++
    ([BitVec.ofNat 8 subst, 1] ++ num 2 target) ++ bytes

/-- Sixty bytes of a template. -/
def sixty : List Byte := List.replicate 60 1

/-- For each reason of R81 parameters just beyond it; the last meet cell 0, where `answering` has record 0. -/
def refusedLoads : List (List Byte) :=
  [loading 16 0 1 0 0 0 60 sixty, [0, 5, 0, 0] ++ List.replicate 156 0, [0, 0, 5, 0] ++ List.replicate 86 0,
    loading 0 0 1 0 0 0 59 (sixty.drop 1), loading 0 0 1 0 0 0 1519 (List.replicate 1519 1),
    loading 0 0 1 0 0 0 61 sixty, loading 0 0 1 0 0 64 60 sixty, loading 0 0 17 0 0 0 60 sixty,
    loading 0 0 0 0 0 0 60 sixty, loading 0 128 1 0 0 0 60 sixty, loading 0 0 1 128 0 0 60 sixty,
    loading 0 0 1 0 60 0 60 sixty, loading 15 0 1 0 0 0 60 sixty]

theorem witness_LoadAnswerStoresTheTemplate_refusals :
    (∀ p ∈ refusedLoads,
        Taken (asking .loadAnswer p (answering none [] running)) .loadAnswer (asked .loadAnswer p) p []) ∧
      natAt refusedLoads[0] 0 1 = 16 ∧ natAt refusedLoads[1] 1 1 = 5 ∧ natAt refusedLoads[2] 2 1 = 5 ∧
      natAt refusedLoads[3] 6 2 = 59 ∧ natAt refusedLoads[4] 6 2 = 1519 ∧
      (refusedLoads[5].drop 32).length ≠ natAt refusedLoads[5] 6 2 ∧
      running.cells.part.answer < natAt refusedLoads[6] 4 2 + (60 + 255) / 256 ∧
      (∀ k ∈ parseChecks 1 (refusedLoads[7].drop 10), 16 < k.2) ∧
      (∀ k ∈ parseChecks 1 (refusedLoads[8].drop 10), k.2 = 0) ∧
      (∀ k ∈ parseChecks 1 (refusedLoads[9].drop 10), 127 < k.1.offset) ∧
      (∀ t ∈ parseSubsts 1 (refusedLoads[10].drop 28), 127 < t.offset) ∧
      (∀ t ∈ parseSubsts 1 (refusedLoads[11].drop 28), 60 < t.target + t.count) ∧
      natAt refusedLoads[12] 0 1 = 15 ∧ natAt refusedLoads[12] 4 2 = 0 ∧
      (let r := (answering none [] running).ans.records[(0 : Fin 16)]
       r.valid = true ∧ r.offset ≤ 0 ∧ 0 < r.offset + (r.length + 255) / 256) := by
  have h : ∀ p ∈ refusedLoads,
      parseRequest (ask .loadAnswer p) = some (asked .loadAnswer p) ∧ ReqKind.loadAnswer.fixedLength ≤ p.length := by
    decide +kernel
  exact ⟨fun p hp => taken (h p hp).1 rfl (by decide) rfl (h p hp).2, by decide +kernel⟩

theorem witness_QuestionsAreTestedInOrder :
    (∃ s r p rest, Taken s .clearAnswer r p rest ∧ natAt p 0 1 = 15) ∧
    (∃ s r p rest, Taken s .clearAnswer r p rest ∧ natAt p 0 1 = 16) ∧
    (answering none [] running).ans.records[(1 : Fin 16)].valid = false ∧
    (answering none [] running).ans.records[(0 : Fin 16)].valid = true ∧
    (answering none [{ offset := 60, expected := [0] }] running).ans.records[(0 : Fin 16)].tooShort 60 = true ∧
    (answering none [{ offset := 59, expected := [1] }] running).ans.records[(0 : Fin 16)].checksHold
      (List.replicate 60 0) = false ∧
    (answering (some 1) [{ offset := 59, expected := [0] }] running).ans.records[(0 : Fin 16)].tooShort 60 = false ∧
    (answering (some 1) [] running).ans.records[(0 : Fin 16)].timer ≠ none ∧
    (answering (some 0) [] running).ans.records[(0 : Fin 16)].timer = some 0 ∧
    (answering none [{ offset := 59, expected := [0] }] running).ans.records[(0 : Fin 16)].checksHold
      (List.replicate 60 0) = true ∧
    (let s : State :=
       { answering none [] running with ans.answers := List.replicate 4 { record := 0, data := [] } }
     s.ans.records[(0 : Fin 16)].timer = none ∧ 4 ≤ s.ans.answers.length + s.ans.sending.isSome.toNat) :=
  ⟨⟨_, _, [15], _, takenInRun (by decide +kernel) rfl (by decide), by decide⟩,
    ⟨_, _, [16], _, takenInRun (by decide +kernel) rfl (by decide), by decide⟩, by decide +kernel⟩

/-- An answer record with two substitutions whose answer ranges overlap. -/
def overlapping : AnswerRecord :=
  { AnswerRecord.blank with
    length := 60, substs := [{ offset := 6, count := 4, target := 0 }, { offset := 58, count := 2, target := 2 }] }

theorem witness_QuestionsAreTestedInOrder_substitutions :
    (∀ u ∈ overlapping.substs, u.offset + u.count ≤ (List.replicate 60 (0 : Byte)).length ∧ u.target + u.count ≤ sixty.length) ∧
      overlapping.substs = [] ++ { offset := 6, count := 4, target := 0 } :: [{ offset := 58, count := 2, target := 2 }] ∧
      ∀ v ∈ ([{ offset := 58, count := 2, target := 2 }] : List Subst), 1 < v.target ∨ v.target + v.count ≤ 1 := by
  decide

/-- R86: the later substitution stands where the two overlap, and the template beyond them. -/
theorem test_the_later_substitution_wins :
    (overlapping.fill sixty ((List.range 60).map (BitVec.ofNat 8))).take 5 = [6, 7, 58, 59, 1] := by
  decide +kernel

/-! ### Power -/

/-- A session with one grant outstanding on stage slot 0, one block received and undelivered. -/
def session : Session :=
  { newSession Profile.default 9 1 40 3 0 with
    received := 1, undelivered := 1, todo := 38, nextSeq := 3, outstanding := [{ seq := 2, stage := 0, deadline := 250 }] }

/-- A state whose slot 3 holds that session. -/
def pacing (x : Session) (s : State) : State :=
  { s with pac.slots := s.pac.slots.set 3 { session := some x, leftBehind := 0 } }

theorem witness_SleepNeedsEverySlotIdle :
    (∃ s r p rest, Taken s .sleep r p rest ∧ ∃ i : Slot, s.pac.slots[i].session ≠ none) ∧
    ∃ s r p rest, Taken s .sleep r p rest ∧ ∀ i : Slot, s.pac.slots[i].session = none :=
  ⟨⟨_, _, [], _, taken (s := pacing session running) (by decide +kernel) rfl (by decide) rfl (by decide), 3,
      by decide +kernel⟩,
    ⟨_, _, [], _, takenInRun (by decide +kernel) rfl (by decide), by decide +kernel⟩⟩

/-- A box in SLEEP_ENTRY, with the BUTTON source pending or not. -/
def entering (pending : Bool) : State :=
  { boxed .sleepEntry with pow.entryTimer := some 0, pow.button := { running.pow.button with pending := pending } }

theorem witness_SleepEntryCompletes :
    running.pow.box ≠ .sleepEntry ∧ (entering false).pow.box = .sleepEntry ∧
      (entering false).pow.entryTimer = some 0 ∧ running.pow.entryTimer ≠ some 0 ∧
      (entering false).pow.anyPending = false ∧ (entering true).pow.anyPending = true := by decide

/-- The demanded set and the sources that a wake leaves, two sources of three pending, one of them ONE_SHOT. -/
theorem witness_SleepEntryCompletes_wake :
    let w : WakeSource := { enable := true, pending := true, arm := .oneShot, bays := 6 }
    let p : Power :=
      { (entering true).pow with
        lan := { w with pending := false }, signature := w, alarm := { w with arm := .continuous, bays := 1 } }
    let demanded : BaySet := 7
    (∀ b : Bay, hasBay demanded b =
      ((p.lan.pending && hasBay p.lan.bays b) || (p.signature.pending && hasBay p.signature.bays b) ||
        (p.button.pending && hasBay p.button.bays b) || (p.alarm.pending && hasBay p.alarm.bays b) ||
        (p.bay.pending && hasBay p.bay.bays b))) ∧
    p.wakeBays = demanded ∧ w.spent = { w with pending := false, enable := false } ∧ p.alarm.spent.enable = true := by
  decide +kernel

/-- The sources after a wake, as the statement describes them. -/
theorem witness_SleepEntryCompletes_spent (w : WakeSource) :
    w.spent = { w with pending := false, enable := if w.pending = true ∧ w.arm = .oneShot then false else w.enable } := by
  simp only [WakeSource.spent]
  cases w.enable <;> cases w.pending <;> cases w.arm <;> rfl

theorem witness_TheWakeSequenceRunsByItsTimers :
    (∃ s : State, s.pow.box = .waking .railSettle ∧ s.pow.stabTimer = some 0) ∧
    (∃ s : State, s.pow.box = .waking .hostBoot ∧ s.pow.bootTimer = some 0) ∧
    (∃ s : State, s.pow.box = .waking .retryOff ∧ s.pow.retryTimer = some 0 ∧ s.pow.attempts = 1) ∧
    State.reset.pow.stabTimer ≠ some 0 :=
  ⟨⟨{ boxed (.waking .railSettle) with pow.stabTimer := some 0 }, by decide⟩,
    ⟨{ boxed (.waking .hostBoot) with pow.bootTimer := some 0 }, by decide⟩,
    ⟨{ boxed (.waking .retryOff) with pow.retryTimer := some 0, pow.attempts := 1 }, by decide⟩, by decide⟩

theorem witness_WakeFaultDiscardsWhatWaited :
    ∃ s : State, s.pow.box = .waking .retryOff ∧ s.pow.retryTimer = some 0 ∧ s.pow.attempts = 2 ∧
      s.hold.records ≠ [] ∧ ∃ i : Slot, s.pac.slots[i].session ≠ none :=
  ⟨{ holding (pacing session (boxed (.waking .retryOff))) with pow.retryTimer := some 0, pow.attempts := 2 },
    by decide +kernel⟩

/-- A host that boots after it was lost, with the host link busy. -/
def recovering : State :=
  { boxed (.waking .hostBoot) with host.sending := some (.response []), pow.record.causes := .hostLost }

/-- A state with one record held and the head of the delivery FIFO FILLED, neither taken. -/
def resuming (s : State) : State :=
  { holding s with pac.stage := [.filled { slot := 3, tag := 1, seq := 1 } 2], pac.fifo := [0] }

theorem witness_ReadyReachesRun_resumes :
    (∃ r p rest, Taken (asking .ready [] (resuming recovering)) .ready r p rest) ∧ recovering.host.up = true ∧
      (resuming recovering).hold.records = [held] ∧ held.stale = false ∧ (resuming recovering).hold.sending = false ∧
      (resuming recovering).pac.delivery = none ∧
      (resuming recovering).pac.stage.getD 0 .free = .filled { slot := 3, tag := 1, seq := 1 } 2 :=
  ⟨⟨_, [], _, taken (by decide +kernel) rfl (by decide) rfl (by decide)⟩, by decide +kernel⟩

theorem witness_ReadyReachesRun :
    (∃ s r p rest, Taken s .ready r p rest ∧ s.pow.record.causes ≠ .hostLost ∧ s.host.up = false) ∧
    (∃ s r p rest, Taken s .ready r p rest ∧ s.pow.record.causes = .hostLost ∧ s.host.up = false) ∧
    ∃ s r p rest, Taken s .ready r p rest ∧ s.pow.record.causes = .hostLost ∧ s.host.up = true ∧
      s.note.kinds[(7 : Fin 9)].enable = true ∧ s.host.sending.isSome = true ∧ s.host.responses.length ≤ 7 :=
  ⟨⟨_, _, [], _,
      taken (s := { boxed (.waking .hostBoot) with host.up := false }) (by decide +kernel) rfl (by decide) rfl
        (by decide), by decide +kernel⟩,
    ⟨_, _, [], _,
      taken (s := { recovering with host.up := false }) (by decide +kernel) rfl (by decide) rfl (by decide),
      by decide +kernel⟩,
    ⟨_, _, [], _, taken (s := recovering) (by decide +kernel) rfl (by decide) rfl (by decide), by decide +kernel⟩⟩

theorem witness_HeartbeatLapseLosesTheHost :
    (∃ s : State, s.pow.box = .run ∧ s.pow.heartbeatTimer = some 0) ∧ running.pow.heartbeatTimer ≠ some 0 :=
  ⟨⟨{ running with pow.timing.heartbeat := 1, pow.heartbeatTimer := some 0 }, rfl, rfl⟩, by decide⟩

theorem witness_ButtonEventsByBoxState :
    ButtonEdge.release ≠ running.pow.buttonEdge ∧ heldInReset.pow.held ≠ none ∧ running.pow.held = none ∧
      ButtonEdge.press = running.pow.buttonEdge ∧ running.pow.box = .run ∧
      (entering false).pow.box = .sleepEntry ∧ (entering false).pow.button.enable = true ∧ asleep.pow.box = .sleep ∧
      asleep.pow.button.enable = true ∧ asleep.pow.anyPending = false ∧
      ({ asleep with pow.latch := true } : State).pow.latch = true ∧
      (boxed (.waking .hostBoot)).pow.box = .waking .hostBoot := by
  decide +kernel

theorem witness_MinutesAndAlarms :
    running.pow.clock.set = false ∧ (clocked 0 false).pow.clock.due = false ∧ heldInReset.pow.held ≠ none ∧
      (∀ box ∈ [BoxState.run, .waking .hostBoot, .sleepEntry, .sleep],
        let s : State := { clocked 10079 true with pow.box := box }
        s.pow.clock.set = true ∧ s.pow.clock.due = true ∧ s.pow.held = none ∧
          s.pow.alarms[(7 : Fin 8)].on = true ∧ s.pow.alarms[(7 : Fin 8)].minute = 0 ∧
          s.pow.alarm.enable = true ∧ s.pow.latch = false ∧ s.pow.anyPending = false ∧
          ∀ j : Fin 8, j < 7 → s.pow.alarms[j].on = false) ∧
      ∀ i : Fin 8, (clocked 0 true).pow.alarms[i].on = true → (clocked 0 true).pow.alarms[i].minute ≠ 1 := by
  decide +kernel

theorem witness_PowerSettingsAreStored :
    (∃ s r p rest, Taken s .setClock r p rest) ∧ (∃ s r p rest, Taken s .setAlarms r p rest) ∧
    (∃ s r p rest, Taken s .setTiming r p rest) ∧ ∃ s r p rest, Taken s .heartbeat r p rest :=
  ⟨⟨_, _, [255, 255], _, takenInRun (by decide +kernel) rfl (by decide)⟩,
    ⟨_, _, List.replicate 24 255, _, takenInRun (by decide +kernel) rfl (by decide)⟩,
    ⟨_, _, [12, 20, 0, 255], _, takenInRun (by decide +kernel) rfl (by decide)⟩,
    ⟨_, _, [], _, takenInRun (by decide +kernel) rfl (by decide)⟩⟩

theorem witness_SetWakeReplacesOneSource :
    (∃ s r p rest, Taken s .setWake r p rest ∧ natAt p 0 1 = 5) ∧
    (∃ s r p rest, Taken s .setWake r p rest ∧ natAt p 2 1 ≤ 1 ∧ natAt p 3 1 ≤ 15 ∧ natAt p 0 1 = 0) ∧
    (∃ s r p rest, Taken s .setWake r p rest ∧ natAt p 2 1 ≤ 1 ∧ natAt p 3 1 ≤ 15 ∧ natAt p 0 1 = 1) ∧
    (∃ s r p rest, Taken s .setWake r p rest ∧ natAt p 2 1 ≤ 1 ∧ natAt p 3 1 ≤ 15 ∧ natAt p 0 1 = 2 ∧ natAt p 4 1 ≤ 1) ∧
    (∃ s r p rest, Taken s .setWake r p rest ∧ natAt p 2 1 ≤ 1 ∧ natAt p 3 1 ≤ 15 ∧ natAt p 0 1 = 3) ∧
    ∃ s r p rest, Taken s .setWake r p rest ∧ natAt p 2 1 ≤ 1 ∧ natAt p 3 1 ≤ 15 ∧ natAt p 0 1 = 4 ∧ natAt p 4 1 ≤ 1 :=
  ⟨⟨_, _, [5, 1, 0, 0, 0], _, takenInRun (by decide +kernel) rfl (by decide), by decide⟩,
    ⟨_, _, [0, 1, 1, 15, 9], _, takenInRun (by decide +kernel) rfl (by decide), by decide⟩,
    ⟨_, _, [1, 1, 1, 15, 9], _, takenInRun (by decide +kernel) rfl (by decide), by decide⟩,
    ⟨_, _, [2, 1, 1, 15, 1], _, takenInRun (by decide +kernel) rfl (by decide), by decide⟩,
    ⟨_, _, [3, 1, 1, 15, 9], _, takenInRun (by decide +kernel) rfl (by decide), by decide⟩,
    ⟨_, _, [4, 1, 0, 0, 0], _, takenInRun (by decide +kernel) rfl (by decide), by decide⟩⟩

/-! ### Hold queue -/

theorem witness_HeldFramesAreTestedInOrder :
    running.pow.latch = false ∧ running.hold.overflow = false ∧ running.hold.records.length < 512 ∧
      (9216 + 255) / 256 ≤ running.cells.part.hold - running.cells.ring.used ∧
      (let full : State := { running with cells.ring.used := 2048 }; full.cells.part.hold - full.cells.ring.used < 1) ∧
      512 ≤ (List.replicate 512 held).length := by decide +kernel

theorem witness_AppendedFramesReadBack :
    let s : State := { running with cells.ring := { head := 6, tail := 2047, used := 2041 } }
    2 = (300 + 255) / 256 ∧ s.cells.ring.tail < s.cells.part.hold ∧ 2 ≤ s.cells.part.hold ∧
      s.cells.part.answer + s.cells.part.hold ≤ 4096 := by decide

theorem witness_ReleaseJudgesTheHead :
    (∃ s : State, ∃ r rest, s.pow.box = .run ∧ s.host.up = true ∧ s.hold.sending = false ∧ s.hold.records = r :: rest ∧
      r.stale = false ∧ s.host.sending.isSome = true) ∧
    (∃ s : State, ∃ r rest, s.pow.box = .run ∧ s.host.up = true ∧ s.hold.sending = false ∧ s.hold.records = r :: rest ∧
      r.stale = true) ∧
    (∃ s r p rest, Taken s .clearHold r p rest) ∧ asleep.pow.box ≠ .run ∧
    running.hold.limit * 1000 < ((10001 : Word32) - held.arrival).toNat ∧
    ¬ running.hold.limit * 1000 < ((10000 : Word32) - held.arrival).toNat :=
  ⟨⟨{ holding running with host.sending := some (.response []) }, held, [], rfl, rfl, rfl, rfl, rfl, rfl⟩,
    ⟨{ running with hold.records := [{ held with stale := true }] }, { held with stale := true }, [], rfl, rfl, rfl, rfl,
      rfl⟩,
    ⟨_, _, [], _, takenInRun (by decide +kernel) rfl (by decide)⟩, by decide, by decide, by decide⟩

/-- R67: with the limit of 10 s a record of age 10,000 ms stays FRESH and one of age 10,001 is STALE. -/
theorem test_records_are_stale_beyond_the_limit :
    (held.aged 10 10000).stale = false ∧ (held.aged 10 10001).stale = true := by decide

/-! ### Bays -/

/-- A bay record in a state, with power and timers as that state has them. -/
def bayIn (state : BayState) : BayRecord :=
  { running.bay.bays[(0 : Fin 4)] with
    state := state, pwr := decide (state = .spinning) || decide (state = .ready),
    spinTimer := if state = .spinning then some 0 else none, idleTimer := if state = .ready then some 0 else none }

/-- A box whose bays are in the given states, the QUEUED ones queued in ascending order. -/
def drives (a b c d : BayState) : State :=
  { running with
    bay.bays := #v[bayIn a, bayIn b, bayIn c, bayIn d],
    bay.queue := allBays.filter fun i => decide (#v[a, b, c, d][i] = .queued) }

theorem witness_DemandsQueueAndTheHeadIsTried :
    (let s : State := { drives .off .ready .queued .absent with bay.budget := 0 }
     ∀ i : Bay, s.bay.freeBudget < s.bay.bays[i].settings.cost) ∧
    (drives .off .ready .absent .absent).bay.queue = [] ∧
    (∃ b rest, (drives .off .ready .queued .absent).bay.queue = b :: rest ∧
      (drives .off .ready .queued .absent).bay.bays[b].settings.cost ≤
        (drives .off .ready .queued .absent).bay.freeBudget) ∧
    ∃ b rest, (drives .spinning .spinning .queued .absent).bay.queue = b :: rest ∧
      (drives .spinning .spinning .queued .absent).bay.freeBudget <
        (drives .spinning .spinning .queued .absent).bay.bays[b].settings.cost :=
  ⟨by decide +kernel, by decide +kernel, ⟨2, [], by decide +kernel, by decide +kernel⟩,
    ⟨2, [], by decide +kernel, by decide +kernel⟩⟩

/-- The bay records after a demand of bays 0, 1 and 2 are those the statement describes. -/
theorem witness_DemandsQueueAndTheHeadIsTried_bays :
    let s := drives .off .ready .queued .off
    let r := s.bay.bays[(1 : Fin 4)]
    (7 : BaySet) ≠ 0 ∧
    ∀ i : Bay, #v[bayIn .queued, { r with idleTimer := r.idleTimer.bind fun _ => r.settings.idleStart }, bayIn .queued,
        bayIn .off][i] =
      if hasBay 7 i = true ∧ s.bay.bays[i].state = .off then { s.bay.bays[i] with state := .queued }
      else if hasBay 7 i = true ∧ s.bay.bays[i].state = .ready ∧ s.bay.bays[i].idleTimer ≠ none then
        { s.bay.bays[i] with
          idleTimer :=
            if s.bay.bays[i].settings.idle = 0 then none else some (s.bay.bays[i].settings.idle * 60000) }
      else s.bay.bays[i] := by
  decide +kernel

/-- The bays of a state built by `drives` agree. -/
theorem drives_agree : BaysAgree (drives .off .ready .queued .spinning) ∧ BaysAgree (drives .absent .off .ready .queued) := by
  unfold BaysAgree
  decide +kernel

/-- A bay that one session needs. -/
def needing (i : Bay) (s : State) : State :=
  { s with bay.bays := vecMod s.bay.bays i fun b => { b with needed := 1 } }

/-- The bays of such a state agree as before. -/
theorem needing_agree :
    BaysAgree (needing 3 (drives .off .ready .queued .spinning)) ∧ BaysAgree (needing 0 (drives .absent .off .ready .queued)) := by
  unfold BaysAgree
  decide +kernel

theorem witness_PresenceEdgesChangeTheBay :
    (BaysAgree (drives .off .ready .queued .spinning) ∧ BaysAgree (drives .absent .off .ready .queued)) ∧
      (BaysAgree (needing 3 (drives .off .ready .queued .spinning)) ∧
        BaysAgree (needing 0 (drives .absent .off .ready .queued))) ∧
      (drives .absent .off .ready .queued).bay.bays[(0 : Fin 4)].state = .absent ∧
      (∀ i : Fin 4, (drives .off .ready .queued .spinning).bay.bays[i].state ≠ .absent) ∧
      (drives .off .ready .queued .spinning).bay.queue.head? = some 2 ∧
      0 < (needing 0 (drives .absent .off .ready .queued)).bay.bays[(0 : Fin 4)].needed ∧
      0 < (needing 3 (drives .off .ready .queued .spinning)).bay.bays[(3 : Fin 4)].needed ∧
      heldInReset.pow.held ≠ none ∧ running.pow.held = none ∧ running.pow.bay.enable = false ∧
      (∀ edge ∈ [PresenceEdge.insert, .remove], ∀ box ∈ [BoxState.sleepEntry, .sleep],
        let s : State := { boxed box with pow.bay.enable := true, pow.bayEdge := edge }
        (s.pow.bayEdge = edge ∧ s.pow.bay.enable = true ∧ s.pow.latch = false) ∧ s.pow.anyPending = false) ∧
      (∀ j : Slot, running.pac.slots[j] =
        { running.pac.slots[j] with session := running.pac.slots[j].session.map Session.fallen }) ∧
      ((pacing session running).pac.slots[(3 : Slot)].session = some session ∧ hasBay session.bays 1 = true ∧
        (∀ k : Slot, k < 3 → (pacing session running).pac.slots[k].session = none)) :=
  ⟨drives_agree, needing_agree, by decide +kernel⟩

theorem witness_BayTimersAndActivity :
    (drives .off .ready .absent .spinning).bay.bays[(3 : Fin 4)].state = .spinning ∧
      (drives .off .ready .absent .spinning).bay.bays[(3 : Fin 4)].spinTimer = some 0 ∧
      (drives .off .ready .absent .spinning).bay.bays[(0 : Fin 4)].state ≠ .spinning ∧
      (drives .off .ready .absent .spinning).bay.bays[(1 : Fin 4)].state = .ready ∧
      (drives .off .ready .absent .spinning).bay.bays[(1 : Fin 4)].idleTimer = some 0 ∧
      heldInReset.pow.held ≠ none ∧ running.pow.held = none := by decide +kernel

/-- Four bays, one in each state that SPIN_DOWN finds power in or leaves as it is. -/
def fourBays : State := drives .off .ready .queued .spinning

theorem witness_SpinRequests :
    (∃ s r p rest, Taken s .spinUp r p rest ∧ natAt p 0 1 = 16) ∧
    (∃ s r p rest, Taken s .spinUp r p rest ∧ natAt p 0 1 = 15) ∧
    (∃ s r p rest, Taken s .spinDown r p rest ∧ BaysAgree s ∧ natAt p 0 1 = 4) ∧
    (∃ s r p rest, Taken s .spinDown r p rest ∧ BaysAgree s ∧ natAt p 0 1 = 0 ∧ s.bay.bays[(0 : Fin 4)].state = .absent) ∧
    (∃ s r p rest, Taken s .spinDown r p rest ∧ BaysAgree s ∧ natAt p 0 1 = 3 ∧
      s.bay.bays[(3 : Fin 4)].state ≠ .absent ∧ 0 < s.bay.bays[(3 : Fin 4)].needed) ∧
    ∀ i : Bay, Taken (asking .spinDown [BitVec.ofNat 8 i.val] fourBays) .spinDown
        (asked .spinDown [BitVec.ofNat 8 i.val]) [BitVec.ofNat 8 i.val] [] ∧ BaysAgree fourBays ∧
      natAt [BitVec.ofNat 8 i.val] 0 1 = i.val ∧ fourBays.bay.bays[i].state ≠ .absent ∧ fourBays.bay.bays[i].needed = 0 := by
  have h : ∀ i : Bay, parseRequest (ask .spinDown [BitVec.ofNat 8 i.val]) = some (asked .spinDown [BitVec.ofNat 8 i.val]) ∧
      natAt [BitVec.ofNat 8 i.val] 0 1 = i.val ∧ fourBays.bay.bays[i].state ≠ .absent ∧
      fourBays.bay.bays[i].needed = 0 := by decide +kernel
  exact
    ⟨⟨_, _, [16], _, takenInRun (by decide +kernel) rfl (by decide), by decide⟩,
      ⟨_, _, [15], _, takenInRun (by decide +kernel) rfl (by decide), by decide⟩,
      ⟨_, _, [4], _, taken (s := drives .absent .off .ready .queued) (by decide +kernel) rfl (by decide) rfl (by decide),
        drives_agree.2, by decide⟩,
      ⟨_, _, [0], _, taken (s := drives .absent .off .ready .queued) (by decide +kernel) rfl (by decide) rfl (by decide),
        drives_agree.2, by decide, by decide +kernel⟩,
      ⟨_, _, [3], _, taken (s := needing 3 fourBays) (by decide +kernel) rfl (by decide) rfl (by decide), needing_agree.1,
        by decide, by decide +kernel, by decide +kernel⟩,
      fun i => ⟨taken (h i).1 rfl (by decide) rfl (by show 1 ≤ 1; decide), drives_agree.1, (h i).2⟩⟩

theorem witness_SetBaysStoresClampedSettings :
    (∃ s r p rest, Taken s .setBays r p rest ∧ ∃ i : Bay, 2 < natAt p (4 * i.val + 3) 1) ∧
    (∃ s r p rest, Taken s .setBays r p rest ∧ (∀ i : Bay, natAt p (4 * i.val + 3) 1 ≤ 2) ∧
      ∃ i : Bay, s.bay.bays[i].state = .queued) ∧
    ∃ s r p rest, Taken s .setBays r p rest ∧ (∀ i : Bay, natAt p (4 * i.val + 3) 1 ≤ 2) ∧
      ∀ i : Bay, s.bay.bays[i].state ≠ .queued ∧ s.bay.bays[i].state ≠ .spinning :=
  ⟨⟨_, _, List.replicate 17 3, _, takenInRun (by decide +kernel) rfl (by decide), 3, by decide⟩,
    ⟨_, _, List.replicate 17 2, _,
      taken (s := drives .off .ready .queued .spinning) (by decide +kernel) rfl (by decide) rfl (by decide), by decide, 2,
      by decide +kernel⟩,
    ⟨_, _, List.replicate 17 0, _,
      taken (s := drives .off .ready .absent .off) (by decide +kernel) rfl (by decide) rfl (by decide), by decide,
      by decide +kernel⟩⟩

/-! ### Sessions -/

/-- A pacing frame of peer 9 that the classifier handed over. -/
def handed (ptype : Byte) (tag seq value : Nat) (rest : List Byte) : Handover :=
  { peer := 9, ptype := some ptype, payload := [ptype, 0] ++ num 2 tag ++ num 4 seq ++ num 4 value ++ rest,
    length := 64, profile := 0, bays := 1 }

/-- A state with one pacing frame handed over. -/
def takes (h : Handover) (s : State) : State := { s with pac.incoming := [h] }

/-- A state whose four slots hold sessions of the peers 11 to 14. -/
def crowded : State :=
  { running with
    pac.slots := #v[{ session := some { session with peer := 11 }, leftBehind := 0 },
      { session := some { session with peer := 12 }, leftBehind := 0 },
      { session := some { session with peer := 13 }, leftBehind := 0 },
      { session := some { session with peer := 14 }, leftBehind := 0 }] }

/-- A state in which the LAN sends. -/
def lanBusy (s : State) : State := { s with lan.sending := some (.host []) }

theorem witness_OffersAreDecidedByTheTable :
    (handed 1 5 0 0 []).message = some .offer ∧ (handed 1 5 0 0 []).nb = 0 ∧
      (handed 1 5 0 40 []).message = some .offer ∧ (handed 1 5 0 40 []).nb ≠ 0 ∧
      ({ asleep with pow.latch := true } : State).pow.latch = true ∧ running.pow.latch = false ∧
      ({ running with cells.part.stage := 0 } : State).cells.part.stage / 32 = 0 ∧
      running.cells.part.stage / 32 ≠ 0 ∧
      ((pacing session running).pac.slots[(3 : Fin 4)].session = some session ∧ session.peer = (handed 1 5 0 40 []).peer ∧
        ∀ j : Fin 4, j < 3 → (pacing session running).pac.slots[j].session = none) ∧
      ((handed 1 5 0 (16777216 + 40) []).followOn = true ∧ session.followOn = none ∧
        (pacing session running).pac.profiles[(handed 1 5 0 (16777216 + 40) []).profile].followOn = true) ∧
      (handed 1 5 0 40 []).followOn = false ∧
      (∀ i : Fin 4, crowded.pac.slots[i].session ≠ none) ∧ (∀ i : Fin 4, running.pac.slots[i].session = none) ∧
      (lanBusy running).lan.sending.isSome = true ∧ (lanBusy running).pac.queue.length < 32 := by
  decide +kernel

/-- R112 at the limits: HALT joins 31 waiting messages and not 32, DECLINE 27 and not 28, a GRANT is queued with 23
waiting; on a LAN that is UP and free the head starts. -/
theorem witness_OffersAreDecidedByTheTable_room :
    let q (n : Nat) (s : State) : State := { s with pac.queue := List.replicate n (tallyMsg 1 2 3) }
    let d := declineMsg 7 5 .noSlot
    ((q 31 running).pac.queue.length < 32 ∧ (haltMsg 7 5 0 .hostHalt).kind ≠ .grant ∧ 32 ≤ (q 32 running).pac.queue.length) ∧
    (queueMsg d (q 27 (lanBusy running))).pac.queue.length = 28 ∧ (queueMsg d (q 28 (lanBusy running))).pac.replyLost = 1 ∧
    (grantMsg 7 5 1 2).kind = .grant ∧ (q 23 running).pac.queue.length < 24 ∧
    (lanBusy running).lan.sending.isSome = true ∧ running.lan.up = true ∧ running.lan.sending = none ∧
    (q 0 running).pac.queue ++ [d] = [d] := by
  decide +kernel

/-- The bay records after the give-up and the take of a session's start are those the statement describes. -/
theorem witness_OffersAreDecidedByTheTable_bays :
    let s := needing 1 (drives .off .ready .queued .spinning)
    let bays := (changeNeeded 2 9 s).bay.bays
    ∀ b : Bay, ∃ n, n = s.bay.bays[b].needed - (hasBay 2 b).toNat + (hasBay 9 b).toNat ∧ bays[b] =
      { s.bay.bays[b] with
        needed := n,
        idleTimer :=
          if s.bay.bays[b].state = .ready ∧ s.bay.bays[b].needed = 0 ∧ 0 < n then none
          else if s.bay.bays[b].state = .ready ∧ 0 < s.bay.bays[b].needed ∧ n = 0 then
            (if s.bay.bays[b].settings.idle = 0 then none else some (s.bay.bays[b].settings.idle * 60000))
          else s.bay.bays[b].idleTimer } := by
  intro s bays b
  refine ⟨_, rfl, ?_⟩
  revert b
  decide +kernel

/-- The session of `session` meets R113. -/
theorem session_lawful : session.lawful := by
  unfold Session.lawful
  decide +kernel

/-- A box state in which a BLOCK under the grant of sequence 2 waits, accepted by the session of `session`. -/
def Accepts (box : BoxState) : Prop :=
  ∃ (s : State) (h : Handover) (rest : List Handover) (i : Slot) (x : Session) (g : Grant),
    x.lawful ∧ s.pac.incoming = h :: rest ∧ h.message = some .block ∧ s.pow.box = box ∧
      s.pac.slotOf h.peer = some (i, x) ∧ x.tag = h.tag ∧ g ∈ x.outstanding ∧ g.seq = h.seq ∧
      g.stage < s.pac.stage.length ∧
      256 * (s.cells.part.answer + s.cells.part.hold + 32 * g.stage) + 8192 ≤ storeBytes ∧ h.value = 2

/-- The state in which it waits. -/
def accepting (box : BoxState) : State := takes (handed 5 1 2 2 [170, 187]) (pacing session (boxed box))

theorem witness_AcceptedBlocksFillTheirStageSlot_entry : Accepts .sleepEntry :=
  ⟨accepting .sleepEntry, _, [], 3, session, { seq := 2, stage := 0, deadline := 250 }, session_lawful, rfl,
    by decide +kernel⟩

theorem witness_AcceptedBlocksFillTheirStageSlot_run : Accepts .run :=
  ⟨accepting .run, _, [], 3, session, { seq := 2, stage := 0, deadline := 250 }, session_lawful, rfl,
    by decide +kernel⟩

theorem witness_AcceptedBlocksFillTheirStageSlot :
    ((accepting .run).host.up = true ∧ (accepting .run).pac.delivery = none ∧ (accepting .run).pac.fifo = []) ∧
    let s : State :=
      { accepting .run with
        pac.stage := running.pac.stage.set 61 (.filled { slot := 0, tag := 4, seq := 1 } 8128), pac.fifo := [61] }
    61 < s.pac.stage.length ∧ s.pac.stage.getD 61 .free = .filled { slot := 0, tag := 4, seq := 1 } 8128 ∧
      256 * (s.cells.part.answer + s.cells.part.hold + 32 * 61) + 8192 ≤ storeBytes := by
  decide +kernel

/-- A session that holds a follow-on offer of tag 77. -/
def followed : Session := { session with followOn := some { tag := 77, nb := 8, profile := 1, bays := 0 } }

theorem witness_StraysErrorsAndWithdrawals :
    (handed 5 1 9 1 [0]).message = some .block ∧ (pacing session running).pac.slotOf 9 = some (3, session) ∧
      session.tag = (handed 5 1 9 1 [0]).tag ∧ (∀ g ∈ session.outstanding, g.seq ≠ (handed 5 1 9 1 [0]).seq) ∧
      running.pac.slotOf 9 = none ∧ session.tag ≠ (handed 5 2 9 1 [0]).tag ∧ (handed 7 1 0 0 []).message = none ∧
      (handed 8 1 0 0 []).message = some .withdraw ∧ session.tag = (handed 8 1 0 0 []).tag ∧
      (pacing followed running).pac.slotOf 9 = some (3, followed) ∧ followed.tag ≠ (handed 8 77 0 0 []).tag ∧
      (followed.followOn.any fun f => decide (f.tag = (handed 8 77 0 0 []).tag)) = true ∧
      (followed.followOn.all fun f => decide (f.tag ≠ (handed 8 78 0 0 []).tag)) = true ∧
      ({ handed 5 1 1 1 [] with ptype := none } : Handover).ptype = none ∧
      (handed 5 1 1 8129 (List.replicate 8129 0)).value = 8129 ∧
      (handed 5 1 1 8128 (List.replicate 8128 0)).value = 8128 ∧
      8128 ≤ (handed 5 1 1 8128 (List.replicate 8128 0)).payload.length - 12 ∧ (handed 5 1 1 0 []).value = 0 := by
  decide +kernel

/-- Two stage slots, the first reserved for the session of `session`. -/
def staged (s : State) : State :=
  { s with pac.stage := [.reserved { slot := 3, tag := 1, seq := 2 }, .free] }

theorem witness_TheArbiterServesTheEarliestSession :
    (∀ slot ∈ ({ running with pac.stage := [] } : State).pac.stage, slot ≠ .free) ∧
      (∀ i : Fin 4, running.pac.slots[i].session = none) ∧
      (let s := lanBusy (staged (pacing session running))
       s.pac.stage.getD 1 .free = .free ∧ 1 < s.pac.stage.length ∧ (∀ j < 1, s.pac.stage.getD j .free ≠ .free) ∧
         s.pac.slots[(3 : Fin 4)].session = some session ∧ sessionReady s session = true ∧
         (∀ j : Fin 4, j < 3 → s.pac.slots[j].session = none) ∧ s.lan.sending.isSome = true) := by
  decide +kernel

theorem witness_ExpiriesHaltOrGrantAgain :
    (pacing session running).pac.slots[(3 : Fin 4)].session = some session ∧ session.draining = false ∧
      ({ seq := 2, stage := 0, deadline := 250 } : Grant) ∈ session.outstanding ∧
      ({ seq := 2, stage := 0, deadline := 250 } : Grant).left 249 ≠ 0 ∧
      ({ seq := 2, stage := 0, deadline := 250 } : Grant).left 250 = 0 ∧
      session.expiries + 1 ≠ session.profile.expiryLimit ∧
      ({ session with expiries := 3 } : Session).expiries + 1 = session.profile.expiryLimit ∧
      running.pac.slots[(3 : Fin 4)].session = none ∧ (∀ g ∈ session.outstanding, g.seq ≠ 1) ∧
      0 < session.todo ∧ session.nextDue.toNat ≤ running.time.us.toNat ∧
      ({ session with nextSeq := 4294967296 } : Session).nextSeq = 4294967296 ∧ session.nextSeq ≤ 4294967295 ∧
      sessionReady (pacing session running) session = true ∧
      sessionReady (pacing session running) { session with todo := 0 } = false ∧
      session.stallAcc < session.profile.stallLimit * 1000 ∧
      session.profile.stallLimit * 1000 ≤ ({ session with stallAcc := 120000 } : Session).stallAcc ∧
      (∀ slot ∈ ({ running with pac.stage := [] } : State).pac.stage, slot ≠ .free) ∧
      (∃ slot ∈ running.pac.stage, slot = .free) := by
  decide +kernel

theorem witness_ExpiriesHaltOrGrantAgain_lawful : session.lawful ∧ ({ session with expiries := 3 } : Session).lawful :=
  ⟨session_lawful, session_lawful⟩

/-- R112 and R130: with 26 messages waiting HALT and DECLINE both join, with 27 to 31 HALT alone, with 32 neither. -/
theorem test_a_halt_counts_the_messages_without_room :
    let halted (n : Nat) : Pacing :=
      let s := lanBusy (pacing followed running)
      (haltSession 3 .hostHalt { s with pac.queue := List.replicate n (tallyMsg 1 2 3) }).pac
    ((halted 26).queue.length = 28 ∧ (halted 26).replyLost = 0) ∧
      ((halted 27).queue.length = 28 ∧ (halted 27).replyLost = 1) ∧
      ((halted 31).queue.length = 32 ∧ (halted 31).replyLost = 1) ∧
      (halted 32).queue.length = 32 ∧ (halted 32).replyLost = 2 := by
  decide +kernel

theorem witness_AHaltEndsTheSession :
    ((lanBusy (pacing followed running)).pac.slots[(3 : Fin 4)].session = some followed ∧
      (lanBusy (pacing followed running)).lan.sending.isSome = true ∧ followed.followOn ≠ none ∧
      session.followOn = none) ∧
    (∃ s r p rest, Taken s .haltSession r p rest ∧ natAt p 0 1 = 4) ∧
    (∃ s r p rest, Taken s .haltSession r p rest ∧ natAt p 0 1 = 3 ∧ s.pac.slots[(3 : Fin 4)].session = none) ∧
    (∃ s r p rest, Taken s .haltSession r p rest ∧ natAt p 0 1 = 3 ∧
      s.pac.slots[(3 : Fin 4)].session = some session ∧ session.tag.toNat ≠ natAt p 1 2) ∧
    ∃ s r p rest, Taken s .haltSession r p rest ∧ natAt p 0 1 = 3 ∧
      s.pac.slots[(3 : Fin 4)].session = some session ∧ session.tag.toNat = natAt p 1 2 :=
  ⟨by decide +kernel,
    ⟨_, _, [4, 0, 1], _, takenInRun (by decide +kernel) rfl (by decide), by decide⟩,
    ⟨_, _, [3, 0, 1], _, takenInRun (by decide +kernel) rfl (by decide), by decide, by decide +kernel⟩,
    ⟨_, _, [3, 0, 2], _, taken (s := pacing session running) (by decide +kernel) rfl (by decide) rfl (by decide),
      by decide, by decide +kernel, by decide +kernel⟩,
    ⟨_, _, [3, 0, 1], _, taken (s := pacing session running) (by decide +kernel) rfl (by decide) rfl (by decide),
      by decide, by decide +kernel, by decide +kernel⟩⟩

theorem witness_ProfileAndShareSettings :
    (∃ s r p rest, Taken s .setProfile r p rest ∧ 3 < natAt p 0 1) ∧
    (∃ s r p rest, Taken s .setProfile r p rest ∧ natAt p 0 1 = 3 ∧ natAt p 10 1 ≤ 1 ∧ natAt p 11 1 ≤ 1 ∧
      natAt p 22 1 ≤ 1) ∧
    (∃ s r p rest, Taken s .setShare r p rest ∧ natAt p 0 1 = 0) ∧
    ({ running with share.timer := some 0 } : State).share.timer = some 0 ∧ running.share.timer ≠ some 0 :=
  ⟨⟨_, _, 4 :: List.replicate 22 0, _, takenInRun (by decide +kernel) rfl (by decide), by decide⟩,
    ⟨_, _, 3 :: List.replicate 22 1, _, takenInRun (by decide +kernel) rfl (by decide), by decide, by decide, by decide,
      by decide⟩,
    ⟨_, _, [0], _, takenInRun (by decide +kernel) rfl (by decide), by decide⟩, by decide, by decide⟩

theorem witness_TheRevisedPeakIsTheHighestThatFits :
    1 ≤ Profile.default.rise ∧ 1 ≤ Profile.default.fall ∧ Profile.default.peak ≤ 16000 ∧
      Profile.default.taper = .auto ∧ Profile.default.revision = true ∧ Profile.default.trapezoid 10 = false ∧
      Profile.default.trapezoid 100 = true ∧
      ({ Profile.default with revision := false } : Profile).revision = false ∧ ({ Profile.default with taper := .manual } : Profile).taper = .manual := by
  decide +kernel

theorem witness_TheGrantStepFollowsTheProfile :
    let x := newSession Profile.default 9 1 100 0 0
    (x.phase ≠ .taper ∧ x.phase ≠ .tail ∧ ({ x with todo := 19 } : Session).todo ≤ x.taperPoint) ∧
      ({ x with phase := .taper } : Session).phase = .taper ∧ ({ x with phase := .tail } : Session).phase = .tail ∧
      x.taperPoint < x.todo ∧ x.phase = .floor ∧ x.rate < 8000 ∧ x.rate = 500 ∧ 499 < x.rate := by
  decide +kernel

/-- The READY sets after a report of bay 2, and the slots after it has left READY, are those the statement describes. -/
theorem witness_TheGrantStepFollowsTheProfile_reports :
    let s := pacing { session with bays := 12, phase := .rise } running
    (∀ i : Bay, hasBay 7 i = (decide (i = 2) || hasBay 3 i) ∧ hasBay 3 i = (decide (i ≠ 2) && hasBay 7 i)) ∧
    ∀ j : Slot, (reportUnready 2 s).pac.slots[j] =
      { s.pac.slots[j] with
        session := s.pac.slots[j].session.map fun x =>
          if hasBay x.bays 2 = true ∧ x.draining = false ∧ (x.phase = .rise ∨ x.phase = .cruise ∨ x.phase = .yield) then
            { x with phase := .floor, rate := x.profile.floor }
          else x } := by
  decide +kernel

/-! ### Links, notices and the retained store -/

theorem witness_LanLinkEvents :
    State.reset.lan.up = false ∧ State.reset.pow.held = none ∧ heldInReset.pow.held ≠ none ∧
      (pacing session running).lan.up = true ∧ State.reset.lan.sending = none ∧
      State.reset.pac.queue = [] ∧ State.reset.ans.answers = [] ∧ State.reset.lan.hostFrames = [] ∧
      (lanBusy running).lan.sending = some (.host []) ∧
      ({ running with lan.sending := some (.answer []) } : State).lan.sending = some (.answer []) ∧
      ({ running with pac.queue := [declineMsg 9 1 .noSlot] } : State).pac.queue = [declineMsg 9 1 .noSlot] ∧
      ({ running with ans.answers := [{ record := 0, data := [] }] } : State).ans.answers = [{ record := 0, data := [] }] ∧
      ({ running with lan.hostFrames := [[]] } : State).lan.hostFrames = [[]] := by
  decide +kernel

theorem witness_HostFramesAreQueuedOrForwarded :
    State.reset.host.up = false ∧ frameGood [] = false ∧ running.host.up = true ∧ frameGood quiet = true ∧
      etherTypeOf (frameData quiet) = ({ running with cfg.mgmtType := 0 } : State).cfg.mgmtType ∧
      running.host.requests.length < 8 ∧ 8 ≤ (List.replicate 8 ([] : List Byte)).length ∧
      etherTypeOf (frameData quiet) ≠ running.cfg.mgmtType ∧ State.reset.lan.up = false ∧
      32 ≤ (List.replicate 32 ([] : List Byte)).length ∧ running.lan.up = true ∧
      running.lan.hostFrames.length < 32 ∧ (lanBusy running).lan.sending.isSome = true ∧ running.lan.sending = none ∧
      running.pac.queue = [] ∧ running.ans.answers = [] ∧ running.lan.hostFrames = [] := by
  decide +kernel

/-- A state that sends the block in stage slot 0. -/
def delivering (s : State) : State :=
  { s with
    host.sending := some (.deliver []), pac.stage := [.sending { slot := 3, tag := 1, seq := 1 } 2],
    pac.delivery := some 0 }

theorem witness_HPortEvents :
    asleep.pow.pwrEn = false ∧ State.reset.pow.rst = true ∧ running.host.up = true ∧
      (∀ box ∈ [BoxState.run, .sleepEntry],
        let s : State := { boxed box with host.up := false }
        s.pow.pwrEn = true ∧ s.pow.rst = false ∧ s.host.up = false ∧ s.host.responses = [] ∧ s.host.lpath = [] ∧
          s.pac.delivery = none ∧ s.hold.records = [] ∧ s.pac.fifo = [] ∧ s.pow.box = box) ∧
      (let s : State := { resuming running with host.up := false }
       s.pow.pwrEn = true ∧ s.pow.rst = false ∧ s.host.up = false ∧ s.pow.box = .run ∧ s.hold.records = [held] ∧
         held.stale = false ∧ s.hold.sending = false ∧ s.pac.delivery = none ∧ s.pac.fifo = [0] ∧
         s.pac.stage.getD 0 .free = .filled { slot := 3, tag := 1, seq := 1 } 2) ∧
      (delivering running).pac.delivery = some 0 ∧ 0 < (delivering running).pac.stage.length ∧
      (delivering running).pac.stage.getD 0 .free = .sending { slot := 3, tag := 1, seq := 1 } 2 ∧
      (delivering running).host.up = true ∧ running.pac.delivery = none := by
  decide +kernel

/-- A state that sends a response, with a response waiting. -/
def responding : State := { running with host.sending := some (.response []), host.responses := [[]] }

theorem witness_TheHostLinkSendsByPriority :
    running.host.sending = none ∧ responding.host.up = true ∧ responding.host.sending = some (.response []) ∧
      responding.host.responses = [[]] ∧ ({ responding with host.requests := [[]] } : State).host.requests ≠ [] ∧
      responding.host.requests = [] ∧ responding.mgmt.deferred = [] ∧ running.host.responses = [] ∧
      ({ running with host.lpath := [{ released := true, data := [] }] } : State).host.lpath =
        [{ released := true, data := [] }] ∧ running.host.lpath = [] ∧
      (delivering running).pac.delivery = some 0 ∧
      (delivering running).pac.stage.getD 0 .free = .sending { slot := 3, tag := 1, seq := 1 } 2 ∧
      running.pac.delivery = none ∧
      (let s : State := { holding running with host.sending := some (.held []), hold.sending := true }
       s.host.up = true ∧ s.host.sending = some (.held []) ∧ s.hold.records = [held] ∧ s.host.responses = [] ∧
         s.host.lpath = [] ∧ s.pac.delivery = none) ∧
      (∀ box ∈ [BoxState.run, .sleepEntry],
        let s : State := { boxed box with host.sending := some (.held []), hold.records := [held, held] }
        s.host.up = true ∧ s.hold.records = held :: held :: [] ∧ held.stale = false ∧ s.host.responses = [] ∧
          s.host.lpath = [] ∧ s.pac.delivery = none ∧ s.pow.box = box) := by
  decide +kernel

/-- A session all of whose blocks are received, the last of them undelivered. -/
def draining : Session :=
  { session with draining := true, received := 40, undelivered := 1, todo := 0, outstanding := [], phase := .tail }

theorem witness_DeliveredBlocksAreAccounted :
    (∀ x ∈ [session, draining, { draining with undelivered := 2 }],
      let s := lanBusy (delivering (pacing { x with nextDue := 1 } running))
      s.host.sending = some (.deliver []) ∧ s.pac.delivery = some 0 ∧
        s.pac.stage.getD 0 .free = .sending { slot := 3, tag := 1, seq := 1 } 2 ∧ s.pac.fifo = [] ∧
        s.host.responses = [] ∧ s.host.lpath = [] ∧ s.lan.sending.isSome = true ∧ s.pac.queue.length < 32 ∧
        (∀ i : Fin 4, (s.pac.slots[i].session.all fun y => !sessionReady s y) = true) ∧
        s.pac.slots[(3 : Fin 4)].leftBehind = 0 ∧
        s.pac.slots[(3 : Fin 4)].session = some { x with nextDue := 1 }) ∧
      session.draining = false ∧ draining.draining = true ∧ draining.undelivered = 1 ∧ draining.followOn = none ∧
      1 < ({ draining with undelivered := 2 } : Session).undelivered ∧
      0 < ({ session := none, leftBehind := 1 } : SessionSlot).leftBehind := by
  decide +kernel

/-- The next slot of the delivery FIFO is FILLED, or the last block of a session with a follow-on has been sent. -/
theorem witness_DeliveredBlocksAreAccounted_next :
    (let s : State :=
       { lanBusy (delivering (pacing { session with nextDue := 1 } running)) with
         pac.stage := [.sending { slot := 3, tag := 1, seq := 1 } 2, .filled { slot := 3, tag := 1, seq := 3 } 4],
         pac.fifo := [1] }
     s.pow.box = .run ∧ s.host.up = true ∧ s.pac.fifo = 1 :: [] ∧
       s.pac.stage.getD 1 .free = .filled { slot := 3, tag := 1, seq := 3 } 4 ∧
       s.pac.stage.getD 0 .free = .sending { slot := 3, tag := 1, seq := 1 } 2 ∧ s.pac.delivery = some 0 ∧
       (∀ i : Fin 4, (s.pac.slots[i].session.all fun y => !sessionReady s y) = true)) ∧
    (let x : Session := { draining with followOn := some { tag := 77, nb := 8, profile := 1, bays := 0 } }
     let s := lanBusy (delivering (pacing x running))
     s.host.sending = some (.deliver []) ∧ s.pac.delivery = some 0 ∧
       s.pac.stage.getD 0 .free = .sending { slot := 3, tag := 1, seq := 1 } 2 ∧ s.pac.fifo = [] ∧
       s.host.responses = [] ∧ s.host.lpath = [] ∧ s.lan.sending.isSome = true ∧ s.pac.queue.length < 32 ∧
       s.pac.slots[(3 : Fin 4)] = { session := some x, leftBehind := 0 } ∧ x.draining = true ∧ x.undelivered = 1 ∧
       x.followOn = some { tag := 77, nb := 8, profile := 1, bays := 0 }) := by
  decide +kernel

/-- A state in which the notice kind LINK_CHANGE alone is pending, the host link being busy. -/
def noticing : State :=
  raise .linkChange (.linkChange .lan true) { running with host.sending := some (.response []) }

theorem witness_NoticesAreBuiltWhenTheyQualify :
    (∀ i : Fin 9, running.note.kinds[i].pending = false) ∧ asleep.pow.box ≠ .run ∧ State.reset.host.up = false ∧
      16 ≤ (List.replicate 16 ([] : List Byte)).length ∧
      (noticing.pow.box = .run ∧ noticing.host.up = true ∧ noticing.host.responses.length < 16 ∧
        noticing.host.sending.isSome = true ∧ noticing.note.kinds[NoticeKind.linkChange.index].pending = true ∧
        noticing.note.kinds[NoticeKind.linkChange.index].enable = true ∧
        ∀ j : Fin 9, j ≠ NoticeKind.linkChange.index → noticing.note.kinds[j].pending = false) ∧
      (∃ s r p rest, Taken s .setNotices r p rest ∧ ∃ i : Fin 9, 1 < natAt p i.val 1) ∧
      ∃ s r p rest, Taken s .setNotices r p rest ∧ ∀ i : Fin 9, natAt p i.val 1 ≤ 1 :=
  ⟨by decide +kernel, by decide +kernel, by decide +kernel, by decide +kernel, by decide +kernel,
    ⟨_, _, [0, 1, 0, 1, 0, 1, 0, 1, 2], _, takenInRun (by decide +kernel) rfl (by decide), 8, by decide⟩,
    ⟨_, _, [0, 1, 0, 1, 0, 1, 0, 1, 1], _, takenInRun (by decide +kernel) rfl (by decide), by decide⟩⟩

/-- The notices that qualify in a state with all nine kinds pending and 14 frames waiting: the first two of Table 11.1. -/
theorem witness_NoticesAreBuiltWhenTheyQualify_several :
    let s : State :=
      { noticing with
        host.responses := List.replicate 14 [],
        note.kinds := vecMap (fun k => { k with pending := true }) noticing.note.kinds }
    s.pow.box = .run ∧ s.host.up = true ∧ s.host.sending.isSome = true ∧
      ((List.finRange 9).filter fun i => s.note.kinds[i].pending && s.note.kinds[i].enable).take
        (16 - s.host.responses.length) = [0, 1] ∧
      (buildNotices s).host.responses.length = 16 ∧ (buildNotices s).note.kinds[(1 : Fin 9)].pending = false ∧
      (buildNotices s).note.kinds[(2 : Fin 9)].pending = true := by
  decide +kernel

/-- A state in which record 4 is being programmed. -/
def programming (s : State) : State :=
  { s with ret.inFlight := some { index := 4, contents := [1], dst := 7, tag := 5 } }

/-- A state in which record 4 has three copies. -/
def worn : State := { running with ret.copies := running.ret.copies.set 4 [[0], [1], [0]] }

theorem witness_RetainedRecordsAreProgrammed :
    (∃ s r p rest, Taken s .programRetained r p rest ∧ natAt p 0 1 = 8) ∧
    (∃ s r p rest, Taken s .programRetained r p rest ∧ natAt p 0 1 = 3 ∧ p.length < 1 + contentsLength 3) ∧
    (∃ s r p rest, Taken s .programRetained r p rest ∧ natAt p 0 1 = 4 ∧ 1 + contentsLength 4 ≤ p.length ∧
      s.ret.inFlight.isSome = true) ∧
    (∃ s r p rest, Taken s .programRetained r p rest ∧ natAt p 0 1 = 4 ∧ 1 + contentsLength 4 ≤ p.length ∧
      s.ret.inFlight = none ∧ 3 ≤ s.ret.copies[(4 : Fin 8)].length) ∧
    (∃ s r p rest, Taken s .programRetained r p rest ∧ natAt p 0 1 = 4 ∧ 1 + contentsLength 4 ≤ p.length ∧
      s.ret.inFlight = none ∧ s.ret.copies[(4 : Fin 8)].length < 3) ∧
    running.ret.inFlight = none ∧ (programming running).ret.inFlight ≠ none ∧ running.host.responses.length < 16 ∧
    16 ≤ (List.replicate 16 ([] : List Byte)).length ∧ running.mgmt.deferred = [] ∧
    ({ running with mgmt.deferred := [{ dst := 7, tag := 5, index := 4, count := 1 }] } : State).mgmt.deferred ≠ [] :=
  ⟨⟨_, _, [8], _, takenInRun (by decide +kernel) rfl (by decide), by decide⟩,
    ⟨_, _, [3, 0, 64, 7], _, takenInRun (by decide +kernel) rfl (by decide), by decide, by decide⟩,
    ⟨_, _, [4, 1], _, taken (s := programming running) (by decide +kernel) rfl (by decide) rfl (by decide), by decide,
      by decide, rfl⟩,
    ⟨_, _, [4, 1], _, taken (s := worn) (by decide +kernel) rfl (by decide) rfl (by decide), by decide, by decide, rfl,
      by decide +kernel⟩,
    ⟨_, _, [4, 1], _, takenInRun (by decide +kernel) rfl (by decide), by decide, by decide, rfl, by decide +kernel⟩,
    by decide, by decide, by decide, by decide, by decide, by decide⟩

/-! ### What carries over and what every step keeps -/

theorem witness_CarriedFlowEntriesReadBack :
    ∃ e : FlowEntry, e.dstPort = some { lo := 65535, hi := 65535 } ∧
      ∀ ports, e.dstPort = some ports → ports.lo.toNat ≤ ports.hi.toNat :=
  ⟨{ FlowEntry.blank with dstPort := some { lo := 65535, hi := 65535 } }, rfl, by
    intro ports h
    injection h with h
    subst h
    decide⟩

theorem witness_CarriedFlowEntriesReadBack_bytes :
    EntryRefused (spoiled 23 5) ∧ ¬ EntryRefused FlowEntry.blank.carried ∧ ¬ EntryRefused (spoiled 23 4) := by
  unfold EntryRefused
  decide +kernel

/-- The premises of the invariants hold of the box in RUN, whose steps answer a next state. -/
theorem witness_StepsKeep :
    (LinesAgree running ∧ TimersAgree running ∧ LatchesAgree running) ∧
      (running.cells.mem.wf = true ∧ HoldAgrees running) ∧ (BaysAgree running ∧ BudgetKept running) ∧
      (SessionsLawful running ∧ RiseOnlyWhenReady running) ∧ RatesInRange running ∧ WithinCapacities running ∧
      ReadySetAgrees running ∧ StageAgrees running := by
  have h : ∀ i : Slot, running.pac.slots[i].session = none := by decide +kernel
  have hs : running.pac.stage = List.replicate 62 .free := rfl
  have hk : ∀ k : Nat, ∀ slot, running.pac.stage[k]? = some slot → slot = .free := by
    intro k slot hk
    rw [hs, List.getElem?_replicate] at hk
    split at hk
    · exact (Option.some.inj hk).symm
    · nomatch hk
  refine ⟨?_, ?_, ?_, ⟨?_, ?_⟩, ⟨?_, ?_⟩, ?_, ?_, ?_⟩
  · unfold LinesAgree TimersAgree LatchesAgree
    decide +kernel
  · unfold HoldAgrees
    decide +kernel
  · unfold BaysAgree BudgetKept
    decide +kernel
  · intro i x hx
    exact absurd hx (by rw [h i]; nofun)
  · intro i x hx
    exact absurd hx (by rw [h i]; nofun)
  · unfold Profile.inRange
    decide +kernel
  · intro i x hx
    exact absurd hx (by rw [h i]; nofun)
  · unfold WithinCapacities
    decide +kernel
  · unfold ReadySetAgrees
    decide +kernel
  · refine ⟨rfl, fun i x hx => absurd hx (by rw [h i]; nofun), fun k o hr => absurd (hk k _ hr) nofun, by decide,
      fun k => ⟨nofun, ?_⟩, fun k => ⟨nofun, ?_⟩⟩
    all_goals
      rintro ⟨o, n, hr⟩
      nomatch hk k _ hr

theorem witness_StepsKeep_step : ∃ t, step running = .next t := ⟨_, rfl⟩

end Sys2Proof.Tests
end

section
/-! SUPPORT and proofs: the step with no command waiting (O2) and the state after reset (O4). -/

namespace Sys2Proof.Machine

/-! ## What happens with no command waiting -/

/-- The part at a tick before the clock takes its own: the counter, the stale flags and the timers one millisecond on. -/
def beforeClock (s : State) : State :=
  tickTimers (markStale { s with time.ms := s.time.ms + 1 })

theorem tickMs_eq (s : State) : tickMs s = tickClock (beforeClock s) := rfl

theorem tick_between {s : State} (h : (s.time.us + 1).toNat % 1000 ≠ 0) :
    tick s = { s with time.us := s.time.us + 1 } := if_neg h

theorem tick_thousandth {s : State} (h : (s.time.us + 1).toNat % 1000 = 0) :
    tick s = tickMs { s with time.us := s.time.us + 1 } := if_pos h

theorem step_idle {s : State} (hp : s.pending = []) (hh : s.pow.held = none) :
    step s = .next (tick { s with cls := endFrame s.cls }) := by
  simp [step, idle, hp, hh]

theorem lowestFree_isNone (stage : List StageSlot) :
    (lowestFree stage).isNone = true ↔ ∀ slot ∈ stage, slot ≠ .free := by
  have isFree_iff (slot : StageSlot) : slot.isFree = false ↔ slot ≠ .free := by cases slot <;> simp [StageSlot.isFree]
  simp [lowestFree, isFree_iff]

theorem stallRuns_iff (s : State) (x : Session) :
    stallRuns s x = true ↔ sessionReady s x = true ∧ ∀ slot ∈ s.pac.stage, slot ≠ .free := by
  simp [stallRuns, ← lowestFree_isNone]

/-- What a tick makes of a session slot (R122): the test of the stall timer reads nothing that the tick changes. -/
theorem beforeClock_slot (s : State) (i : Slot) : (beforeClock s).pac.slots[i] =
    { s.pac.slots[i] with
      session := s.pac.slots[i].session.map fun x =>
        if sessionReady (beforeClock s) x = true ∧ ∀ slot ∈ s.pac.stage, slot ≠ .free then
          { x with stallAcc := x.stallAcc + 1 }
        else x } := by
  have ticked : Session.tick (markStale { s with time.ms := s.time.ms + 1 }) = fun x =>
      if sessionReady (beforeClock s) x = true ∧ ∀ slot ∈ s.pac.stage, slot ≠ .free then
        { x with stallAcc := x.stallAcc + 1 } else x :=
    funext fun x => if_congr (stallRuns_iff _ x) rfl rfl
  rw [← ticked]
  simp [beforeClock, tickTimers]

/-- Settles O2: the tick by its clock's three cases (`tickClock_cases`). -/
theorem idleStepLetsAMicrosecondPass : Obligations.IdleStepLetsAMicrosecondPass := by
  intro s hp hh
  refine ⟨_, step_idle hp hh, by simpa using hp, ?_⟩
  by_cases h : (s.time.us + 1).toNat % 1000 = 0
  · rw [tick_thousandth (s := { s with cls := endFrame s.cls }) h, tickMs_eq]
    refine ⟨by simp [beforeClock], by simp [beforeClock], fun hn => absurd h hn, fun _ => ⟨by simp [beforeClock], ?_⟩⟩
    generalize hw : beforeClock _ = w
    refine ⟨w, ?_⟩
    have clock : w.pow.clock = s.pow.clock := by subst hw; rfl
    have held : w.pow.held = none := by subst hw; exact hh
    have entered (due : w.pow.clock.due = true) : exec .minuteEntered w = .next (enterMinute w) := by
      simp [exec, execMinuteEntered, due, held]
    refine ⟨?_, ?_, ?_, ?_, ?_, ?_, ?_, ?_⟩
    · simp [← hw, beforeClock, tickTimers, markStale]
    · rw [← hw]; rfl
    · rw [← hw]; rfl
    · subst hw
      exact ⟨_, rfl, fun i => by simp [runDown]⟩
    · subst hw
      exact ⟨_, rfl, beforeClock_slot _⟩
    · subst hw
      exact ⟨_, rfl, fun i => by simp [runDown]⟩
    · rw [← hw]; rfl
    · rw [← clock]
      obtain ⟨hs, ht⟩ | ⟨hs, hd, ht⟩ | ⟨hs, hd, ht, hc⟩ := tickClock_cases w
      · simp [hs, ht]
      · simp [hs, hd, ht]
      · simp only [hs, hd]
        exact ⟨nofun, nofun, fun _ _ => ⟨_, entered hd, ht, hc⟩⟩
  · rw [tick_between (s := { s with cls := endFrame s.cls }) h]
    exact ⟨rfl, rfl, fun _ => rfl, fun hn => absurd hn h⟩

/-! ## The state after reset -/

/-- Settles O4. -/
theorem resetHoldsTheValuesOfTheSpec : Obligations.ResetHoldsTheValuesOfTheSpec := by
  refine ⟨rfl, rfl, rfl, rfl, rfl, rfl, rfl, fun i => ?_, rfl, rfl, rfl, rfl, rfl, rfl, rfl, rfl, rfl, rfl, rfl, rfl,
    fun i => ?_, rfl, rfl, fun i => ?_, fun i => ?_, rfl, fun i => ?_, rfl, rfl, rfl, rfl, rfl, rfl, rfl, rfl⟩ <;>
    simp [State.reset, AnswerRecord.blank]

end Sys2Proof.Machine
end

section
/-! SUPPORT and proofs: carried bytes, the two banks, and the requests that swap them (O10). -/

namespace Sys2Proof.Machine

/-! ## Carried bytes -/

theorem byteAt_eq (bytes : List Byte) (offset : Nat) : byteAt bytes offset = (bytes[offset]?).getD 0 := by
  simp [byteAt]

/-- A field of one byte is that byte. -/
theorem natAt_one (bytes : List Byte) (offset : Nat) : natAt bytes offset 1 = (byteAt bytes offset).toNat := by
  rw [byteAt_eq, natAt, slice, List.take_one, List.head?_drop]
  cases bytes[offset]? <;> simp [beNat]

/-! ## The two banks -/

theorem Bank.code_eq (which : Bank) : which.code = if which = .a then 0 else 1 := by cases which <;> rfl

section
variable (c : Classifier) (which : Bank) (entries : Vector FlowEntry 64)

@[simp] theorem bank_setBank_self : (c.setBank which entries).bank which = entries := by cases which <;> rfl

@[simp] theorem bank_setBank_other : (c.setBank which entries).bank which.other = c.bank which.other := by cases which <;> rfl

@[simp] theorem bank_setBank_of_other : (c.setBank which.other entries).bank which = c.bank which := by cases which <;> rfl

@[simp] theorem setBank_active : (c.setBank which entries).active = c.active := by cases which <;> rfl

@[simp] theorem setBank_shadow : (c.setBank which entries).shadow = c.shadow := by cases which <;> rfl

@[simp] theorem setBank_loader : (c.setBank which entries).loader = c.loader := by cases which <;> rfl

@[simp] theorem setBank_defaultClass : (c.setBank which entries).defaultClass = c.defaultClass := by cases which <;> rfl

@[simp] theorem setBank_defaultCount : (c.setBank which entries).defaultCount = c.defaultCount := by cases which <;> rfl

@[simp] theorem setBank_inHand : (c.setBank which entries).inHand = c.inHand := by cases which <;> rfl

end

/-- The state that R17 gives the classifier: the former shadow active with its counts 0, the former active bank entry
for entry the LOADING shadow. -/
structure Swapped (c d : Classifier) : Prop where
  active : d.active = c.active.other
  shadow : d.shadow = .loading
  defaultCount : d.defaultCount = 0
  loader : d.loader = c.loader
  defaultClass : d.defaultClass = c.defaultClass
  inHand : d.inHand = none
  former : d.bank c.active = c.bank c.active
  fresh : ∀ i : Fin 64, (d.bank d.active)[i] = { (c.bank c.active.other)[i] with hits := 0 }

/-- A bank of a classifier whose other fields than the banks differ. -/
theorem bank_congr {c d : Classifier} (ha : c.bankA = d.bankA) (hb : c.bankB = d.bankB) (which : Bank) :
    c.bank which = d.bank which := by
  cases which
  · exact ha
  · exact hb

theorem swapBanks_swapped {c : Classifier} (h : c.inHand = none) : Swapped c (swapBanks c) := by
  have banks (which : Bank) : (swapBanks c).bank which =
      (c.setBank c.active.other (vecMap (fun e => { e with hits := 0 }) (c.bank c.active.other))).bank which :=
    bank_congr rfl rfl which
  refine ⟨rfl, rfl, rfl, by simp [swapBanks], by simp [swapBanks], by simpa [swapBanks] using h, ?_, fun i => ?_⟩
  · rw [banks, bank_setBank_of_other]
  · rw [banks, show (swapBanks c).active = c.active.other from rfl, bank_setBank_self]
    simp

/-! ## The swap, and the requests about it -/

@[simp] theorem num_one (n : Nat) : num 1 n = [BitVec.ofNat 8 n] := by simp [num]

/-- SETTLE_FLOWS and UNSETTLE_FLOWS answer from the state that is left. -/
theorem shadowStatus_eq (c : Classifier) :
    shadowStatus c = [if c.shadow = .loading then 0 else 1, if c.active = .a then 0 else 1] := by
  unfold shadowStatus
  cases c.shadow <;> cases c.active <;> rfl

theorem swapIfDue_idle {c : Classifier} (h : c.inHand = none) :
    swapIfDue { c with shadow := .primed } = swapBanks { c with shadow := .primed } := if_pos ⟨rfl, h⟩

theorem swapIfDue_busy {c : Classifier} (h : c.inHand ≠ none) : swapIfDue c = c := if_neg fun hc => h hc.2

theorem actSettleFlows_eq (p : List Byte) (s : State) :
    actSettleFlows p s =
      .ok { s with cls := swapIfDue { s.cls with shadow := .primed } }
        (shadowStatus (swapIfDue { s.cls with shadow := .primed })) := rfl

/-- SET_DEFAULT_ACTION by its byte (R19). -/
theorem actSetDefaultAction_eq (p : List Byte) (s : State) :
    actSetDefaultAction p s =
      if byteAt p 0 = 0 then .ok { s with cls.defaultClass := .pass } []
      else if byteAt p 0 = 4 then .ok { s with cls.defaultClass := .drop } []
      else .refuse s .badArgument := by
  unfold actSetDefaultAction
  rw [natAt_one]
  split
  · rename_i h
    rw [if_pos (BitVec.eq_of_toNat_eq h)]
  · rename_i h
    have h4 : byteAt p 0 = 4 := BitVec.eq_of_toNat_eq h
    simp [h4]
  · rename_i h0 h4
    rw [if_neg fun h => h0 (by rw [h]; rfl), if_neg fun h => h4 (by rw [h]; rfl)]

/-- Settles O10. -/
theorem settleSwapsTheBanks : Obligations.SettleSwapsTheBanks := by
  refine ⟨fun s r p rest h hn => ?_, fun s r p rest h hn => ?_, fun c d hd => ?_, fun s r p rest h => ?_,
    fun s r p rest h => ?_⟩
  · have swap := swapBanks_swapped (c := { s.cls with shadow := .primed }) hn
    refine ⟨swapBanks { s.cls with shadow := .primed }, ?_, swap.active, swap.shadow, swap.defaultCount, swap.loader,
      swap.defaultClass, swap.inHand, swap.former, swap.fresh⟩
    refine congrArg Host.Outcome.next (takePlain_ok h ?_)
    rw [actSettleFlows_eq, swapIfDue_idle (c := (dequeue r rest s).cls) hn, shadowStatus_eq]
    rfl
  · refine congrArg Host.Outcome.next (takePlain_ok h ?_)
    rw [actSettleFlows_eq, swapIfDue_busy (c := { (dequeue r rest s).cls with shadow := .primed }) hn, shadowStatus_eq]
    rfl
  · subst hd
    refine ⟨endFrame_of_loading, fun hp => ?_⟩
    rw [endFrame_of_primed hp]
    have swap := swapBanks_swapped (c := { c with inHand := none }) rfl
    exact ⟨swap.active, swap.shadow, swap.defaultCount, swap.loader, swap.defaultClass, swap.inHand, swap.former,
      swap.fresh⟩
  · exact congrArg Host.Outcome.next (takePlain_ok h rfl)
  · have act := actSetDefaultAction_eq p (dequeue r rest s)
    refine congrArg Host.Outcome.next ?_
    split
    · rename_i h0
      exact takePlain_ok h (act.trans (if_pos h0))
    · rename_i h0
      rw [if_neg h0] at act
      split
      · rename_i h4
        exact takePlain_ok h (act.trans (if_pos h4))
      · rename_i h4
        exact takePlain_refuse h (by decide) (act.trans (if_neg h4))

end Sys2Proof.Machine
end

section
/-! SUPPORT and proofs: numbers in bytes, and the carried flow entry (O53). -/

namespace Sys2Proof.Machine

/-! ## Numbers in bytes -/

theorem beNat_cons (b : Byte) (bs : List Byte) : beNat (b :: bs) = b.toNat * 256 ^ bs.length + beNat bs := by
  have shift (l : List Byte) : ∀ n, l.foldl (fun n b => n * 256 + b.toNat) n = n * 256 ^ l.length + beNat l := by
    induction l with
    | nil => simp [beNat]
    | cons a l ih =>
      intro n
      have first : beNat (a :: l) = a.toNat * 256 ^ l.length + beNat l := by
        rw [beNat, List.foldl_cons, ih]; simp
      rw [List.foldl_cons, ih, first, List.length_cons]
      ring
  rw [beNat, List.foldl_cons, shift]
  simp

theorem beNat_lt (bs : List Byte) : beNat bs < 256 ^ bs.length := by
  induction bs with
  | nil => simp [beNat]
  | cons b bs ih =>
    rw [beNat_cons, List.length_cons, pow_succ]
    have : b.toNat < 256 := b.isLt
    nlinarith

theorem natAt_lt (bytes : List Byte) (offset n : Nat) : natAt bytes offset n < 256 ^ n :=
  (beNat_lt _).trans_le (Nat.pow_le_pow_right (by decide) (by simp [slice]))

@[simp] theorem num_length (width n : Nat) : (num width n).length = width := by
  induction width with
  | zero => rfl
  | succ width ih => simp [num, ih]

/-- A number of the width reads back from its bytes. -/
theorem beNat_num (width n : Nat) : beNat (num width n) = n % 256 ^ width := by
  induction width with
  | zero => simp [num, beNat, Nat.mod_one]
  | succ width ih =>
    rw [num, beNat_cons, ih, num_length, BitVec.toNat_ofNat, show 2 ^ 8 = 256 from rfl, pow_succ, Nat.mod_mul]
    ring

/-- The field in which a bit vector of at most its width is carried reads back as that vector. -/
theorem ofNat_natAt {w width offset : Nat} {bytes : List Byte} {x : BitVec w} (hw : w ≤ 8 * width)
    (h : slice bytes offset width = num width x.toNat) : BitVec.ofNat w (natAt bytes offset width) = x := by
  have fits : x.toNat < 256 ^ width :=
    x.isLt.trans_le ((Nat.pow_le_pow_right (by decide) hw).trans (by rw [pow_mul]; norm_num))
  rw [natAt, h, beNat_num, Nat.mod_eq_of_lt fits, BitVec.ofNat_toNat, BitVec.setWidth_eq]

/-! ## The condition mask -/

/-- The number with the given bits, the lowest first. -/
def bitsNat (bits : List Bool) : Nat :=
  (bits.map Bool.toNat).foldr (fun bit n => bit + 2 * n) 0

theorem bitsNat_testBit (bits : List Bool) (i : Nat) : (bitsNat bits).testBit i = bits.getD i false := by
  induction bits generalizing i with
  | nil => simp [bitsNat]
  | cons b bits ih =>
    have step : bitsNat (b :: bits) = 2 * bitsNat bits + b.toNat := by simp [bitsNat, Nat.add_comm]
    rw [step]
    cases i with
    | zero => cases b <;> simp
    | succ i =>
      rw [List.getD_cons_succ, ← ih, Nat.testBit_succ]
      congr 1
      rw [Nat.mul_add_div (by decide)]
      cases b <;> rfl

/-- Which conditions of an entry are not ANY, in the order of the mask's bits (Table 12.4). -/
def FlowEntry.conditions (e : FlowEntry) : List Bool :=
  [e.dstKind.isSome, e.src.isSome, e.vlan.isSome, e.ethertype.isSome, e.ipProto.isSome, e.dstPort.isSome, e.syn.isSome,
    e.pacingType.isSome, e.wakeSig.isSome]

theorem FlowEntry.mask_eq (e : FlowEntry) : e.mask = bitsNat e.conditions := by
  simp only [mask, bitsNat, conditions, List.map_cons, List.map_nil, List.foldr_cons, List.foldr_nil]
  ring

/-! ## The carried flow entry -/

/-- A field of bytes that are carried field by field. -/
theorem slice_flatten {fields : List (List Byte)} {k offset width : Nat} {f : List Byte} (hf : fields[k]? = some f)
    (ho : ((fields.take k).map List.length).sum = offset) (hw : f.length = width) :
    slice fields.flatten offset width = f := by
  obtain ⟨hk, rfl⟩ := List.getElem?_eq_some_iff.mp hf
  have split : fields.flatten = (fields.take k).flatten ++ (fields[k] ++ (fields.drop (k + 1)).flatten) := by
    rw [← List.flatten_cons, ← List.drop_eq_getElem_cons hk, ← List.flatten_append, List.take_append_drop]
  rw [slice, split, ← ho, ← List.length_flatten, List.drop_left, ← hw, List.take_left]

theorem byteAt_of_slice {bytes : List Byte} {offset : Nat} {b : Byte} (h : slice bytes offset 1 = [b]) :
    byteAt bytes offset = b := by
  rw [byteAt_eq, ← List.head?_drop]
  rw [slice] at h
  cases hd : bytes.drop offset with
  | nil => simp [hd] at h
  | cons a as => simpa [hd] using h

/-- The fields of a carried entry, in the order of Table 12.4. -/
def FlowEntry.fields (e : FlowEntry) : List (List Byte) :=
  [flag e.valid, num 1 0, num 2 e.mask, num 1 (e.dstKind.elim 0 DstKind.code), flag (e.syn.getD false),
    flag (e.wakeSig.getD false), num 1 (e.ipProto.elim 0 BitVec.toNat), num 6 (e.src.elim 0 BitVec.toNat),
    num 2 (e.vlan.elim 0 BitVec.toNat), num 2 (e.ethertype.elim 0 BitVec.toNat),
    num 2 (e.dstPort.elim 0 fun r => r.lo.toNat), num 2 (e.dstPort.elim 0 fun r => r.hi.toNat),
    num 1 (e.pacingType.elim 0 BitVec.toNat), num 1 e.action.code, flag e.wake, num 1 e.bays.toNat,
    num 1 e.action.indexCode, num 1 0]

/-- The widths of those fields. -/
def entryWidths : List Nat :=
  [1, 1, 2, 1, 1, 1, 1, 6, 2, 2, 2, 2, 1, 1, 1, 1, 1, 1]

@[simp] theorem flag_length (x : Bool) : (flag x).length = 1 := rfl

theorem FlowEntry.carried_eq (e : FlowEntry) : e.carried = e.fields.flatten := by
  simp [carried, fields, baySetByte]

theorem FlowEntry.fields_widths (e : FlowEntry) : e.fields.map List.length = entryWidths := by
  simp [fields, entryWidths]

section
variable (e : FlowEntry)

theorem carried_length : e.carried.length = 28 := by
  rw [e.carried_eq, List.length_flatten, e.fields_widths]
  rfl

/-- Field `k` of Table 12.4 stands behind those before it. -/
theorem carried_field (k : Nat) {f : List Byte} (hf : e.fields[k]? = some f) :
    slice e.carried (entryWidths.take k).sum f.length = f := by
  rw [e.carried_eq]
  exact slice_flatten hf (by rw [← e.fields_widths, List.map_take]) rfl

/-- The same of a field that is carried as a number. -/
theorem carried_natAt (k : Nat) {width n : Nat} (hf : e.fields[k]? = some (num width n)) :
    natAt e.carried (entryWidths.take k).sum width = n % 256 ^ width := by
  have field := carried_field e k hf
  rw [num_length] at field
  rw [natAt, field, beNat_num]

/-- The same of a field of one byte. -/
theorem carried_byteAt (k : Nat) {b : Byte} (hf : e.fields[k]? = some [b]) :
    byteAt e.carried (entryWidths.take k).sum = b :=
  byteAt_of_slice (carried_field e k hf)

theorem carried_mask_bit {i : Nat} (h : i < 16) :
    (BitVec.ofNat 16 (natAt e.carried 2 2)).getLsbD i = e.conditions.getD i false := by
  have mask : natAt e.carried 2 2 = e.mask % 2 ^ 16 := carried_natAt e 2 rfl
  rw [mask, ← bitsNat_testBit, ← e.mask_eq, BitVec.getLsbD_ofNat, Nat.testBit_mod_two_pow]
  simp [h]

theorem carried_valid : decide (byteAt e.carried 0 ≠ 0) = e.valid := by
  have byte : byteAt e.carried 0 = _ := carried_byteAt e 0 rfl
  rw [byte]
  cases e.valid <;> rfl

theorem carried_wake : decide (byteAt e.carried 24 ≠ 0) = e.wake := by
  have byte : byteAt e.carried 24 = _ := carried_byteAt e 14 rfl
  rw [byte]
  cases e.wake <;> rfl

theorem carried_bays : BitVec.ofNat 4 (byteAt e.carried 25).toNat = e.bays := by
  have byte : natAt e.carried 25 1 = _ := carried_natAt e 15 rfl
  rw [← natAt_one, byte, Nat.mod_eq_of_lt (e.bays.isLt.trans (by decide)), BitVec.ofNat_toNat, BitVec.setWidth_eq]

theorem carried_action : actionOf (byteAt e.carried 23) (byteAt e.carried 26) = some e.action := by
  have cls : byteAt e.carried 23 = BitVec.ofNat 8 (e.action.code / 1) := carried_byteAt e 13 rfl
  have index : byteAt e.carried 26 = BitVec.ofNat 8 (e.action.indexCode / 1) := carried_byteAt e 16 rfl
  rw [cls, index]
  cases e.action with
  | backup p => revert p; decide
  | proxy a => revert a; decide
  | _ => rfl

variable {e}

/-- The same of a bit vector that is carried as a number of its width. -/
theorem carried_word (k : Nat) {w width : Nat} {x : BitVec w} (hf : e.fields[k]? = some (num width x.toNat))
    (hw : w ≤ 8 * width) : BitVec.ofNat w (natAt e.carried (entryWidths.take k).sum width) = x := by
  have field := carried_field e k hf
  rw [num_length] at field
  exact ofNat_natAt hw field

theorem carried_src {x : MacAddr} (h : e.src = some x) : BitVec.ofNat 48 (natAt e.carried 8 6) = x :=
  carried_word 7 (by simp [FlowEntry.fields, h]) (by decide)

theorem carried_vlan {x : BitVec 12} (h : e.vlan = some x) : BitVec.ofNat 12 (natAt e.carried 14 2) = x :=
  carried_word 8 (by simp [FlowEntry.fields, h]) (by decide)

theorem carried_ethertype {x : Word16} (h : e.ethertype = some x) : BitVec.ofNat 16 (natAt e.carried 16 2) = x :=
  carried_word 9 (by simp [FlowEntry.fields, h]) (by decide)

theorem carried_dstKind {d : DstKind} (h : e.dstKind = some d) : dstKindOf (byteAt e.carried 4) = d := by
  have byte : byteAt e.carried 4 = BitVec.ofNat 8 (e.dstKind.elim 0 DstKind.code / 1) := carried_byteAt e 3 rfl
  rw [byte, h]
  cases d <;> rfl

theorem carried_syn {x : Bool} (h : e.syn = some x) : decide (byteAt e.carried 5 ≠ 0) = x := by
  have byte : byteAt e.carried 5 = if e.syn.getD false then 1 else 0 := carried_byteAt e 4 rfl
  rw [byte, h]
  cases x <;> rfl

theorem carried_wakeSig {x : Bool} (h : e.wakeSig = some x) : decide (byteAt e.carried 6 ≠ 0) = x := by
  have byte : byteAt e.carried 6 = if e.wakeSig.getD false then 1 else 0 := carried_byteAt e 5 rfl
  rw [byte, h]
  cases x <;> rfl

theorem carried_ipProto {x : Byte} (h : e.ipProto = some x) : byteAt e.carried 7 = x := by
  have byte : byteAt e.carried 7 = BitVec.ofNat 8 (e.ipProto.elim 0 BitVec.toNat / 1) := carried_byteAt e 6 rfl
  rw [byte, h]
  simp

theorem carried_pacingType {x : Byte} (h : e.pacingType = some x) : byteAt e.carried 22 = x := by
  have byte : byteAt e.carried 22 = BitVec.ofNat 8 (e.pacingType.elim 0 BitVec.toNat / 1) := carried_byteAt e 12 rfl
  rw [byte, h]
  simp

theorem carried_lo {r : PortRange} (h : e.dstPort = some r) : BitVec.ofNat 16 (natAt e.carried 18 2) = r.lo :=
  carried_word 10 (by simp [FlowEntry.fields, h]) (by decide)

theorem carried_hi {r : PortRange} (h : e.dstPort = some r) : BitVec.ofNat 16 (natAt e.carried 20 2) = r.hi :=
  carried_word 11 (by simp [FlowEntry.fields, h]) (by decide)

end

/-! ## Reading carried bytes -/

/-- A condition that is named when it is not ANY. -/
theorem ite_isSome {α : Type} {cond : Option α} {x : α} (h : ∀ y, cond = some y → x = y) :
    (if cond.isSome then some x else none) = cond := by
  cases cond with
  | none => rfl
  | some y => simp [h y rfl]

/-- The carried form reads back: no field is dropped but the hit count. -/
theorem parseEntry_carried {e : FlowEntry} (h : ∀ ports, e.dstPort = some ports → ports.lo.toNat ≤ ports.hi.toNat) :
    parseEntry e.carried = some { e with hits := 0 } := by
  have bit (i : Nat) (hi : i < 16) := carried_mask_bit e hi
  have ordered : ¬ (e.dstPort.isSome = true ∧
      (BitVec.ofNat 16 (natAt e.carried 20 2)).toNat < (BitVec.ofNat 16 (natAt e.carried 18 2)).toNat) := by
    rintro ⟨hs, hlt⟩
    obtain ⟨r, hr⟩ := Option.isSome_iff_exists.mp hs
    rw [carried_lo hr, carried_hi hr] at hlt
    exact absurd (h r hr) (Nat.not_le.mpr hlt)
  have dstPort (r : PortRange) (hr : e.dstPort = some r) :
      { lo := BitVec.ofNat 16 (natAt e.carried 18 2), hi := BitVec.ofNat 16 (natAt e.carried 20 2) } = r := by
    rw [carried_lo hr, carried_hi hr]
  simp only [parseEntry, carried_action, bit _ (by decide : 0 < 16), bit _ (by decide : 1 < 16),
    bit _ (by decide : 2 < 16), bit _ (by decide : 3 < 16), bit _ (by decide : 4 < 16), bit _ (by decide : 5 < 16),
    bit _ (by decide : 6 < 16), bit _ (by decide : 7 < 16), bit _ (by decide : 8 < 16), FlowEntry.conditions,
    List.getD_cons_zero, List.getD_cons_succ, if_neg ordered, carried_valid, carried_wake, carried_bays]
  rw [ite_isSome fun _ => carried_dstKind, ite_isSome fun _ => carried_src, ite_isSome fun _ => carried_vlan,
    ite_isSome fun _ => carried_ethertype, ite_isSome fun _ => carried_ipProto, ite_isSome dstPort,
    ite_isSome fun _ => carried_syn, ite_isSome fun _ => carried_pacingType, ite_isSome fun _ => carried_wakeSig]

/-- The class and index bytes that R14 refuses. -/
theorem actionOf_eq_none (cls index : Byte) :
    actionOf cls index = none ↔
      4 < cls.toNat ∨ (cls.toNat = 2 ∧ 3 < index.toNat) ∨ (cls.toNat = 3 ∧ 15 < index.toNat) := by
  unfold actionOf
  split
  case h_6 h0 h1 h2 h3 h4 => simp only [imp_false, true_iff] at *; omega
  case h_3 h => split <;> simp [h] <;> omega
  case h_4 h => split <;> simp [h] <;> omega
  all_goals simp [*]

/-- The low 16 bits of a two-byte field are the field. -/
theorem toNat_ofNat_natAt (bytes : List Byte) (offset : Nat) :
    (BitVec.ofNat 16 (natAt bytes offset 2)).toNat = natAt bytes offset 2 := by
  rw [BitVec.toNat_ofNat]
  exact Nat.mod_eq_of_lt (natAt_lt bytes offset 2)

theorem getLsbD_natAt (bytes : List Byte) (offset i : Nat) (h : i < 16) :
    (BitVec.ofNat 16 (natAt bytes offset 2)).getLsbD i = decide (natAt bytes offset 2 / 2 ^ i % 2 = 1) := by
  rw [BitVec.getLsbD_ofNat, Nat.testBit_eq_decide_div_mod_eq]
  simp [h]

/-- The carried entries that R14 refuses are those that give no entry. -/
theorem parseEntry_eq_none (b : List Byte) : parseEntry b = none ↔ EntryRefused b := by
  have ports : (BitVec.ofNat 16 (natAt b 2 2)).getLsbD 5 = decide (natAt b 2 2 / 32 % 2 = 1) :=
    getLsbD_natAt b 2 5 (by decide)
  have action := actionOf_eq_none (byteAt b 23) (byteAt b 26)
  rw [← natAt_one, ← natAt_one] at action
  unfold EntryRefused parseEntry
  simp only [ports, toNat_ofNat_natAt, decide_eq_true_eq]
  cases h : actionOf (byteAt b 23) (byteAt b 26) with
  | none =>
    have refused := action.mp h
    simp only [true_iff]
    omega
  | some a =>
    have taken : ¬ (_ ∨ _ ∨ _) := fun hr => absurd (action.mpr hr) (by simp [h])
    simp only [ite_eq_left_iff, reduceCtorEq, imp_false, not_not]
    refine ⟨fun hp => .inr (.inr (.inr hp)), fun hr => ?_⟩
    by_contra hp
    exact taken (by omega)

theorem actionOf_eq (cls index : Byte) {a : Action} (h : actionOf cls index = some a) :
    (cls.toNat = 0 → a = .pass) ∧ (cls.toNat = 1 → a = .share) ∧
      (cls.toNat = 2 → ∀ p : Fin 4, index.toNat = p.val → a = .backup p) ∧
      (cls.toNat = 3 → ∀ x : Fin 16, index.toNat = x.val → a = .proxy x) ∧ (cls.toNat = 4 → a = .drop) := by
  refine ⟨fun hc => ?_, fun hc => ?_, fun hc p hp => ?_, fun hc x hx => ?_, fun hc => ?_⟩
  all_goals simp_all [actionOf]

/-- The bytes of dst kind, read by their low 2 bits (Table 12.4). -/
theorem dstKindOf_eq (b : Byte) :
    ([.box, .broadcast, .multicast, .other] : List DstKind)[b.toNat % 4]? = some (dstKindOf b) := by
  have small : b.toNat % 4 < 4 := Nat.mod_lt _ (by decide)
  unfold dstKindOf
  generalize b.toNat % 4 = n at small
  interval_cases n <;> rfl

/-- The carried form of an entry as the bytes that Table 12.4 gives. -/
theorem FlowEntry.carried_bytes (e : FlowEntry) : e.carried =
    flag e.valid ++ [0] ++ num 2 (bitsNat e.conditions) ++
      [if e.dstKind = some .broadcast then 1 else if e.dstKind = some .multicast then 2
       else if e.dstKind = some .other then 3 else 0] ++
      [if e.syn = some true then 1 else 0] ++ [if e.wakeSig = some true then 1 else 0] ++ [e.ipProto.getD 0] ++
      num 6 (e.src.getD 0).toNat ++ num 2 (e.vlan.getD 0).toNat ++ num 2 (e.ethertype.getD 0).toNat ++
      num 2 (e.dstPort.elim 0 fun ports => ports.lo.toNat) ++ num 2 (e.dstPort.elim 0 fun ports => ports.hi.toNat) ++
      [e.pacingType.getD 0] ++ num 1 e.action.code ++ flag e.wake ++ [BitVec.ofNat 8 e.bays.toNat] ++
      num 1 e.action.indexCode ++ [0] := by
  have word {w : Nat} (x : Option (BitVec w)) : x.elim 0 BitVec.toNat = (x.getD 0).toNat := by cases x <;> simp
  have two (x : Option Bool) : flag (x.getD false) = [if x = some true then 1 else 0] := by
    cases x with
    | none => rfl
    | some x => cases x <;> rfl
  have dstKind : BitVec.ofNat 8 (e.dstKind.elim 0 DstKind.code) =
      if e.dstKind = some .broadcast then 1 else if e.dstKind = some .multicast then 2
        else if e.dstKind = some .other then 3 else (0 : Byte) := by
    cases e.dstKind with
    | none => rfl
    | some d => cases d <;> rfl
  simp only [carried, word, two, num_one, dstKind, e.mask_eq, baySetByte, BitVec.ofNat_toNat, BitVec.setWidth_eq,
    BitVec.ofNat_eq_ofNat]

/-- Settles O53: the round trip is `parseEntry_carried`, the refusals are `parseEntry_eq_none`. -/
theorem carriedFlowEntriesReadBack : Obligations.CarriedFlowEntriesReadBack := by
  refine ⟨fun e h => ⟨carried_length e, parseEntry_carried h⟩, fun b h => (parseEntry_eq_none b).mpr h,
    fun b mask ok hmask => ?_, fun e => ?_⟩
  · have bit (i : Nat) (hi : i < 16) : (BitVec.ofNat 16 (natAt b 2 2)).getLsbD i = mask i := by
      rw [getLsbD_natAt b 2 i hi, hmask]
    rw [← parseEntry_eq_none, ← ne_eq, Option.ne_none_iff_exists'] at ok
    obtain ⟨e, he⟩ := ok
    refine ⟨e, he, ?_⟩
    unfold parseEntry at he
    split at he
    · cases he
    · rename_i a ha
      obtain ⟨pass, share, backup, proxy, drop⟩ := actionOf_eq _ _ ha
      simp only [bit _ (by decide : 0 < 16), bit _ (by decide : 1 < 16),
        bit _ (by decide : 2 < 16), bit _ (by decide : 3 < 16), bit _ (by decide : 4 < 16), bit _ (by decide : 5 < 16),
        bit _ (by decide : 6 < 16), bit _ (by decide : 7 < 16), bit _ (by decide : 8 < 16)] at he
      split at he
      · cases he
      · obtain rfl := Option.some.inj he
        have nonzero (x : Byte) : decide (x.toNat ≠ 0) = decide (x ≠ 0) := by simp [← BitVec.toNat_inj]
        simp only [natAt_one, dstKindOf_eq, nonzero, BitVec.ofNat_toNat, BitVec.setWidth_eq, and_true, true_and]
        exact ⟨fun h => (if_pos h).symm, fun h => if_neg (by simp [h]), pass, share, backup, proxy, drop⟩
  · rw [e.carried_bytes]
    cases e.action <;>
      simp only [num_one, Action.code, Action.indexCode, bitsNat, FlowEntry.conditions, BitVec.ofNat_eq_ofNat]

end Sys2Proof.Machine
end

section
/-! SUPPORT and proofs: loading the shadow bank's window (O11). -/

namespace Sys2Proof.Machine

/-! ## The carried entries of a request -/

theorem slice_drop (bytes : List Byte) (m offset n : Nat) : slice (bytes.drop m) offset n = slice bytes (m + offset) n := by
  simp [slice, List.drop_drop]

theorem parseEntries_of_all {es : List FlowEntry} {b : List Byte}
    (h : ∀ i : Fin es.length, parseEntry (slice b (28 * i.val) 28) = some es[i]) :
    parseEntries es.length b = some es := by
  induction es generalizing b with
  | nil => rfl
  | cons e es ih =>
    have first : parseEntry (b.take 28) = some e := h ⟨0, Nat.zero_lt_succ _⟩
    have others : parseEntries es.length (b.drop 28) = some es := by
      refine ih fun i => ?_
      rw [slice_drop, show 28 + 28 * i.val = 28 * (i.val + 1) by ring]
      exact h i.succ
    simp [parseEntries, first, others]

theorem parseEntries_of_refused {n i : Nat} {b : List Byte} (hi : i < n)
    (h : parseEntry (slice b (28 * i) 28) = none) : parseEntries n b = none := by
  induction n generalizing i b with
  | zero => exact absurd hi (Nat.not_lt_zero _)
  | succ n ih =>
    unfold parseEntries
    cases i with
    | zero =>
      have first : parseEntry (b.take 28) = none := h
      simp [first]
    | succ i =>
      have others : parseEntries n (b.drop 28) = none :=
        ih (Nat.lt_of_succ_lt_succ hi) (by rw [slice_drop, show 28 + 28 * i = 28 * (i + 1) by ring]; exact h)
      simp [others]

theorem carriedEntries_of_carries {b : List Byte} {es : List FlowEntry} (h : Carries b es) :
    carriedEntries b = some es := by
  obtain ⟨count, one, sixteen, room, entries⟩ := h
  unfold carriedEntries
  rw [if_neg (by omega), count]
  exact parseEntries_of_all fun i => by rw [slice_drop]; exact entries i

theorem carriedEntries_of_refused {b : List Byte} (h : EntriesRefused b) : carriedEntries b = none := by
  unfold carriedEntries
  obtain zero | many | short | ⟨i, hi, refused⟩ := h
  · exact if_pos (by omega)
  · exact if_pos (by omega)
  · exact if_pos (by omega)
  · dsimp only
    split
    · rfl
    · exact parseEntries_of_refused hi (by rw [slice_drop]; exact (parseEntry_eq_none _).mpr refused)

/-! ## The load pointer -/

section
variable {l : Loader}

theorem Loader.after_zero (h : l.pointer ≤ l.last.val) : l.after 0 = l.pointer := by
  unfold after
  rw [if_neg (by omega), Nat.add_zero]

/-- Where an entry written at the pointer leaves it (R13). -/
theorem Loader.advanced_cases (h : l.pointer ≤ l.last.val) :
    (l.pointer < l.last.val ∧ l.advanced = { l with pointer := l.pointer + 1 }) ∨
    (l.pointer = l.last.val ∧ l.mode = .wrap ∧ l.advanced = { l with pointer := l.first.val }) ∨
    (l.pointer = l.last.val ∧ l.mode = .stop ∧ l.advanced = { l with pointer := l.last.val + 1 }) := by
  unfold advanced
  by_cases inside : l.pointer < l.last.val
  · exact .inl ⟨inside, by rw [if_pos inside]⟩
  · have last : l.pointer = l.last.val := by omega
    rw [if_neg inside]
    cases hm : l.mode with
    | wrap => exact .inr (.inl ⟨last, rfl, rfl⟩)
    | stop => exact .inr (.inr ⟨last, rfl, rfl⟩)

theorem Loader.advanced_after (h : l.pointer ≤ l.last.val) (hx : l.advanced.pointer ≤ l.last.val) (n : Nat) :
    l.advanced.after n = l.after (n + 1) := by
  obtain ⟨inside, ha⟩ | ⟨last, hm, ha⟩ | ⟨last, hm, ha⟩ := advanced_cases h
  · simp only [ha, after, Nat.add_assoc, Nat.add_comm 1]
  · rw [ha] at hx ⊢
    have first : l.first.val ≤ l.last.val := hx
    have width : l.last.val + (n + 1) - (l.last.val + 1) = n := by omega
    simp only [after, hm, last, width, true_and]
    rw [if_pos (by omega : l.last.val < l.last.val + (n + 1))]
    by_cases wraps : l.last.val < l.first.val + n
    · rw [if_pos wraps, Nat.mod_eq_sub_mod (a := n) (by omega)]
      congr 2
      omega
    · rw [if_neg wraps, Nat.mod_eq_of_lt (by omega)]
  · rw [ha] at hx
    exact absurd hx (Nat.not_succ_le_self _)

theorem Loader.after_one (h : l.pointer ≤ l.last.val) (hx : l.last.val < l.advanced.pointer) :
    l.after 1 = l.advanced.pointer := by
  obtain ⟨inside, ha⟩ | ⟨last, hm, ha⟩ | ⟨last, hm, ha⟩ := advanced_cases h
  · rw [ha] at hx
    exact absurd hx (Nat.not_lt.mpr inside)
  · simp [ha, after, hm, last]
  · simp [ha, after, hm, last]

theorem Loader.written_succ (h : l.pointer ≤ l.last.val) (hx : l.advanced.pointer ≤ l.last.val) (n : Nat) :
    l.written (n + 1) = l.advanced.written n + 1 := by
  obtain ⟨inside, ha⟩ | ⟨last, hm, ha⟩ | ⟨last, hm, ha⟩ := advanced_cases h
  · simp only [ha, written]
    split <;> omega
  · rw [ha] at hx ⊢
    simp only [written]
    rw [if_pos ⟨hm, Fin.le_def.mpr hx⟩, if_pos ⟨hm, Fin.le_def.mpr hx⟩]
  · rw [ha] at hx
    exact absurd hx (Nat.not_succ_le_self _)

theorem Loader.written_one (h : l.pointer ≤ l.last.val) (hx : l.last.val < l.advanced.pointer) (n : Nat) :
    l.written (n + 1) = 1 := by
  obtain ⟨inside, ha⟩ | ⟨last, hm, ha⟩ | ⟨last, hm, ha⟩ := advanced_cases h <;> rw [ha] at hx
  · exact absurd hx (Nat.not_lt.mpr inside)
  · rw [written, if_neg fun hw => absurd (Fin.le_def.mp hw.2) (Nat.not_le.mpr hx)]
    omega
  · rw [written, if_neg (by simp [hm])]
    omega

end

/-! ## Writing entries -/

section
variable (e : FlowEntry) (c : Classifier)

theorem writeEntry_eq (h : c.loader.pointer ≤ c.loader.last.val) : writeEntry e c =
    { c.setBank c.active.other
        ((c.bank c.active.other).set c.loader.pointer { e with hits := 0 } (Nat.lt_of_le_of_lt h c.loader.last.isLt)) with
      loader := c.loader.advanced } :=
  dif_pos _

theorem writeEntry_frame (h : c.loader.pointer ≤ c.loader.last.val) :
    (writeEntry e c).active = c.active ∧ (writeEntry e c).bank c.active = c.bank c.active ∧
      (writeEntry e c).defaultClass = c.defaultClass ∧ (writeEntry e c).defaultCount = c.defaultCount ∧
      (writeEntry e c).inHand = c.inHand ∧ (writeEntry e c).loader = c.loader.advanced := by
  rw [writeEntry_eq e c h]
  refine ⟨by simp, ?_, by simp, by simp, by simp, rfl⟩
  exact (bank_congr rfl rfl _).trans (bank_setBank_of_other c c.active _)

/-- What one entry makes of the shadow bank (R13). -/
theorem writeEntry_shadow (h : c.loader.pointer ≤ c.loader.last.val) (j : Fin 64) :
    ((writeEntry e c).bank c.active.other)[j] =
      if c.loader.pointer = j.val then { e with hits := 0 } else (c.bank c.active.other)[j] := by
  have bank : (writeEntry e c).bank c.active.other = (c.bank c.active.other).set c.loader.pointer { e with hits := 0 }
      (Nat.lt_of_le_of_lt h c.loader.last.isLt) := by
    rw [writeEntry_eq e c h]
    exact (bank_congr rfl rfl _).trans (bank_setBank_self c c.active.other _)
  rw [bank]
  exact Vector.getElem_set _ _

theorem writeEntries_exhausted (es : List FlowEntry) (h : c.loader.last.val < c.loader.pointer) :
    writeEntries es c = (c, 0) := by
  cases es with
  | nil => rfl
  | cons e es => exact if_pos (decide_eq_true h)

theorem writeEntries_cons (es : List FlowEntry) (h : c.loader.pointer ≤ c.loader.last.val) :
    writeEntries (e :: es) c =
      ((writeEntries es (writeEntry e c)).1, (writeEntries es (writeEntry e c)).2 + 1) :=
  if_neg (by simp [Loader.exhausted, h])

end

/-- The classifier `d` after the first `n` entries of `es` have been written into the shadow bank of `c` under the loader
record `l`: what `FlowsWritten` says of it, but for the shadow state. -/
structure Filled (l : Loader) (es : List FlowEntry) (n : Nat) (c d : Classifier) : Prop where
  active : d.active = c.active
  bank : d.bank c.active = c.bank c.active
  defaultClass : d.defaultClass = c.defaultClass
  defaultCount : d.defaultCount = c.defaultCount
  inHand : d.inHand = c.inHand
  loader : d.loader = { l with pointer := l.after n }
  kept : ∀ j : Fin 64, (∀ i < n, l.after i ≠ j.val) → (d.bank c.active.other)[j] = (c.bank c.active.other)[j]
  written : ∀ j : Fin 64, ∀ i < n, l.after i = j.val → (∀ later < n, i < later → l.after later ≠ j.val) →
    (d.bank c.active.other)[j] = { es.getD i .blank with hits := 0 }

section
variable {e : FlowEntry} {es : List FlowEntry} {c : Classifier}

theorem filled_nil (h : c.loader.pointer ≤ c.loader.last.val) : Filled c.loader [] 0 c c where
  active := rfl
  bank := rfl
  defaultClass := rfl
  defaultCount := rfl
  inHand := rfl
  loader := by rw [Loader.after_zero h]
  kept _ _ := rfl
  written _ i hi := absurd hi (Nat.not_lt_zero i)

/-- One entry that exhausts the window. -/
theorem filled_one (h : c.loader.pointer ≤ c.loader.last.val)
    (hx : c.loader.last.val < c.loader.advanced.pointer) : Filled c.loader (e :: es) 1 c (writeEntry e c) := by
  obtain ⟨active, bank, defaultClass, defaultCount, inHand, loader⟩ := writeEntry_frame e c h
  refine ⟨active, bank, defaultClass, defaultCount, inHand, ?_, fun j other => ?_, fun j i hi hj _ => ?_⟩
  · rw [loader, Loader.after_one h hx]
    rfl
  · have miss := other 0 Nat.one_pos
    rw [Loader.after_zero h] at miss
    rw [writeEntry_shadow e c h, if_neg miss]
  · obtain rfl : i = 0 := by omega
    rw [Loader.after_zero h] at hj
    rw [writeEntry_shadow e c h, if_pos hj]
    rfl

/-- One entry, and then others where the window is not exhausted: they stand over it where they meet it. -/
theorem filled_cons {d : Classifier} {n : Nat} (h : c.loader.pointer ≤ c.loader.last.val)
    (hx : c.loader.advanced.pointer ≤ c.loader.last.val) (hd : Filled c.loader.advanced es n (writeEntry e c) d) :
    Filled c.loader (e :: es) (n + 1) c d := by
  obtain ⟨active, bank, defaultClass, defaultCount, inHand, loader⟩ := writeEntry_frame e c h
  have shift (i : Nat) := Loader.advanced_after h hx i
  have kept := hd.kept
  have written := hd.written
  rw [active] at kept written
  have bankD := hd.bank
  rw [active, bank] at bankD
  refine ⟨hd.active.trans active, bankD, hd.defaultClass.trans defaultClass, hd.defaultCount.trans defaultCount,
    hd.inHand.trans inHand, ?_, fun j other => ?_, fun j i hi hj lateness => ?_⟩
  · rw [hd.loader, shift]
    rfl
  · have miss := other 0 n.succ_pos
    rw [Loader.after_zero h] at miss
    rw [kept j fun i hi => by rw [shift]; exact other (i + 1) (Nat.succ_lt_succ hi), writeEntry_shadow e c h,
      if_neg miss]
  · cases i with
    | zero =>
      rw [Loader.after_zero h] at hj
      rw [kept j fun i hi => by rw [shift]; exact lateness (i + 1) (Nat.succ_lt_succ hi) i.succ_pos,
        writeEntry_shadow e c h, if_pos hj]
      rfl
    | succ i =>
      exact written j i (Nat.lt_of_succ_lt_succ hi) (by rw [shift]; exact hj) fun later hl hi => by
        rw [shift]
        exact lateness (later + 1) (Nat.succ_lt_succ hl) (Nat.succ_lt_succ hi)

theorem Loader.written_zero (l : Loader) : l.written 0 = 0 := by simp [written]

/-- Writing entries on a window that is not exhausted (R13, R14). -/
theorem writeEntries_filled (es : List FlowEntry) : ∀ c : Classifier, c.loader.pointer ≤ c.loader.last.val →
    (writeEntries es c).2 = c.loader.written es.length ∧
      Filled c.loader es (c.loader.written es.length) c (writeEntries es c).1 := by
  induction es with
  | nil =>
    intro c h
    exact ⟨c.loader.written_zero.symm, by rw [List.length_nil, c.loader.written_zero]; exact filled_nil h⟩
  | cons e es ih =>
    intro c h
    obtain ⟨-, -, -, -, -, loader⟩ := writeEntry_frame e c h
    rw [writeEntries_cons e c es h, List.length_cons]
    by_cases hx : c.loader.last.val < c.loader.advanced.pointer
    · rw [writeEntries_exhausted _ es (by rw [loader]; exact hx), Loader.written_one h hx]
      exact ⟨rfl, filled_one h hx⟩
    · have inside := Nat.not_lt.mp hx
      obtain ⟨count, filled⟩ := ih (writeEntry e c) (by rw [loader]; exact inside)
      rw [loader] at count filled
      rw [Loader.written_succ h inside]
      exact ⟨congrArg (· + 1) count, filled_cons h inside filled⟩

end

/-! ## The two requests -/

/-- A request that carries entries, on a window that is not exhausted (R13 to R16). -/
theorem storeEntries_written {es : List FlowEntry} {s : State} (hes : 1 ≤ es.length)
    (h : s.cls.loader.pointer ≤ s.cls.loader.last.val) : ∃ c data,
      storeEntries es s = .ok { s with cls := c } data ∧ FlowsWritten s.cls.loader es s.cls c data := by
  obtain ⟨count, filled⟩ := writeEntries_filled es s.cls h
  have some_written : s.cls.loader.written es.length ≠ 0 := by
    unfold Loader.written
    split <;> omega
  unfold storeEntries
  simp only [count, if_neg some_written]
  refine ⟨_, _, rfl, filled.active, filled.bank, rfl, filled.defaultClass, filled.defaultCount, filled.inHand,
    filled.loader, ?_, fun j => ⟨filled.kept j, filled.written j⟩⟩
  simp only [Loader.exhausted, filled.loader]

theorem storeEntries_exhausted {es : List FlowEntry} {s : State} (h : s.cls.loader.last.val < s.cls.loader.pointer) :
    storeEntries es s = .ok s [0] := by
  simp [storeEntries, writeEntries_exhausted s.cls es h]

theorem windowModeOf_byte (m : WindowMode) (b : Byte) (h : b.toNat = if m = .stop then 0 else 1) :
    windowModeOf b = some m := by
  unfold windowModeOf
  rw [h]
  cases m <;> rfl

theorem windowModeOf_refused {b : Byte} (h : 1 < b.toNat) : windowModeOf b = none := by
  unfold windowModeOf
  split
  · omega
  · omega
  · rfl

theorem actLoadFlows_stores {p : List Byte} {s : State} {l : Loader} {es : List FlowEntry}
    (first : l.first.val = natAt p 0 1) (last : l.last.val = natAt p 1 1) (ordered : natAt p 0 1 ≤ natAt p 1 1)
    (mode : natAt p 2 1 = if l.mode = .stop then 0 else 1) (pointer : l.pointer = natAt p 0 1)
    (carries : Carries (p.drop 3) es) : actLoadFlows p s = storeEntries es { s with cls.loader := l } := by
  have window : l.first.val ≤ l.last.val ∧ l.last.val < 64 := ⟨by omega, l.last.isLt⟩
  have eta : ({ first := l.first, last := l.last, mode := l.mode, pointer := l.first.val } : Loader) = l := by
    rw [first, ← pointer]
  rw [natAt_one p 2] at mode
  simp only [actLoadFlows, windowModeOf_byte l.mode _ mode, carriedEntries_of_carries carries, ← first, ← last]
  rw [dif_pos window]
  exact congrArg (fun x => storeEntries es { s with cls.loader := x }) eta

theorem actLoadFlows_refuses {p : List Byte} (s : State)
    (refused : natAt p 1 1 < natAt p 0 1 ∨ 63 < natAt p 1 1 ∨ 1 < natAt p 2 1 ∨ EntriesRefused (p.drop 3)) :
    actLoadFlows p s = .refuse s .badArgument := by
  unfold actLoadFlows
  dsimp only
  split
  · rename_i mode es hmode hes
    rw [dif_neg]
    rintro ⟨ordered, last⟩
    obtain h | h | h | h := refused
    · exact absurd ordered (Nat.not_le.mpr h)
    · exact absurd last (Nat.not_lt.mpr h)
    · rw [natAt_one] at h
      simp [windowModeOf_refused h] at hmode
    · simp [carriedEntries_of_refused h] at hes
  · rfl

/-- Settles O11: the window's entries are those of `writeEntries_filled`. -/
theorem loadingFillsTheShadowWindow : Obligations.LoadingFillsTheShadowWindow := by
  refine ⟨fun s r p rest l es h first last ordered mode pointer carries => ?_, fun s r p rest h refused => ?_,
    fun s r p rest h => ⟨fun refused => ?_, fun es carries => ⟨fun exhausted => ?_, fun inside => ?_⟩⟩⟩
  · obtain ⟨c, data, stored, written⟩ := storeEntries_written
      (s := { dequeue r rest s with cls.loader := l }) carries.2.1 (by rw [pointer, last]; exact ordered)
    exact ⟨c, data, congrArg Host.Outcome.next
      (takePlain_ok h ((actLoadFlows_stores first last ordered mode pointer carries).trans stored)), written⟩
  · exact congrArg Host.Outcome.next (takePlain_refuse h (by decide) (actLoadFlows_refuses _ refused))
  · exact congrArg Host.Outcome.next
      (takePlain_refuse h (by decide) (by simp [actContinueFlows, carriedEntries_of_refused refused]))
  · exact congrArg Host.Outcome.next
      (takePlain_ok h (by
        simp only [actContinueFlows, carriedEntries_of_carries carries]
        exact storeEntries_exhausted exhausted))
  · obtain ⟨c, data, stored, written⟩ := storeEntries_written (s := dequeue r rest s) carries.2.1 inside
    exact ⟨c, data, congrArg Host.Outcome.next
      (takePlain_ok h (by simp only [actContinueFlows, carriedEntries_of_carries carries]; exact stored)), written⟩

end Sys2Proof.Machine
end

section
/-! SUPPORT and proofs: the frame key, the match and its count (O6). -/

namespace Sys2Proof.Machine

/-! ## The key of a frame -/

section
variable (data : List Byte)

theorem natAt_ofNat {w : Nat} (offset n : Nat) (h : 256 ^ n ≤ 2 ^ w) :
    (BitVec.ofNat w (natAt data offset n)).toNat = natAt data offset n := by
  rw [BitVec.toNat_ofNat]
  exact Nat.mod_eq_of_lt ((natAt_lt data offset n).trans_le h)

theorem byteAt_eq_ofNat (offset : Nat) : byteAt data offset = BitVec.ofNat 8 (natAt data offset 1) := by
  rw [natAt_one]; simp

/-- The first byte of a field of frame data. -/
theorem natAt_succ (offset n : Nat) (h : offset + n < data.length) :
    natAt data offset (n + 1) = natAt data offset 1 * 256 ^ n + natAt data (offset + 1) n := by
  have hlt : offset < data.length := by omega
  have fields : slice data offset (n + 1) = byteAt data offset :: slice data (offset + 1) n := by
    simp only [slice, List.drop_eq_getElem_cons hlt, List.take_succ_cons, byteAt_eq, List.getElem?_eq_getElem hlt,
      Option.getD_some]
  have length : (slice data (offset + 1) n).length = n := by simp [slice]; omega
  rw [natAt_one, natAt, fields, beNat_cons, length]
  rfl

end

/-- dst kind by the numbers of the address and of its first byte (R2). -/
theorem dstKind_natAt (box : MacAddr) (data : List Byte) (h : 6 ≤ data.length) :
    dstKind box (BitVec.ofNat 48 (natAt data 0 6)) =
      if natAt data 0 6 = box.toNat then .box else if natAt data 0 6 = 0xFFFFFFFFFFFF then .broadcast
      else if natAt data 0 1 % 2 = 1 then .multicast else .other := by
  have value := natAt_ofNat data (w := 48) 0 6 (by decide)
  have group : (BitVec.ofNat 48 (natAt data 0 6)).getLsbD 40 = true ↔ natAt data 0 1 % 2 = 1 := by
    have low : natAt data 1 5 < 2 ^ 40 := natAt_lt data 1 5
    rw [BitVec.getLsbD_ofNat, Nat.testBit_eq_decide_div_mod_eq, natAt_succ data 0 5 (by omega)]
    simp
    omega
  have eq (x : MacAddr) : BitVec.ofNat 48 (natAt data 0 6) = x ↔ natAt data 0 6 = x.toNat := by
    rw [BitVec.toNat_eq, value]
  simp only [dstKind, eq, group]
  rfl

theorem hasRun_iff (run bytes : List Byte) : hasRun run bytes = true ↔ run <:+: bytes := by
  induction bytes with
  | nil => simp [hasRun]
  | cons b bs ih => simp [hasRun, ih, List.infix_cons_iff]

theorem ofNat_byte_eq {m n : Nat} (hm : m < 256) (hn : n < 256) :
    BitVec.ofNat 8 m = BitVec.ofNat 8 n ↔ m = n := by
  rw [BitVec.toNat_eq, BitVec.toNat_ofNat, BitVec.toNat_ofNat, Nat.mod_eq_of_lt hm, Nat.mod_eq_of_lt hn]

section
variable (e : Word16) (pl : List Byte)

theorem ethertype_ipv4 : e = 0x0800 ↔ e.toNat = 0x0800 := BitVec.toNat_eq

theorem ethertype_ipv6 : e = 0x86DD ↔ e.toNat = 0x86DD := BitVec.toNat_eq

/-- The ip protocol (R3). -/
theorem ipProtocol_eq : ipProtocol e pl =
    if e.toNat = 0x0800 ∨ e.toNat = 0x86DD then some (BitVec.ofNat 8 (natAt pl (if e.toNat = 0x0800 then 9 else 6) 1))
    else none := by
  simp only [ipProtocol, ethertype_ipv4, ethertype_ipv6, byteAt_eq_ofNat]
  by_cases ipv4 : e.toNat = 0x0800
  · simp [ipv4]
  · simp [ipv4]

/-- Where the transport header starts (R3). -/
theorem transportOffset_eq : transportOffset e pl =
    if (e.toNat = 0x0800 ∧ 5 ≤ natAt pl 0 1 % 16 ∧ natAt pl 6 2 % 8192 = 0) ∨ e.toNat = 0x86DD then
      some (if e.toNat = 0x0800 then 4 * (natAt pl 0 1 % 16) else 40)
    else none := by
  simp only [transportOffset, ethertype_ipv4, ethertype_ipv6, ← natAt_one]
  by_cases ipv4 : e.toNat = 0x0800
  · simp [ipv4]
  · simp [ipv4]

variable {e pl}

theorem dstPortOf_none (ht : transportOffset e pl = none) : dstPortOf e pl = none := by
  simp [dstPortOf, ht]

theorem synOf_none (ht : transportOffset e pl = none) : synOf e pl = none := by
  simp [synOf, ht]

variable {proto start : Nat} (hp : ipProtocol e pl = some (BitVec.ofNat 8 proto)) (hb : proto < 256)
  (ht : transportOffset e pl = some start)

include hp hb ht

/-- The dst port of a first fragment (R3). -/
theorem dstPortOf_eq : dstPortOf e pl =
    if (proto = 6 ∨ proto = 17) ∧ start + 4 ≤ pl.length then some (BitVec.ofNat 16 (natAt pl (start + 2) 2))
    else none := by
  have tcp : BitVec.ofNat 8 proto = 6 ↔ proto = 6 := ofNat_byte_eq hb (n := 6) (by decide)
  have udp : BitVec.ofNat 8 proto = 17 ↔ proto = 17 := ofNat_byte_eq hb (n := 17) (by decide)
  simp only [dstPortOf, hp, ht, tcp, udp]

/-- The syn field of a first fragment (R3). -/
theorem synOf_eq : synOf e pl =
    if proto = 6 ∧ start + 14 ≤ pl.length then
      some (decide (natAt pl (start + 13) 1 / 2 % 2 = 1 ∧ natAt pl (start + 13) 1 / 16 % 2 = 0))
    else none := by
  have flags : ((byteAt pl (start + 13)).getLsbD 1 && !(byteAt pl (start + 13)).getLsbD 4) =
      decide (natAt pl (start + 13) 1 / 2 % 2 = 1 ∧ natAt pl (start + 13) 1 / 16 % 2 = 0) := by
    rw [natAt_one, ← BitVec.testBit_toNat, ← BitVec.testBit_toNat, Nat.testBit_eq_decide_div_mod_eq,
      Nat.testBit_eq_decide_div_mod_eq, Bool.eq_iff_iff]
    simp only [Bool.and_eq_true, Bool.not_eq_true', decide_eq_true_eq, decide_eq_false_iff_not]
    omega
  have protocol : BitVec.ofNat 8 proto = 6 ↔ proto = 6 := ofNat_byte_eq hb (n := 6) (by decide)
  simp only [synOf, dstPortOf_eq hp hb ht, hp, ht]
  by_cases tcp : proto = 6 ∧ start + 14 ≤ pl.length
  · have port : (proto = 6 ∨ proto = 17) ∧ start + 4 ≤ pl.length := by omega
    simp only [if_pos port, flags, protocol]
  · rw [if_neg tcp]
    by_cases port : (proto = 6 ∨ proto = 17) ∧ start + 4 ≤ pl.length
    · simp only [if_pos port, flags, protocol, if_neg tcp]
    · simp only [if_neg port]

end

/-! ## Matching -/

theorem satAdd_toNat {w : Nat} (count : BitVec w) (n : Nat) :
    (satAdd count n).toNat = min (count.toNat + n) (2 ^ w - 1) := by
  rw [satAdd, BitVec.toNat_ofNat, Nat.mod_eq_of_lt]
  have : 0 < 2 ^ w := Nat.two_pow_pos w
  omega

section
variable {α : Type} [DecidableEq α]

theorem condMet_iff (cond : Option α) (value : α) : condMet cond value = true ↔ ∀ x, cond = some x → value = x := by
  cases cond <;> simp [condMet, eq_comm]

theorem condMetOpt_iff (cond value : Option α) :
    condMetOpt cond value = true ↔ ∀ x, cond = some x → value = some x := by
  cases cond <;> simp [condMetOpt]

end

theorem portMet_iff (cond : Option PortRange) (port : Option Word16) :
    portMet cond port = true ↔
      ∀ x, cond = some x → ∃ p, port = some p ∧ x.lo.toNat ≤ p.toNat ∧ p.toNat ≤ x.hi.toNat := by
  cases cond <;> cases port <;> simp [portMet]

theorem meets_iff (e : FlowEntry) (k : FrameKey) : e.meets k = true ↔
    e.valid = true ∧ (∀ x, e.dstKind = some x → k.dstKind = x) ∧ (∀ x, e.src = some x → k.src = x) ∧
    (∀ x, e.vlan = some x → k.vlan = some x) ∧ (∀ x, e.ethertype = some x → k.ethertype = x) ∧
    (∀ x, e.ipProto = some x → k.ipProto = some x) ∧
    (∀ x, e.dstPort = some x → ∃ port, k.dstPort = some port ∧ x.lo.toNat ≤ port.toNat ∧ port.toNat ≤ x.hi.toNat) ∧
    (∀ x, e.syn = some x → k.syn = some x) ∧ (∀ x, e.pacingType = some x → k.pacingType = some x) ∧
    ∀ x, e.wakeSig = some x → k.wakeSig = x := by
  simp only [FlowEntry.meets, Bool.and_eq_true, condMet_iff, condMetOpt_iff, portMet_iff, and_assoc]

/-- The winner is the lowest of the entries that meet the key (R6). -/
theorem winner_eq_some {bank : Vector FlowEntry 64} {k : FrameKey} {i : Fin 64} (hi : bank[i].meets k = true)
    (low : ∀ j : Fin 64, j < i → bank[j].meets k = false) : winner bank k = some i := by
  refine List.find?_eq_some_iff_getElem.mpr ⟨hi, i.val, by simp, by simp, fun j hj => ?_⟩
  rw [List.getElem_finRange]
  simpa using low ⟨j, by omega⟩ hj

theorem winner_eq_none {bank : Vector FlowEntry 64} {k : FrameKey} (h : ∀ j : Fin 64, bank[j].meets k = false) :
    winner bank k = none :=
  List.find?_eq_none.mpr fun j _ => by simpa using h j

section
variable {c : Classifier} {k : FrameKey}

theorem resolve_winner {i : Fin 64} (hi : (c.bank c.active)[i].meets k = true)
    (low : ∀ j : Fin 64, j < i → (c.bank c.active)[j].meets k = false) : resolve c k =
      { entry := some i, action := (c.bank c.active)[i].action, wake := (c.bank c.active)[i].wake,
        bays := (c.bank c.active)[i].bays } := by
  simp only [resolve, winner_eq_some hi low]

theorem resolve_default (h : ∀ j : Fin 64, (c.bank c.active)[j].meets k = false) : resolve c k =
    { entry := none, action := if c.defaultClass = .pass then .pass else .drop, wake := false, bays := 0 } := by
  simp only [resolve, winner_eq_none h]
  cases c.defaultClass <;> rfl

theorem countMatch_entry (m : MatchResult) {i : Fin 64} (h : m.entry = some i) (j : Fin 64) :
    ((countMatch m c).bank c.active)[j] =
      if j = i then { (c.bank c.active)[j] with hits := satAdd (c.bank c.active)[j].hits 1 }
      else (c.bank c.active)[j] := by
  simp only [countMatch, h, bank_setBank_self]
  by_cases hj : j = i
  · subst hj
    simp
  · rw [if_neg hj]
    exact getElem_vecMod_ne _ _ _ _ hj

end

/-- Settles O6. -/
theorem theLowestMatchingEntryWins : Obligations.TheLowestMatchingEntryWins := by
  refine ⟨fun cfg data pl length et proto start flags firstFragment k hlen hk het hpl hproto hfirst hstart hflags => ?_,
    fun w count n => satAdd_toNat count n, meets_iff, fun c k => ⟨fun i hi low => ?_, fun h => ?_⟩⟩
  · have tagged : typeOffset data = if natAt data 12 2 = 0x8100 then 16 else 12 := rfl
    have payload : payloadOf data = pl := by
      rw [hpl, payloadOf, tagged]
      split <;> rfl
    have type : (BitVec.ofNat 16 (natAt data (typeOffset data) 2)).toNat = et := by
      rw [natAt_ofNat data _ _ (by decide), het, tagged]
      split <;> rfl
    have small : proto < 256 := hproto ▸ natAt_lt pl _ 1
    have ip := ipProtocol_eq (BitVec.ofNat 16 (natAt data (typeOffset data) 2)) pl
    have transport := transportOffset_eq (BitVec.ofNat 16 (natAt data (typeOffset data) 2)) pl
    rw [type, ← hproto] at ip
    rw [type, ← hstart] at transport
    have pacing : BitVec.ofNat 16 (natAt data (typeOffset data) 2) = cfg.pacingType ↔ et = cfg.pacingType.toNat := by
      rw [BitVec.toNat_eq, type]
    simp only [frameKey, payload] at hk
    generalize BitVec.ofNat 16 (natAt data (typeOffset data) 2) = e at *
    subst hk
    refine ⟨payload, rfl, natAt_ofNat data 6 6 (by decide), type, dstKind_natAt _ _ (by omega), fun h => if_pos h,
      fun h => if_neg h, fun h => ip.trans (if_pos h), fun h4 h6 => ip.trans (if_neg (by tauto)), ?_⟩
    have pacingType : pacingTypeOf cfg.pacingType e pl =
        if et = cfg.pacingType.toNat ∧ 12 ≤ pl.length then some (BitVec.ofNat 8 (natAt pl 0 1)) else none := by
      simp only [pacingTypeOf, pacing, byteAt_eq_ofNat]
    have wakeSig : hasRun (signatureRun cfg.boxAddr) pl = true ↔
        ∃ before after, pl = before ++ signatureRun cfg.boxAddr ++ after :=
      (hasRun_iff _ pl).trans (by simp only [List.IsInfix, eq_comm])
    by_cases first : firstFragment
    · have ipFirst := ip.trans (if_pos ((hfirst.mp first).imp And.left id))
      have offset := transport.trans (if_pos (hfirst.mp first))
      have port := dstPortOf_eq ipFirst small offset
      have syn := synOf_eq ipFirst small offset
      rw [← hflags] at syn
      exact ⟨fun h => port.trans (if_pos h.2), fun h => port.trans (if_neg fun hc => h ⟨first, hc⟩),
        fun h => syn.trans (if_pos h.2), fun h => syn.trans (if_neg fun hc => h ⟨first, hc⟩),
        fun h => pacingType.trans (if_pos h), fun h => pacingType.trans (if_neg h), wakeSig⟩
    · have offset := transport.trans (if_neg fun h => first (hfirst.mpr h))
      exact ⟨fun h => absurd h.1 first, fun _ => dstPortOf_none offset, fun h => absurd h.1 first,
        fun _ => synOf_none offset, fun h => pacingType.trans (if_pos h), fun h => pacingType.trans (if_neg h), wakeSig⟩
  · rw [resolve_winner hi low]
    exact ⟨rfl, countMatch_entry _ rfl, by simp [countMatch]⟩
  · rw [resolve_default h]
    exact ⟨rfl, rfl, rfl, rfl, rfl⟩

end Sys2Proof.Machine
end

section
/-! SUPPORT and proofs: a LAN frame taken, where it goes and what it wakes (O7, O8, O9). -/

namespace Sys2Proof.Machine

/-- Two states of the same blocks. -/
theorem State.eq_of_blocks {s t : State} (time : s.time = t.time) (lan : s.lan = t.lan) (cls : s.cls = t.cls)
    (cells : s.cells = t.cells) (pow : s.pow = t.pow) (hold : s.hold = t.hold) (ans : s.ans = t.ans)
    (bay : s.bay = t.bay) (pac : s.pac = t.pac) (share : s.share = t.share) (host : s.host = t.host)
    (mgmt : s.mgmt = t.mgmt) (note : s.note = t.note) (ret : s.ret = t.ret) (cfg : s.cfg = t.cfg)
    (choices : s.choices = t.choices) (pending : s.pending = t.pending) : s = t := by
  cases s
  cases t
  simp_all

/-! ## Bay sets and demands -/

theorem baySet_eq {a b : BaySet} (h : ∀ i : Bay, hasBay a i = hasBay b i) : a = b :=
  BitVec.eq_of_getLsbD_eq fun i hi => h ⟨i, hi⟩

@[simp] theorem hasBay_or (a b : BaySet) (i : Bay) : hasBay (a ||| b) i = (hasBay a i || hasBay b i) := by
  simp [hasBay]

@[simp] theorem hasBay_zero (i : Bay) : hasBay 0 i = false := by simp [hasBay]

theorem hasBay_oneBay (i j : Bay) : hasBay (oneBay j) i = decide (i = j) := by
  revert i j
  decide

@[simp] theorem hasBay_baysWhere (p : Bay → Bool) (i : Bay) : hasBay (baysWhere p) i = p i := by
  have add (set : BaySet) (j : Bay) : hasBay (if p j then set ||| oneBay j else set) i =
      (hasBay set i || (p j && decide (i = j))) := by
    cases p j <;> simp [hasBay_oneBay]
  simp only [baysWhere, allBays, List.foldl_cons, List.foldl_nil, add, hasBay_zero]
  fin_cases i <;> simp

/-- What a demand makes of the bay controller follows from the bay controller alone (R97, R100). -/
theorem demand_bay_congr (set : BaySet) {s t : State} (h : s.bay = t.bay) : (demand set s).bay = (demand set t).bay := by
  have one (b : Bay) : ∀ s t : State, s.bay = t.bay → (demandBay b s).bay = (demandBay b t).bay := by
    intro s t h
    unfold demandBay
    rw [h]
    split <;> simp [onBay, h]
  have each (l : List Bay) : ∀ s t : State, s.bay = t.bay →
      (l.foldl (fun t b => if hasBay set b then demandBay b t else t) s).bay =
        (l.foldl (fun t b => if hasBay set b then demandBay b t else t) t).bay := by
    induction l with
    | nil => exact fun s t h => h
    | cons b l ih =>
      intro s t h
      refine ih _ _ ?_
      dsimp only
      split
      · exact one b s t h
      · exact h
  have heads (n : Nat) : ∀ s t : State, s.bay = t.bay → (tryHeads n s).bay = (tryHeads n t).bay := by
    induction n with
    | zero => exact fun s t h => h
    | succ n ih =>
      intro s t h
      unfold tryHeads
      rw [h]
      split
      · exact h
      · split
        · exact ih _ _ (by simp [onBay])
        · exact h
  unfold demand
  split
  · exact h
  · have after := each allBays s t h
    unfold tryHead
    rw [after]
    exact heads _ _ _ after

/-! ## Wake events -/

section
variable {s : State} {name : WakeName} (bays : BaySet)

theorem wakeEvent_unheard (h : ((s.pow.source name).enable && (!s.pow.latch || decide (name = .button))) = false) :
    wakeEvent name bays s = s := by
  simp [wakeEvent, h]

theorem wakeEvent_awake (h : s.pow.box = .run ∨ ∃ sub, s.pow.box = .waking sub) : wakeEvent name bays s = s := by
  unfold wakeEvent
  obtain h | ⟨sub, h⟩ := h <;> simp [h]

theorem wakeEvent_entry (henable : (s.pow.source name).enable = true) (hlatch : s.pow.latch = false)
    (h : s.pow.box = .sleepEntry) : wakeEvent name bays s = latchWake name bays s := by
  simp [wakeEvent, henable, hlatch, h]

theorem wakeEvent_sleep (henable : (s.pow.source name).enable = true) (hlatch : s.pow.latch = false)
    (h : s.pow.box = .sleep) : wakeEvent name bays s = startWake (latchWake name bays s) := by
  simp [wakeEvent, henable, hlatch, h]

end

/-- The frame raises the LAN source, and the source is enabled (R12, R49). -/
def hearsLan (s : State) (m : MatchResult) : Bool :=
  m.wake && m.entry.isSome && s.pow.lan.enable

/-- The frame raises the SIGNATURE source, and the source is enabled (R12, R49). -/
def hearsSignature (s : State) (k : FrameKey) : Bool :=
  k.wakeSig && s.pow.signature.enable

/-- The LAN event of a frame taken in a box state (R12, R49). -/
def raiseLan (box : BoxState) (m : MatchResult) (s : State) : State :=
  if m.wake && m.entry.isSome && (decide (box = .sleep) || decide (box = .sleepEntry)) then wakeEvent .lan m.bays s
  else s

/-- The SIGNATURE event of a frame (R12, R49). -/
def raiseSignature (k : FrameKey) (s : State) : State :=
  if k.wakeSig then wakeEvent .signature 0 s else s

/-- Each of the two events alone would start a wake. -/
def bothWake (s : State) (k : FrameKey) (m : MatchResult) : Bool :=
  hearsLan s m && hearsSignature s k && !s.pow.latch && decide (s.pow.box = .sleep)

section
variable {s : State} {k : FrameKey} {m : MatchResult}

/-- Where the two events do not each start a wake, LAN comes first. -/
theorem raiseWakes_ordered (h : bothWake s k m = false) :
    raiseWakes s.pow.box k m s = raiseSignature k (raiseLan s.pow.box m s) := by
  unfold raiseWakes raiseSignature raiseLan
  cases hl : m.wake && m.entry.isSome && (decide (s.pow.box = .sleep) || decide (s.pow.box = .sleepEntry)) <;>
    cases hs : k.wakeSig
  case true.true =>
    have raised : m.wake = true ∧ m.entry.isSome = true := by
      simp only [Bool.and_eq_true] at hl
      exact hl.1
    have alone : (wouldWake .lan s && wouldWake .signature s) = false := by
      rw [← Bool.not_eq_true] at h ⊢
      refine fun both => h ?_
      simp_all [bothWake, hearsLan, hearsSignature, wouldWake, Power.source]
    rw [alone]
    rfl
  all_goals rfl

/-- Where each would start a wake, their order is free (assumption log 4). -/
theorem raiseWakes_free (h : bothWake s k m = true) :
    raiseWakes s.pow.box k m s = inEitherOrder (wakeEvent .lan m.bays) (wakeEvent .signature 0) s := by
  simp only [bothWake, hearsLan, hearsSignature, Bool.and_eq_true, Bool.not_eq_true', decide_eq_true_eq] at h
  obtain ⟨⟨⟨⟨⟨wake, entry⟩, lan⟩, raised, signature⟩, latch⟩, box⟩ := h
  unfold raiseWakes wouldWake
  rw [wake, entry, raised, box, latch]
  simp only [Power.source, lan, signature]
  rfl

theorem raiseLan_unheard (h : s.pow.box = .run ∨ (∃ sub, s.pow.box = .waking sub) ∨ s.pow.latch = true ∨
    hearsLan s m = false) : raiseLan s.pow.box m s = s := by
  unfold raiseLan
  split
  · rename_i raised
    simp only [Bool.and_eq_true] at raised
    obtain h | h | h | h := h
    · exact wakeEvent_awake _ (.inl h)
    · exact wakeEvent_awake _ (.inr h)
    · exact wakeEvent_unheard _ (by simp [h])
    · have disabled : s.pow.lan.enable = false := by simpa [hearsLan, raised] using h
      exact wakeEvent_unheard _ (by simp [Power.source, disabled])
  · rfl

theorem raiseSignature_unheard (h : s.pow.box = .run ∨ (∃ sub, s.pow.box = .waking sub) ∨ s.pow.latch = true ∨
    hearsSignature s k = false) : raiseSignature k s = s := by
  unfold raiseSignature
  split
  · rename_i raised
    obtain h | h | h | h := h
    · exact wakeEvent_awake _ (.inl h)
    · exact wakeEvent_awake _ (.inr h)
    · exact wakeEvent_unheard _ (by simp [h])
    · have disabled : s.pow.signature.enable = false := by simpa [hearsSignature, raised] using h
      exact wakeEvent_unheard _ (by simp [Power.source, disabled])
  · rfl

/-- A frame whose events the power controller does not hear (R47). -/
theorem raiseWakes_unheard (h : s.pow.box = .run ∨ (∃ sub, s.pow.box = .waking sub) ∨ s.pow.latch = true ∨
    (hearsLan s m = false ∧ hearsSignature s k = false)) : raiseWakes s.pow.box k m s = s := by
  have alone : bothWake s k m = false := by
    obtain h | ⟨sub, h⟩ | h | ⟨h, -⟩ := h <;> simp [bothWake, h]
  rw [raiseWakes_ordered alone, raiseLan_unheard (by tauto), raiseSignature_unheard (by tauto)]

/-- In SLEEP_ENTRY a LAN event that is heard is latched, with its bay set (R47, R49). -/
theorem raiseLan_entry (hbox : s.pow.box = .sleepEntry) (hlatch : s.pow.latch = false) : raiseLan s.pow.box m s =
    { s with pow.lan :=
        if hearsLan s m then { s.pow.lan with pending := true, bays := s.pow.lan.bays ||| m.bays } else s.pow.lan } := by
  cases h : hearsLan s m with
  | false => exact raiseLan_unheard (.inr (.inr (.inr h)))
  | true =>
    simp only [hearsLan, Bool.and_eq_true] at h
    obtain ⟨raised, enabled⟩ := h
    unfold raiseLan
    rw [hbox, if_pos (by simp [raised]), wakeEvent_entry (name := .lan) _ enabled hlatch hbox]
    rfl

/-- In SLEEP_ENTRY a SIGNATURE event that is heard is latched (R47). -/
theorem raiseSignature_entry (hbox : s.pow.box = .sleepEntry) (hlatch : s.pow.latch = false) : raiseSignature k s =
    { s with
      pow.signature := { s.pow.signature with pending := hearsSignature s k || s.pow.signature.pending } } := by
  cases h : hearsSignature s k with
  | false => exact raiseSignature_unheard (.inr (.inr (.inr h)))
  | true =>
    obtain ⟨raised, enabled⟩ := Bool.and_eq_true_iff.mp h
    unfold raiseSignature
    rw [if_pos raised, wakeEvent_entry (name := .signature) _ enabled hlatch hbox]
    rfl

theorem raiseWakes_entry (hbox : s.pow.box = .sleepEntry) (hlatch : s.pow.latch = false) :
    raiseWakes s.pow.box k m s =
      { s with
        pow.lan :=
          if hearsLan s m then { s.pow.lan with pending := true, bays := s.pow.lan.bays ||| m.bays } else s.pow.lan,
        pow.signature := { s.pow.signature with pending := hearsSignature s k || s.pow.signature.pending } } := by
  rw [raiseWakes_ordered (by simp [bothWake, hbox]), raiseLan_entry hbox hlatch]
  exact raiseSignature_entry (s := { s with pow.lan := _ }) hbox hlatch

/-- Where a frame's wake events leave the part (R12, R47). -/
theorem raiseWakes_raised {u : State} (hp : u.pow = s.pow) :
    WakesRaised s k m u (raiseWakes s.pow.box k m u) := by
  have heard : s.pow.box = .run ∨ (∃ sub, s.pow.box = .waking sub) ∨ s.pow.latch = true ∨
      (hearsLan s m = false ∧ hearsSignature s k = false) → raiseWakes s.pow.box k m u = u := by
    rw [← hp]
    refine fun h => raiseWakes_unheard ?_
    simpa [hearsLan, hearsSignature, hp] using h
  refine ⟨by apply State.eq_of_blocks <;> simp, fun awake => ?_, heard⟩
  cases hbox : s.pow.box with
  | run => rw [← hbox, heard (.inl hbox)]
  | waking sub => rw [← hbox, heard (.inr (.inl ⟨sub, hbox⟩))]
  | sleep => exact absurd hbox awake
  | sleepEntry =>
    cases hlatch : s.pow.latch with
    | true => rw [← hbox, heard (.inr (.inr (.inl hlatch)))]
    | false =>
      rw [← hp] at hbox hlatch
      rw [← hbox, raiseWakes_entry hbox hlatch]

end

/-! ## A frame taken -/

theorem handOver_received {s : State} {frame : List Byte} {k : FrameKey} {m : MatchResult} (h : Received s frame k m) :
    exec (.lanFrameTaken frame) s =
      .next (raiseWakes s.pow.box k m
        (dispatch { frame := frame, key := k, arrival := s.time.ms } m
          { s with cls := classifierTaking frame k m s })) := by
  obtain ⟨up, good, rfl, rfl⟩ := h
  simp only [exec, execLanFrameTaken, up, good, Bool.and_true, if_pos]
  rfl

theorem received_length {s : State} {frame : List Byte} {k : FrameKey} {m : MatchResult} (h : Received s frame k m) :
    k.length = frame.length := by
  obtain ⟨-, -, rfl, -⟩ := h
  rfl

/-- A good frame is its frame data with the frame check sequence (R1). -/
theorem withFcs_frameData {frame : List Byte} (h : frameGood frame = true) : withFcs (frameData frame) = frame := by
  simp only [frameGood, Bool.and_eq_true, decide_eq_true_eq] at h
  rw [withFcs, ← h.2]
  exact List.take_append_drop _ _

section
variable {q : Question} {s : State}

theorem handQuestion_room (h : s.ans.questions.length < 4) :
    handQuestion q s = { s with ans.questions := s.ans.questions ++ [q] } :=
  if_pos h

theorem handQuestion_valid (h : ¬ s.ans.questions.length < 4) (valid : s.ans.records[q.index].valid = true) :
    handQuestion q s =
      { s with ans.records := vecMod s.ans.records q.index fun r => { r with suppressed := satAdd r.suppressed 1 } } := by
  rw [handQuestion, if_neg h, if_pos valid]

theorem handQuestion_invalid (h : ¬ s.ans.questions.length < 4) (invalid : s.ans.records[q.index].valid = false) :
    handQuestion q s = { s with ans.invalid := satAdd s.ans.invalid 1 } := by
  rw [handQuestion, if_neg h, if_neg (Bool.eq_false_iff.mp invalid)]

end

/-- The records after one has been suppressed. -/
theorem getElem_suppressed (records : Vector AnswerRecord 16) (a i : Fin 16) :
    (vecMod records a fun r => { r with suppressed := satAdd r.suppressed 1 })[i] =
      if i = a then { records[a] with suppressed := satAdd records[a].suppressed 1 } else records[i] := by
  by_cases h : i = a
  · subst h
    simp
  · rw [if_neg h]
    exact getElem_vecMod_ne _ _ _ _ h

/-- Settles O7. -/
theorem framesAreHandedOverByClass : Obligations.FramesAreHandedOverByClass := by
  refine ⟨fun frame s h => ?_, fun frame s u k m h hu => ⟨fun drop => ?_, fun p backup pacing => ?_,
    fun a proxy asleep => ?_⟩⟩
  · have discarded : (s.lan.up && frameGood frame) = false := by
      obtain h | h := h <;> simp [h]
    simp [exec, execLanFrameTaken, discarded]
  all_goals
    subst hu
    refine ⟨_, handOver_received h, ?_⟩
  · have handed (f : FrameInHand) (t : State) : dispatch f m t = t := by simp [dispatch, drop]
    rw [handed]
    exact raiseWakes_raised rfl
  · simp only [dispatch, backup, if_pos pacing, received_length h]
    exact raiseWakes_raised rfl
  · simp only [dispatch, proxy, if_neg asleep, received_length h]
    refine ⟨fun room => ?_, fun full => ⟨fun valid => ⟨_, ?_, getElem_suppressed _ a⟩, fun invalid => ?_⟩⟩
    · rw [handQuestion_room (s := { s with cls := classifierTaking frame k m s }) room]
      exact raiseWakes_raised rfl
    · rw [handQuestion_valid (s := { s with cls := classifierTaking frame k m s }) (Nat.not_lt.mpr full) valid]
      exact raiseWakes_raised rfl
    · rw [handQuestion_invalid (s := { s with cls := classifierTaking frame k m s }) (Nat.not_lt.mpr full) invalid]
      exact raiseWakes_raised rfl

/-! ## Frames to the host -/

section
variable {s : State} {data : List Byte}

/-- A direct frame on a busy host link joins the L path (R167). -/
theorem handDirect_busy (hup : s.host.up = true) (room : s.host.lpath.length < 16)
    (busy : s.host.sending.isSome = true) :
    handDirect data s = { s with host.lpath := s.host.lpath ++ [{ released := false, data := data }] } := by
  rw [handDirect, if_pos (by simp [hup, room])]
  exact hostKick_busy busy

/-- A direct frame on a link with nothing to send starts at once (R167). -/
theorem handDirect_starts (hup : s.host.up = true) (free : s.host.sending = none) (responses : s.host.responses = [])
    (lpath : s.host.lpath = []) :
    handDirect data s = { s with host.sending := some (.direct (withFcs data)) } := by
  simp [handDirect, hostKick, hup, free, responses, lpath]

theorem handDirect_discards (h : s.host.up = false ∨ 16 ≤ s.host.lpath.length) : handDirect data s = s := by
  rw [handDirect, if_neg]
  obtain h | h := h <;> simp [h]

/-- What a frame handed to the host link makes of the rest of the part does not read the classifier. -/
theorem handDirect_cls_comm (c : Classifier) :
    handDirect data { s with cls := c } = { handDirect data s with cls := c } := by
  unfold handDirect
  dsimp only
  split
  · unfold hostKick
    dsimp only
    repeat' split
    all_goals rfl
  · rfl

/-- The tests of R63 do not read the classifier. -/
theorem holdFrame_cls_comm (frame : List Byte) (cls : HeldClass) (entry : Option (Fin 64)) (arrival : Word32)
    (c : Classifier) : holdFrame frame cls entry arrival { s with cls := c } =
      { holdFrame frame cls entry arrival s with cls := c } := by
  unfold holdFrame CellStore.free
  dsimp only
  repeat' split
  all_goals rfl

end

/-- Table 1.4: the box states in which a host-bound frame goes to the hold queue. -/
def HeldByState (s : State) (m : MatchResult) : Prop :=
  (s.pow.box = .run ∧ s.hold.records ≠ []) ∨ s.pow.box = .sleepEntry ∨ (∃ sub, s.pow.box = .waking sub) ∨
    (s.pow.box = .sleep ∧ m.wake = true)

section
variable {s : State} {f : FrameInHand} {m : MatchResult}

theorem dispatchPass_direct (hbox : s.pow.box = .run) (hempty : s.hold.records = []) :
    dispatchPass f m s = handDirect (frameData f.frame) s := by
  simp [dispatchPass, State.releasing, hbox, hempty]

theorem dispatchPass_held (h : HeldByState s m) :
    dispatchPass f m s = holdFrame f.frame m.action.heldClass m.entry f.arrival s := by
  obtain ⟨hbox, hheld⟩ | hbox | ⟨sub, hbox⟩ | ⟨hbox, hwake⟩ := h
  · simp [dispatchPass, State.releasing, hbox, hheld]
  · simp [dispatchPass, hbox]
  · simp [dispatchPass, hbox]
  · simp [dispatchPass, hbox, hwake]

theorem dispatchPass_dropped (hbox : s.pow.box = .sleep) (hwake : m.wake = false) : dispatchPass f m s = s := by
  simp [dispatchPass, hbox, hwake]

/-- The classes that are handed over as PASS (R8 to R11). -/
theorem dispatch_hostBound {cls : HeldClass}
    (h : (m.action = .pass ∧ cls = .pass) ∨ (m.action = .share ∧ s.pow.box ≠ .run ∧ cls = .share) ∨
      ((∃ p, m.action = .backup p) ∧ f.key.ethertype ≠ s.cfg.pacingType ∧ cls = .backup) ∨
      ((∃ a, m.action = .proxy a) ∧ s.pow.box = .run ∧ cls = .proxy)) :
    dispatch f m s = dispatchPass f m s ∧ m.action.heldClass = cls := by
  obtain ⟨ha, rfl⟩ | ⟨ha, hbox, rfl⟩ | ⟨⟨p, ha⟩, htype, rfl⟩ | ⟨⟨a, ha⟩, hbox, rfl⟩ := h
  · simp [dispatch, ha, Action.heldClass]
  · simp [dispatch, ha, hbox, Action.heldClass]
  · simp [dispatch, ha, htype, Action.heldClass]
  · simp [dispatch, ha, hbox, Action.heldClass]

theorem dispatch_share (ha : m.action = .share) (hbox : s.pow.box = .run) :
    dispatch f m s = demand m.bays (shareReport (dispatchPass f m s)) := by
  simp [dispatch, ha, hbox]

end

/-- A SHARE frame in RUN that has been passed: share-active with the full window, and its bay set demanded (R97, R155,
R156). -/
theorem demand_shareReport {v : State} (c : Classifier) (set : BaySet) (hbox : v.pow.box = .run) :
    demand set (shareReport { v with cls := c }) =
      { v with
        cls := c, share := { v.share with active := true, timer := some (v.share.window * 1000) },
        bay := (demand set v).bay } := by
  have report : shareReport { v with cls := c } =
      { v with cls := c, share := { v.share with active := true, timer := some (v.share.window * 1000) } } :=
    if_pos hbox
  rw [report]
  apply State.eq_of_blocks
  case bay => exact demand_bay_congr set rfl
  all_goals simp

/-- Settles O8. -/
theorem hostBoundFramesPassOrAreHeld : Obligations.HostBoundFramesPassOrAreHeld := by
  intro frame s u k m h hu
  subst hu
  have good : withFcs (frameData frame) = frame := withFcs_frameData h.2.1
  have silent (hbox : s.pow.box = .run) (x : State) (hx : x.pow = s.pow) : raiseWakes s.pow.box k m x = x :=
    (raiseWakes_raised hx).2.2 (.inl hbox)
  refine ⟨fun cls hcls => ?_, fun share run => ?_⟩
  · obtain ⟨passed, heldClass⟩ := dispatch_hostBound (s := { s with cls := classifierTaking frame k m s })
      (f := { frame := frame, key := k, arrival := s.time.ms }) hcls
    refine ⟨_, handOver_received h, fun run empty => ?_, fun held => ?_, fun asleep unwoken => ?_⟩
    · rw [passed, dispatchPass_direct (s := { s with cls := classifierTaking frame k m s }) run empty,
        silent run _ (by simp)]
      refine ⟨fun up room busy => handDirect_busy up room busy, fun up free responses lpath => ?_,
        fun full => handDirect_discards full⟩
      rw [handDirect_starts (s := { s with cls := classifierTaking frame k m s }) up free responses lpath, good]
    · rw [passed, dispatchPass_held (s := { s with cls := classifierTaking frame k m s }) held, heldClass,
        holdFrame_cls_comm _ _ _ _ (classifierTaking frame k m s)]
      exact raiseWakes_raised (holdFrame_pow frame cls m.entry s.time.ms s)
    · rw [passed, dispatchPass_dropped (s := { s with cls := classifierTaking frame k m s }) asleep unwoken]
      exact raiseWakes_raised rfl
  · refine ⟨_, handOver_received h, ?_⟩
    rw [dispatch_share (s := { s with cls := classifierTaking frame k m s }) share run]
    by_cases empty : s.hold.records = []
    · rw [dispatchPass_direct (s := { s with cls := classifierTaking frame k m s }) run empty, handDirect_cls_comm,
        demand_shareReport _ _ (by simpa using run), silent run _ (by simp)]
      refine ⟨by simp, demand_bay_congr _ (by simp), rfl, handDirect (frameData frame) s, rfl, fun _ =>
        ⟨handDirect_busy, fun up free responses lpath => ?_, handDirect_discards⟩, fun held => absurd empty held⟩
      rw [handDirect_starts up free responses lpath, good]
    · have heldClass : m.action.heldClass = .share := by rw [share]; rfl
      rw [dispatchPass_held (s := { s with cls := classifierTaking frame k m s }) (.inl ⟨run, empty⟩), heldClass,
        holdFrame_cls_comm, demand_shareReport _ _ (by simpa using run), silent run _ (by simp)]
      exact ⟨by simp, demand_bay_congr _ (by simp), rfl, holdFrame frame .share m.entry s.time.ms s, rfl,
        fun none => absurd none empty, fun _ => rfl⟩

/-! ## A wake out of SLEEP -/

theorem dispatch_asleep_bay (f : FrameInHand) (m : MatchResult) {s : State} (hbox : s.pow.box ≠ .run) :
    (dispatch f m s).bay = s.bay := by
  unfold dispatch
  cases m.action with
  | backup p =>
    dsimp only
    split <;> simp
  | share => simp [hbox]
  | proxy a => simp [hbox]
  | _ => simp

/-- The power controller at the start of a wake (R39a, R40). -/
theorem startWake_pow (s : State) : (startWake s).pow =
    { s.pow with
      box := .waking .railSettle, attempts := 1, pwrEn := true, rst := true,
      stabTimer := some s.pow.timing.stabilization,
      record :=
        { causes :=
            .sources s.pow.lan.pending s.pow.signature.pending s.pow.button.pending s.pow.alarm.pending
              s.pow.bay.pending,
          attempts := 1, fault := s.pow.latch, demanded := s.pow.wakeBays },
      lan := { s.pow.lan.spent with bays := 0 }, signature := s.pow.signature.spent, button := s.pow.button.spent,
      alarm := s.pow.alarm.spent, bay := s.pow.bay.spent } := by
  simp [startWake, enterRailSettle]

/-- The bays that a wake demands: those of its cause, and the OFF bays that a session needs (R98). -/
theorem startWake_demands {s v : State} (hbay : v.bay = s.bay) :
    WakeDemands (startWake v).pow.record.demanded s (startWake v) := by
  intro set hset
  rw [startWake_pow] at hset
  have union : set = v.pow.wakeBays ||| neededOff s.bay := baySet_eq fun i => by rw [hset]; simp [neededOff]
  rw [startWake, enterRailSettle_bay, union, hbay]
  exact demand_bay_congr _ rfl

/-- What a wake that starts out of SLEEP leaves, whatever its cause (R39a, R40, R98). -/
structure WakeStarted (s t : State) : Prop where
  box : t.pow.box = .waking .railSettle
  attempts : t.pow.attempts = 1
  pwrEn : t.pow.pwrEn = true
  rst : t.pow.rst = true
  stabTimer : t.pow.stabTimer = some s.pow.timing.stabilization
  spent : t.pow.anyPending = false
  demands : WakeDemands t.pow.record.demanded s t

theorem startWake_started {s v : State} (hbay : v.bay = s.bay) (htiming : v.pow.timing = s.pow.timing) :
    WakeStarted s (startWake v) := by
  refine ⟨?_, ?_, ?_, ?_, ?_, ?_, startWake_demands hbay⟩ <;> rw [startWake_pow]
  · rw [htiming]
  · simp [Power.anyPending, WakeSource.spent]

/-- A source that is not pending comes out of a wake as it was. -/
theorem spent_idle {w : WakeSource} (h : w.pending = false) : w.spent = w := by
  cases w
  simp_all [WakeSource.spent]

theorem startWake_box (s : State) : (startWake s).pow.box = .waking .railSettle := by rw [startWake_pow]

section
variable {s v : State} (hpow : v.pow = s.pow) (latch : s.pow.latch = false) (idle : s.pow.anyPending = false)

include hpow latch idle

/-- A wake by the LAN source alone (R39a, R49). -/
theorem startWake_fromLan (bays : BaySet) (enabled : s.pow.lan.enable = true) :
    (startWake (latchWake .lan bays v)).pow.record =
        { causes := .sources true false false false false, attempts := 1, fault := false,
          demanded := s.pow.lan.bays ||| bays } ∧
      (startWake (latchWake .lan bays v)).pow.lan =
        { s.pow.lan with pending := false, bays := 0, enable := decide (s.pow.lan.arm = .continuous) } ∧
      (startWake (latchWake .lan bays v)).pow.signature = s.pow.signature := by
  simp only [Power.anyPending, Bool.or_eq_false_iff] at idle
  obtain ⟨⟨⟨⟨lan, signature⟩, button⟩, alarm⟩, bay⟩ := idle
  have latched : (latchWake .lan bays v).pow =
      { s.pow with lan := { s.pow.lan with pending := true, bays := s.pow.lan.bays ||| bays } } := by
    rw [← hpow]
    rfl
  rw [startWake_pow, latched]
  refine ⟨?_, ?_, ?_⟩
  · simp [Power.wakeBays, WakeSource.carried, latch, signature, button, alarm, bay]
  · cases h : s.pow.lan.arm <;> simp [WakeSource.spent, enabled, h]
  · exact spent_idle signature

/-- A wake by the SIGNATURE source alone (R39a). -/
theorem startWake_fromSignature (enabled : s.pow.signature.enable = true) :
    (startWake (latchWake .signature 0 v)).pow.record =
        { causes := .sources false true false false false, attempts := 1, fault := false,
          demanded := s.pow.signature.bays } ∧
      (startWake (latchWake .signature 0 v)).pow.signature =
        { s.pow.signature with pending := false, enable := decide (s.pow.signature.arm = .continuous) } := by
  simp only [Power.anyPending, Bool.or_eq_false_iff] at idle
  obtain ⟨⟨⟨⟨lan, signature⟩, button⟩, alarm⟩, bay⟩ := idle
  have latched : (latchWake .signature 0 v).pow =
      { s.pow with signature := { s.pow.signature with pending := true } } := by
    rw [← hpow]
    rfl
  rw [startWake_pow, latched]
  refine ⟨?_, ?_⟩
  · simp [Power.wakeBays, WakeSource.carried, latch, lan, button, alarm, bay]
  · cases h : s.pow.signature.arm <;> simp [WakeSource.spent, enabled, h]

end

/-- In SLEEP, where the two events leave the part: one of those that are heard has started a wake, and the other, if
there is one, has found the box WAKING. -/
theorem raiseWakes_sleep {s : State} {k : FrameKey} {m : MatchResult} (hbox : s.pow.box = .sleep)
    (hlatch : s.pow.latch = false) (h : hearsLan s m = true ∨ hearsSignature s k = true) :
    ∃ v : State, v.pow = s.pow ∧ v.bay = s.bay ∧
      ((hearsLan s m = true ∧ raiseWakes s.pow.box k m s = startWake (latchWake .lan m.bays v)) ∨
        (hearsSignature s k = true ∧ raiseWakes s.pow.box k m s = startWake (latchWake .signature 0 v))) := by
  have lanWakes (hl : hearsLan s m = true) (t : State) (ht : t.pow = s.pow) :
      wakeEvent .lan m.bays t = startWake (latchWake .lan m.bays t) := by
    refine wakeEvent_sleep _ ?_ (by rw [ht]; exact hlatch) (by rw [ht]; exact hbox)
    rw [ht]
    exact (Bool.and_eq_true_iff.mp hl).2
  have signatureWakes (hs : hearsSignature s k = true) (t : State) (ht : t.pow = s.pow) :
      wakeEvent .signature 0 t = startWake (latchWake .signature 0 t) := by
    refine wakeEvent_sleep _ ?_ (by rw [ht]; exact hlatch) (by rw [ht]; exact hbox)
    rw [ht]
    exact (Bool.and_eq_true_iff.mp hs).2
  have late (name : WakeName) (bays : BaySet) (t : State) : wakeEvent name bays (startWake t) = startWake t :=
    wakeEvent_awake _ (.inr ⟨_, startWake_box t⟩)
  cases hl : hearsLan s m <;> cases hs : hearsSignature s k
  case false.false => simp [hl, hs] at h
  case true.true =>
    refine ⟨{ s with choices := s.choices + 1 }, rfl, rfl, ?_⟩
    rw [raiseWakes_free (by simp [bothWake, hl, hs, hlatch, hbox]), inEitherOrder]
    split
    · exact .inl ⟨rfl, by rw [lanWakes hl { s with choices := s.choices + 1 } rfl, late]⟩
    · exact .inr ⟨rfl, by rw [signatureWakes hs { s with choices := s.choices + 1 } rfl, late]⟩
  case true.false =>
    have raised : raiseLan s.pow.box m s = startWake (latchWake .lan m.bays s) := by
      rw [raiseLan, if_pos (by simp [hbox, (Bool.and_eq_true_iff.mp hl).1]), lanWakes hl s rfl]
    refine ⟨s, rfl, rfl, .inl ⟨rfl, ?_⟩⟩
    rw [raiseWakes_ordered (by simp [bothWake, hs]), raised,
      raiseSignature_unheard (.inr (.inl ⟨_, startWake_box _⟩))]
  case false.true =>
    refine ⟨s, rfl, rfl, .inr ⟨rfl, ?_⟩⟩
    rw [raiseWakes_ordered (by simp [bothWake, hl]), raiseLan_unheard (.inr (.inr (.inr hl))), raiseSignature,
      if_pos (Bool.and_eq_true_iff.mp hs).1, signatureWakes hs s rfl]

/-- Settles O9. -/
theorem lanFrameWakesTheSleepingBox : Obligations.LanFrameWakesTheSleepingBox := by
  intro frame s k m lan sig h hlan hsig
  refine ⟨_, handOver_received h, ?_⟩
  have asleepBay := dispatch_asleep_bay { frame := frame, key := k, arrival := s.time.ms } m
    (s := { s with cls := classifierTaking frame k m s })
  generalize hu : dispatch _ m _ = u at asleepBay
  have pow : u.pow = s.pow := by rw [← hu]; simp
  have lanU : lan = hearsLan u m := by rw [hearsLan, pow]; exact hlan
  have sigU : sig = hearsSignature u k := by rw [hearsSignature, pow]; exact hsig
  rw [← pow]
  refine ⟨fun silent => ?_, fun entry latch => ?_, fun asleep latch idle heard => ?_⟩
  · rw [raiseWakes_unheard (by rw [← lanU, ← sigU]; exact silent)]
  · rw [raiseWakes_entry entry latch, lanU, sigU]
  · rw [lanU, sigU] at heard
    obtain ⟨v, vpow, vbay, woken⟩ := raiseWakes_sleep asleep latch heard
    have bay : v.bay = s.bay := vbay.trans (asleepBay (by rw [← pow, asleep]; nofun))
    have started (name : WakeName) (bays : BaySet) : WakeStarted s (startWake (latchWake name bays v)) :=
      startWake_started (by simpa using bay) (by rw [← pow, ← vpow]; cases name <;> rfl)
    obtain ⟨hl, ht⟩ | ⟨hs, ht⟩ := woken
    · obtain ⟨box, attempts, pwrEn, rst, stab, spent, demands⟩ := started .lan m.bays
      rw [ht]
      exact ⟨box, attempts, pwrEn, rst, by rw [stab, pow], spent, demands, .inl ⟨lanU.trans hl,
        startWake_fromLan vpow latch idle m.bays (Bool.and_eq_true_iff.mp hl).2⟩⟩
    · obtain ⟨box, attempts, pwrEn, rst, stab, spent, demands⟩ := started .signature 0
      rw [ht]
      exact ⟨box, attempts, pwrEn, rst, by rw [stab, pow], spent, demands, .inr ⟨sigU.trans hs,
        startWake_fromSignature vpow latch idle (Bool.and_eq_true_iff.mp hs).2⟩⟩

end Sys2Proof.Machine
end

section
/-! SUPPORT and proofs: the read requests, with nothing to clear (O12) and with clear YES (O13). -/

namespace Sys2Proof.Machine

/-! ## Carried fields -/

theorem optField_eq (width : Nat) (field : Option (List Byte)) :
    optField width field = field.elim (List.replicate (1 + width) 0) fun bytes => 1 :: bytes := by
  cases field with
  | none => rw [Nat.add_comm]; rfl
  | some bytes => rfl

/-- A field taken from what may be absent. -/
theorem optField_map {α : Type} (width : Nat) (x : Option α) (carried : α → List Byte) :
    optField width (x.map carried) = x.elim (List.replicate (1 + width) 0) fun y => 1 :: carried y := by
  rw [optField_eq]
  cases x <;> rfl

/-- A number that may be absent: its presence byte, and 0 where it is absent. -/
theorem optField_num {α : Type} (width : Nat) (x : Option α) (value : α → Nat) :
    optField width (x.map fun y => num width (value y)) = flag x.isSome ++ num width (x.elim 0 value) := by
  have zero (n : Nat) : List.replicate n (0 : Byte) = num n 0 := by
    induction n with
    | zero => rfl
    | succ n ih => exact congrArg₂ List.cons (congrArg (BitVec.ofNat 8) (Nat.zero_div _).symm) ih
  cases x with
  | none => rw [Option.map_none, optField, zero]; rfl
  | some y => rfl

theorem timeLeft_eq (timer : Option Nat) : timeLeft timer = flag timer.isSome ++ num 4 (timer.getD 0) := by
  rw [timeLeft, show num 4 = fun n => num 4 (id n) from rfl, optField_num]
  cases timer <;> rfl

theorem map_toList {α β : Type} {n : Nat} (v : Vector α n) (f : α → β) :
    v.toList.map f = (List.finRange n).map fun i => f v[i] := by
  apply List.ext_getElem <;> simp

/-! ## Codes -/

theorem ShadowState.code_eq (x : ShadowState) : x.code = if x = .loading then 0 else 1 := by cases x <;> rfl

theorem WindowMode.code_eq (x : WindowMode) : x.code = if x = .stop then 0 else 1 := by cases x <;> rfl

theorem DefaultClass.code_eq (x : DefaultClass) : x.code = if x = .pass then 0 else 4 := by cases x <;> rfl

theorem PartitionSource.code_eq (x : PartitionSource) : x.code = if x = .retained then 0 else 1 := by cases x <;> rfl

theorem ArmMode.code_eq (x : ArmMode) : x.code = if x = .oneShot then 0 else 1 := by cases x <;> rfl

theorem TaperMode.code_eq (x : TaperMode) : x.code = if x = .auto then 0 else 1 := by cases x <;> rfl

/-! ## The Flows and Partition families -/

section
variable {p : List Byte} {s : State}

theorem actReadFlow_answers (hbank : natAt p 0 1 ≤ 1) (hindex : natAt p 1 1 < 64) {e : FlowEntry}
    (he : e = (s.cls.bank (if natAt p 0 1 = 0 then .a else .b))[natAt p 1 1]) :
    actReadFlow p s = .ok s (e.carried ++ num 2 e.hits.toNat ++ num 1 (if s.cls.active = .a then 0 else 1)) := by
  subst he
  obtain h | h : natAt p 0 1 = 0 ∨ natAt p 0 1 = 1 := by omega
  all_goals simp only [actReadFlow, h, dif_pos hindex, Bank.code_eq, if_true, one_ne_zero, if_false]

theorem actReadFlow_refuses (h : 1 < natAt p 0 1 ∨ 63 < natAt p 1 1) :
    actReadFlow p s = .refuse s .badArgument := by
  unfold actReadFlow
  dsimp only
  split
  · rfl
  · rename_i which hbank
    refine dif_neg fun hindex => ?_
    obtain h | h := h
    · split at hbank
      · omega
      · omega
      · cases hbank
    · omega

theorem flowStatus_eq (c : Classifier) : flowStatus c =
    num 1 (if c.active = .a then 0 else 1) ++ num 1 (if c.shadow = .loading then 0 else 1) ++
      num 1 c.loader.first.val ++ num 1 c.loader.last.val ++ num 1 (if c.loader.mode = .stop then 0 else 1) ++
      num 1 c.loader.pointer ++ flag (decide (c.loader.last.val < c.loader.pointer)) ++
      num 1 (if c.defaultClass = .pass then 0 else 4) ++ num 2 c.defaultCount.toNat ++
      ((List.finRange 64).map fun i => num 2 (c.bank c.active)[i].hits.toNat).flatten := by
  simp only [flowStatus, Bank.code_eq, ShadowState.code_eq, WindowMode.code_eq, DefaultClass.code_eq, map_toList,
    Loader.exhausted]

theorem actReadPartition_answers : actReadPartition p s = .ok s
    (num 2 s.cells.part.answer ++ num 2 s.cells.part.hold ++ num 2 s.cells.part.stage ++
      num 1 (s.cells.part.stage / 32) ++ num 1 (if s.cells.part.source = .retained then 0 else 1) ++
      num 2 s.cells.ring.head ++ num 2 s.cells.ring.tail ++ num 2 s.cells.ring.used ++
      num 2 (s.cells.part.hold - s.cells.ring.used) ++ num 1 (s.pac.stage.countP StageSlot.isFree) ++
      num 1 (s.pac.stage.countP StageSlot.isReserved) ++ num 1 (s.pac.stage.countP StageSlot.isFilled) ++
      num 1 (s.pac.stage.countP StageSlot.isSending) ++ num 1 s.pac.fifo.length) := by
  simp only [actReadPartition, Partition.slots, PartitionSource.code_eq, CellStore.free, stageCounts, List.append_assoc]

/-! ## The Answers family -/

theorem answerStatus_eq (s : State) (x : AnswerRecord) : answerStatus s x =
    flag x.valid ++ num 1 x.offset ++ num 2 x.length ++
      (num 1 x.checks.length ++
        (x.checks.map fun c =>
          num 1 c.offset ++ num 1 c.expected.length ++ c.expected ++
            List.replicate (16 - c.expected.length) 0).flatten) ++
      (num 1 x.substs.length ++
        (x.substs.map fun u => num 1 u.offset ++ num 1 u.count ++ num 2 u.target).flatten) ++
      num 2 x.holdoff ++ (if x.valid then 1 :: templateBytes s x else List.replicate (1 + x.length) 0) ++
      flag x.timer.isSome ++ num 4 (x.timer.getD 0) ++ flag x.last.isSome ++ num 4 (x.last.getD 0).toNat ++
      flag x.last.isSome ++ num 4 (x.last.elim 0 fun last => s.time.ms - last).toNat ++ num 2 x.answered.toNat ++
      num 2 x.suppressed.toNat ++ num 2 x.declined.toNat ++ num 2 s.ans.invalid.toNat ++
      num 1 s.ans.answers.length ++ flag s.ans.sending.isSome := by
  have template : optField x.length (if x.valid then some (templateBytes s x) else none) =
      if x.valid then 1 :: templateBytes s x else List.replicate (1 + x.length) 0 := by
    rw [optField_eq]
    split <;> rfl
  have last : x.last.elim 0 BitVec.toNat = (x.last.getD 0).toNat := by cases x.last <;> rfl
  have age : (x.last.elim 0 fun last => (s.time.ms - last).toNat) =
      (x.last.elim 0 fun last => s.time.ms - last).toNat := by
    cases x.last <;> rfl
  simp only [answerStatus, template, timeLeft_eq, optField_num, last, age, List.append_assoc]
  rfl

/-! ## The Power family -/

section
variable (p : Power)

/-- A wake source as READ_WAKE carries it, with its edge field (R60). -/
def sourceBytes (w : WakeSource) (edge : List Byte) : List Byte :=
  flag w.enable ++ flag w.pending ++ num 1 (if w.arm = .oneShot then 0 else 1) ++ num 1 w.bays.toNat ++ edge

theorem sourceStatus_lan : p.sourceStatus .lan = sourceBytes p.lan [0, 0] := by
  simp [Power.sourceStatus, sourceBytes, ArmMode.code_eq, Power.source, Power.edgeField, baySetByte, optField]

theorem sourceStatus_signature : p.sourceStatus .signature = sourceBytes p.signature [0, 0] := by
  simp [Power.sourceStatus, sourceBytes, ArmMode.code_eq, Power.source, Power.edgeField, baySetByte, optField]

theorem sourceStatus_button :
    p.sourceStatus .button = sourceBytes p.button [1, if p.buttonEdge = .press then 0 else 1] := by
  cases h : p.buttonEdge <;>
    simp [Power.sourceStatus, sourceBytes, ArmMode.code_eq, Power.source, Power.edgeField, baySetByte, optField, h,
      buttonEdgeCode]

theorem sourceStatus_alarm : p.sourceStatus .alarm = sourceBytes p.alarm [0, 0] := by
  simp [Power.sourceStatus, sourceBytes, ArmMode.code_eq, Power.source, Power.edgeField, baySetByte, optField]

theorem sourceStatus_bay :
    p.sourceStatus .bay = sourceBytes p.bay [1, if p.bayEdge = .insert then 0 else 1] := by
  cases h : p.bayEdge <;>
    simp [Power.sourceStatus, sourceBytes, ArmMode.code_eq, Power.source, Power.edgeField, baySetByte, optField, h,
      PresenceEdge.code]

end

theorem actReadWake_answers {p : List Byte} {s : State} {sub : List Byte}
    (hwaking : ∀ x, s.pow.box = .waking x → sub = 1 :: num 1 x.code)
    (hother : (∀ x, s.pow.box ≠ .waking x) → sub = [0, 0]) : actReadWake p s = .ok s
    (num 1 s.pow.box.code ++ sub ++ num 1 s.pow.attempts ++ flag s.pow.latch ++
      (num 1 s.pow.record.causes.codes.length ++ (s.pow.record.causes.codes.map (num 1)).flatten) ++
      num 1 s.pow.record.attempts ++ flag s.pow.record.fault ++ num 1 s.pow.record.demanded.toNat ++
      sourceBytes s.pow.lan [0, 0] ++ sourceBytes s.pow.signature [0, 0] ++
      sourceBytes s.pow.button [1, if s.pow.buttonEdge = .press then 0 else 1] ++ sourceBytes s.pow.alarm [0, 0] ++
      sourceBytes s.pow.bay [1, if s.pow.bayEdge = .insert then 0 else 1] ++ num 2 s.pow.clock.minute ++
      num 2 s.pow.clock.count ++ flag s.pow.clock.set ++
      ((List.finRange 8).map fun i => flag s.pow.alarms[i].on ++ num 2 s.pow.alarms[i].minute).flatten ++
      num 1 s.pow.timing.stabilization ++ num 1 s.pow.timing.boot ++ num 1 s.pow.timing.heartbeat ++
      num 1 s.pow.timing.entry ++ flag s.pow.heartbeatTimer.isSome ++ num 4 (s.pow.heartbeatTimer.getD 0) ++
      flag s.pow.entryTimer.isSome ++ num 4 (s.pow.entryTimer.getD 0)) := by
  simp only [actReadWake, sourceStatus_lan, sourceStatus_signature, sourceStatus_button, sourceStatus_alarm,
    sourceStatus_bay, WakeRecord.carried, Clock.carried, Timing.carried, alarmsCarried, map_toList, timeLeft_eq,
    baySetByte, List.append_assoc]
  cases hbox : s.pow.box
  case waking x =>
    rw [hwaking x hbox]
    rfl
  all_goals
    rw [hother (by simp [hbox])]
    rfl

/-! ## The Hold family -/

theorem holdStatus_eq {s : State} {head : Nat → (HeldRecord → List Byte) → List Byte}
    (hhead : ∀ width g, head width g = s.hold.records.head?.elim (List.replicate (1 + width) 0) fun x => 1 :: g x) :
    holdStatus s =
      num 2 s.hold.records.length ++ num 2 s.cells.ring.used ++ num 2 (s.cells.part.hold - s.cells.ring.used) ++
        num 2 s.cells.part.hold ++
        (([.pass, .share, .backup, .proxy] : List HeldClass).map fun cls =>
          num 2 (s.hold.records.countP fun x => decide (x.cls = cls))).flatten ++
        head 1 (fun x => num 1 x.cls.code) ++ head 1 (fun x => num 1 (x.entry.elim 255 fun i => i.val)) ++
        head 2 (fun x => num 2 x.length) ++ head 4 (fun x => num 4 (s.time.ms - x.arrival).toNat) ++
        head 1 (fun _ => flag s.hold.sending) ++ flag s.hold.overflow ++
        (if s.pow.box = .run then 1 :: flag (decide (s.hold.records ≠ [])) else [0, 0]) ++ num 2 s.hold.drops.toNat ++
        num 2 s.hold.stales.toNat ++ num 1 s.hold.limit := by
  have entry (x : HeldRecord) : entryCode x.entry = x.entry.elim 255 fun i => i.val := by cases x.entry <;> rfl
  have releasing : optField 1 (if s.pow.box = .run then some (flag s.releasing) else none) =
      if s.pow.box = .run then 1 :: flag (decide (s.hold.records ≠ [])) else [0, 0] := by
    split
    · rename_i run
      cases h : s.hold.records <;> simp [optField, State.releasing, run, h]
    · rfl
  simp only [holdStatus, headFields, CellStore.free, heldCount, optField_map, ← hhead, entry, releasing, HeldRecord.age,
    List.map_cons, List.map_nil, List.flatten_cons, List.flatten_nil, List.append_nil, List.append_assoc]

/-! ## The Bays family -/

theorem actReadBays_answers {p : List Byte} {s : State} : actReadBays p s = .ok s
    ((allBays.map fun i =>
        num 1 s.bay.bays[i].state.code ++ num 1 s.bay.bays[i].settings.cost ++
          num 1 s.bay.bays[i].settings.spin ++ num 1 s.bay.bays[i].settings.idle ++
          num 1 s.bay.bays[i].settings.edge.code ++ num 1 s.bay.bays[i].needed ++
          flag (s.bay.bays[i].spinTimer.isSome || s.bay.bays[i].idleTimer.isSome) ++
          num 4 (s.bay.bays[i].spinTimer.getD (s.bay.bays[i].idleTimer.getD 0))).flatten ++
      (allBays.map fun i => flag s.bay.bays[i].present).flatten ++
      (allBays.map fun i => flag s.bay.bays[i].active).flatten ++ num 1 s.bay.budget ++
      num 1 (s.bay.budget - s.bay.spinningCost) ++
      (num 1 s.bay.queue.length ++ (s.bay.queue.map fun i => num 1 i.val).flatten)) := by
  have timer (b : BayRecord) : timeLeft (if b.spinTimer.isSome then b.spinTimer else b.idleTimer) =
      flag (b.spinTimer.isSome || b.idleTimer.isSome) ++ num 4 (b.spinTimer.getD (b.idleTimer.getD 0)) := by
    rw [timeLeft_eq]
    cases b.spinTimer <;> rfl
  simp only [actReadBays, BayRecord.carried, BaySettings.carried, timer, BayControl.freeBudget, queueBytes,
    List.append_assoc]

/-! ## The Sessions family -/

theorem Profile.carried_eq (x : Profile) : x.carried =
    num 2 x.floor ++ num 2 x.peak ++ num 2 x.rise ++ num 2 x.fall ++ num 1 x.margin ++
      num 1 (if x.taper = .auto then 0 else 1) ++ flag x.revision ++ num 2 x.manualPoint ++ num 2 x.ceiling ++
      num 1 x.window ++ num 2 x.deadline ++ num 1 x.expiryLimit ++ num 2 x.stallLimit ++ flag x.followOn := by
  rw [Profile.carried, TaperMode.code_eq]

theorem sessionStatus_eq {s : State} {i : Slot} {field : Nat → (Session → List Byte) → List Byte}
    (hfield : ∀ width g,
      field width g = s.pac.slots[i].session.elim (List.replicate (1 + width) 0) fun x => 1 :: g x) :
    sessionStatus i s =
      num 1 (s.pac.slots[i].session.elim 0 fun x => if x.draining then 2 else 1) ++ num 1 s.pac.slots[i].leftBehind ++
        field 6 (fun x => num 6 x.peer.toNat) ++ field 2 (fun x => num 2 x.tag.toNat) ++
        field 4 (fun x => num 4 x.nb) ++ field 4 (fun x => num 4 x.received) ++
        field 1 (fun x =>
          num 1 x.outstanding.length ++
            (x.outstanding.map fun g =>
              num 4 g.seq ++ num 1 g.stage ++ num 4 g.deadline.toNat ++ num 4 (g.left s.time.ms)).flatten) ++
        field 8 (fun x => num 8 x.nextSeq) ++ field 4 (fun x => num 4 x.todo) ++
        field 4 (fun x => num 4 x.undelivered) ++ field 1 (fun x => num 1 x.expiries) ++
        field 1 (fun x => num 1 x.strays.toNat) ++ field 5 (fun x => flag (stallRuns s x) ++ num 4 x.stallAcc) ++
        field 22 (fun x => x.profile.carried) ++
        field 15 (fun x =>
          num 1 x.phase.code ++ num 2 x.rate ++ num 2 x.peak ++ num 2 x.taperPoint ++ num 8 x.nextDue.toNat) ++
        field 8 (fun x => num 8 (x.nextDue.toNat - s.time.us.toNat)) ++ field 1 (fun x => num 1 x.bays.toNat) ++
        ((s.pac.slots[i].session.bind Session.followOn).elim (List.replicate 9 0) fun f =>
          1 :: (num 2 f.tag.toNat ++ num 4 f.nb ++ num 1 f.profile.val ++ num 1 f.bays.toNat)) ++
        ((List.finRange 4).map fun j => s.pac.profiles[j].carried).flatten ++
        num 1 (s.pac.stage.countP StageSlot.isFree) ++ num 1 (s.pac.stage.countP StageSlot.isReserved) ++
        num 1 (s.pac.stage.countP StageSlot.isFilled) ++ num 1 (s.pac.stage.countP StageSlot.isSending) ++
        num 1 s.pac.fifo.length ++ num 1 s.pac.queue.length ++ num 2 s.pac.protocolErrors.toNat ++
        num 2 s.pac.replyLost.toNat ++ num 4 s.pac.blocksTaken.toNat ++ flag s.share.active ++
        num 4 (s.share.timer.getD 0) := by
  have state (x : Option Session) : slotStateCode x = x.elim 0 fun x => if x.draining then 2 else 1 := by
    cases x <;> rfl
  simp only [sessionStatus, state, sessionFields, optField_map, ← hfield, Session.outstandingCarried,
    Session.profileStateCarried, FollowOn.carried, baySetByte, map_toList, stageCounts, Share.left,
    List.append_assoc]

/-! ## The Retained family -/

theorem contents_eq {r : Retained} {c : Fin 8 → List Byte} (h : r.gives c) (i : Fin 8) : r.contents i = c i := by
  obtain ⟨copy, factory⟩ := h i
  unfold Retained.contents
  cases hl : r.copies[i].getLast? with
  | some x => exact (copy x hl).symm
  | none => exact (factory (List.getLast?_eq_none_iff.mp hl)).symm

theorem actReadRetained_answers {p : List Byte} {s : State} {c : Fin 8 → List Byte} (h : natAt p 0 1 < 8)
    (hc : s.ret.gives c) : actReadRetained p s = .ok s
      (num 1 s.ret.copies[natAt p 0 1].length ++
        (num 1 s.ret.copies[natAt p 0 1].length ++ s.ret.copies[natAt p 0 1].flatten) ++
        (if natAt p 0 1 = 0 then num 6 s.ret.factory.toNat
         else if natAt p 0 1 = 1 then num 6 (s.ret.factory + 1).toNat
         else factoryContents[natAt p 0 1]) ++
        flag (decide (c ⟨natAt p 0 1, h⟩ ≠ s.ret.loaded[natAt p 0 1])) ++ flag s.ret.inFlight.isSome ++
        num 1 (s.ret.inFlight.elim 0 fun f => f.index.val)) := by
  simp only [actReadRetained, dif_pos h, contents_eq hc, Retained.factoryValue, optField_num, Fin.ext_iff,
    List.append_assoc]
  rfl

end

/-! ## The reads with nothing to clear -/

/-- The set of wake causes is carried as the list of its members' codes (R188). -/
theorem causeSet_codes (lan signature button alarm bay : Bool) :
    (CauseSet.sources lan signature button alarm bay).codes =
      ([(lan, 0), (signature, 1), (button, 2), (alarm, 3), (bay, 4)].filter (·.1)).map (·.2) := by
  revert lan signature button alarm bay
  decide

/-- The four reads that name an index refuse one out of range. -/
theorem read_refuses {kind : ReqKind} {s : State} {r : Request} {p : List Byte} {rest : List (List Byte)}
    (h : Taken s kind r p rest)
    (out : (kind = .readFlow ∧ (1 < natAt p 0 1 ∨ 63 < natAt p 1 1)) ∨ (kind = .readAnswer ∧ 15 < natAt p 0 1) ∨
      (kind = .readSession ∧ 3 < natAt p 0 1) ∨ (kind = .readRetained ∧ 7 < natAt p 0 1)) :
    exec kind.command s = .next (respond r .badArgument [] (dequeue r rest s)) := by
  obtain ⟨rfl, out⟩ | ⟨rfl, out⟩ | ⟨rfl, out⟩ | ⟨rfl, out⟩ := out <;>
    refine congrArg Host.Outcome.next (takePlain_refuse h (by decide) ?_)
  · exact actReadFlow_refuses out
  · exact dif_neg (by omega)
  · exact dif_neg (by omega)
  · exact dif_neg (by omega)

/-- Settles O12: each read is answered from the state with its request dequeued, which has the same status. -/
theorem readRequestsChangeNothing : Obligations.ReadRequestsChangeNothing := by
  refine ⟨fun s r p rest e h hbank hindex he => ?_, fun kind s r p rest h out => read_refuses h out,
    fun s r p rest h keep => ?_, flowStatus_eq, fun s r p rest h => ?_, fun s r p rest h hindex keep => ?_,
    answerStatus_eq, fun s r p rest sub source h hwaking hother hsource => ?_, fun s r p rest h keep => ?_,
    fun s head hhead => holdStatus_eq hhead, fun s r p rest h => ?_, fun s r p rest h hindex keep => ?_,
    fun s i field hfield => sessionStatus_eq hfield, Profile.carried_eq,
    ⟨rfl, fun _ => rfl, rfl, rfl, rfl, rfl, rfl, rfl, rfl, causeSet_codes⟩, fun s r p rest c h hindex hc => ?_⟩
  all_goals refine congrArg Host.Outcome.next (takePlain_ok h ?_)
  · exact actReadFlow_answers hbank hindex he
  · simp only [actReadFlowStatus, keep]
    rfl
  · exact actReadPartition_answers
  · simp only [actReadAnswer, dif_pos hindex, keep]
    rfl
  · simp only [show source = sourceBytes from funext fun w => funext fun edge => hsource w edge]
    exact actReadWake_answers hwaking hother
  · simp only [actReadHold, keep]
    rfl
  · exact actReadBays_answers
  · simp only [actReadSession, dif_pos hindex, keep]
    rfl
  · exact actReadRetained_answers hindex hc

/-! ## The counts that clear YES clears -/

theorem actReadFlowStatus_clears {p : List Byte} {s : State} (clear : byteAt p 0 ≠ 0) :
    actReadFlowStatus p s = .ok { s with cls := clearHits s.cls } (flowStatus s.cls) := by
  rw [actReadFlowStatus, if_pos clear]

theorem bank_clearHits (c : Classifier) (which : Bank) : (clearHits c).bank which =
    (c.setBank c.active (vecMap (fun e => { e with hits := 0 }) (c.bank c.active))).bank which :=
  bank_congr rfl rfl which

@[simp] theorem clearHits_active (c : Classifier) : (clearHits c).active = c.active := setBank_active ..

theorem bank_clearHits_other (c : Classifier) : (clearHits c).bank c.active.other = c.bank c.active.other := by
  rw [bank_clearHits, bank_setBank_other]

theorem getElem_bank_clearHits (c : Classifier) (i : Fin 64) :
    ((clearHits c).bank c.active)[i] = { (c.bank c.active)[i] with hits := 0 } := by
  rw [bank_clearHits, bank_setBank_self]
  exact getElem_vecMap ..

theorem actReadHold_clears {p : List Byte} {s : State} (clear : byteAt p 0 ≠ 0) :
    actReadHold p s = .ok { s with hold.drops := 0, hold.stales := 0 } (holdStatus s) := by
  rw [actReadHold, if_pos clear]

theorem actReadSession_clears {p : List Byte} {s : State} (h : natAt p 0 1 < 4) (clear : byteAt p 1 ≠ 0) :
    actReadSession p s = .ok (clearCounts ⟨natAt p 0 1, h⟩ s) (sessionStatus ⟨natAt p 0 1, h⟩ s) := by
  simp only [actReadSession, dif_pos h, if_pos clear]

theorem actReadAnswer_clears {p : List Byte} {s : State} (h : natAt p 0 1 < 16) (clear : byteAt p 1 ≠ 0) :
    actReadAnswer p s =
      .ok (onRecord ⟨natAt p 0 1, h⟩ (fun r => { r with answered := 0, suppressed := 0, declined := 0 })
          { s with ans.invalid := 0 })
        (answerStatus s s.ans.records[natAt p 0 1]) := by
  simp only [actReadAnswer, dif_pos h, if_pos clear]

/-- A notice kind with everything but its enable cleared. -/
def NoticeState.cleared (k : NoticeState) : NoticeState := { k with pending := false, count := 0, detail := none }

theorem getElem_kinds_clearKind (kind : NoticeKind) (n : Notices) (j : Fin 9) :
    (clearKind kind n).kinds[j] = if j = kind.index then n.kinds[j].cleared else n.kinds[j] := by
  have kinds : (clearKind kind n).kinds = vecMod n.kinds kind.index NoticeState.cleared := by
    unfold clearKind
    split <;> rfl
  rw [kinds]
  split
  · subst j
    exact getElem_vecMod_self ..
  · exact getElem_vecMod_ne _ _ _ _ ‹_›

/-- Clearing kind after kind clears each of those kinds, and no other. -/
theorem getElem_kinds_foldl_clearKind (kinds : List NoticeKind) (n : Notices) (j : Fin 9) :
    (kinds.foldl (fun m kind => clearKind kind m) n).kinds[j] =
      if j ∈ kinds.map NoticeKind.index then n.kinds[j].cleared else n.kinds[j] := by
  induction kinds generalizing n with
  | nil => rfl
  | cons kind kinds ih =>
    rw [List.foldl_cons, ih, getElem_kinds_clearKind]
    by_cases here : j = kind.index <;> by_cases later : j ∈ kinds.map NoticeKind.index <;>
      simp [here, later, NoticeState.cleared]

theorem foldl_clearKind_allNotices (n : Notices) :
    allNotices.foldl (fun m kind => clearKind kind m) n =
      { kinds := vecMap NoticeState.cleared n.kinds, outcomes := [], lost := 0 } := by
  have kinds : (allNotices.foldl (fun m kind => clearKind kind m) n).kinds = vecMap NoticeState.cleared n.kinds := by
    refine Vector.ext fun j hj => ?_
    have every : ∀ j : Fin 9, j ∈ allNotices.map NoticeKind.index := by decide
    rw [getElem_vecMap]
    exact (getElem_kinds_foldl_clearKind allNotices n ⟨j, hj⟩).trans (if_pos (every _))
  rw [← kinds]
  rfl

theorem actReadNotices_answers {p : List Byte} {s : State} {detail : Fin 9 → List Byte}
    (hdetail : ∀ i, detail i = s.note.kinds[i].detail.elim [] (detailBytes s.note)) :
    actReadNotices p s =
      .ok { s with note := { kinds := vecMap NoticeState.cleared s.note.kinds, outcomes := [], lost := 0 } }
        (((List.finRange 9).map fun i =>
            flag s.note.kinds[i].enable ++ flag s.note.kinds[i].pending ++ num 1 s.note.kinds[i].count.toNat ++
              num 1 (detail i).length ++ detail i).flatten ++
          (num 1 s.note.outcomes.length ++
            (s.note.outcomes.map fun o => num 2 o.1.toNat ++ num 1 o.2.code).flatten) ++
          num 2 s.note.lost.toNat) := by
  simp only [actReadNotices, foldl_clearKind_allNotices, map_toList, NoticeState.carried, keptDetail, hdetail]

/-- Settles O13: each read answers from the state before its clearing. -/
theorem clearingReadsClearTheirCounts : Obligations.ClearingReadsClearTheirCounts := by
  refine ⟨fun s r p rest h clear => ⟨clearHits s.cls, ?_, rfl, clearHits_active _, ?_, setBank_shadow ..,
      setBank_loader .., setBank_defaultClass .., setBank_inHand .., ?_⟩,
    fun s r p rest h clear => ?_, fun s r p rest h hindex clear => ?_, fun s r p rest h hindex clear => ?_,
    fun s r p rest detail h hdetail => ?_⟩
  · exact congrArg Host.Outcome.next (takePlain_ok h (actReadFlowStatus_clears clear))
  · rw [clearHits_active, bank_clearHits_other]
  · rw [clearHits_active]
    exact getElem_bank_clearHits s.cls
  · exact congrArg Host.Outcome.next (takePlain_ok h (actReadHold_clears clear))
  · exact congrArg Host.Outcome.next (takePlain_ok h (actReadSession_clears hindex clear))
  · exact congrArg Host.Outcome.next (takePlain_ok h (actReadAnswer_clears hindex clear))
  · exact congrArg Host.Outcome.next (takePlain_ok h (actReadNotices_answers hdetail))

end Sys2Proof.Machine
end


section
/-! SUPPORT: what a step can do to the sessions, the stage slots, the cells and the hold queue, as a sequence of moves. -/

namespace Sys2Proof.Machine

/-! ## The core of the state -/

/-- A session without the fields that neither its grants nor its stage slots depend on. -/
def Session.account (x : Session) : Session :=
  { x with undelivered := 0, expiries := 0, strays := 0, stallAcc := 0, followOn := none }

/-- The account of the session of each slot. -/
def State.accounts (s : State) (i : Slot) : Option Session :=
  s.pac.slots[i].session.map Session.account

/-- What the conditions on the hold ring, the sessions and the stage slots are about. -/
structure Core where
  mem : Memory
  part : Partition
  used : Nat
  cells : List Nat
  latch : Bool
  box : BoxState
  accounts : Slot → Option Session
  stage : List StageSlot
  fifo : List Nat
  delivery : Option Nat
  readySet : BaySet

/-- The core of a state: of the hold queue, the cells that each record takes. -/
def State.core (s : State) : Core :=
  { mem := s.cells.mem, part := s.cells.part, used := s.cells.ring.used, cells := s.hold.records.map HeldRecord.cells,
    latch := s.pow.latch, box := s.pow.box, accounts := s.accounts, stage := s.pac.stage, fifo := s.pac.fifo,
    delivery := s.pac.delivery, readySet := s.pac.readySet }

/-- A phase in which the rate follows the ceiling: RISE, CRUISE or YIELD (R149). -/
def Session.risen (x : Session) : Prop :=
  x.phase = .rise ∨ x.phase = .cruise ∨ x.phase = .yield

/-- No session that may take grant steps has risen. -/
def Grounded (s : State) : Prop :=
  ∀ i : Slot, ∀ x, s.pac.slots[i].session = some x → x.draining = false → ¬ x.risen

/-! ## The moves -/

/-- The single changes of which every step is made, each under what holds wherever the part makes it. -/
inductive Move : State → State → Prop
  /-- Anything that leaves the core. -/
  | quiet {s t : State} (same : t.core = s.core) : Move s t
  /-- Bytes written into the cells. -/
  | write (address : Nat) (bytes : List Byte) (s : State) : Move s (writeCells address bytes s)
  /-- A frame appended to the hold queue (R63 test 5). -/
  | append (frame : List Byte) (cls : HeldClass) (entry : Option (Fin 64)) (arrival : Word32) {s : State}
      (latch : s.pow.latch = false) (room : s.hold.records.length < 512)
      (fits : cellsFor frame.length ≤ s.cells.free) : Move s (appendHeld frame cls entry arrival s)
  /-- The head of the hold queue leaves it (R30). -/
  | pop (s : State) : Move s (popHeld s)
  /-- The wake fault flushes the hold queue and sets the latch (R45, R73). -/
  | fault {s : State} (asleep : s.pow.box ≠ .run) :
      Move s { flushHeld s with pow.box := .sleep, pow.latch := true }
  /-- The wake-fault latch clears (R44). -/
  | unlatch (s : State) : Move s { s with pow.latch := false }
  /-- The box state changes; RUN is left only with every session down (R149). -/
  | box (box : BoxState) {s : State} (down : s.pow.box = .run → box = .run ∨ Grounded s) :
      Move s { s with pow.box := box }
  /-- A reset (R185). -/
  | reset (presence activity : BaySet) (clock : Clock) (s : State) : Move s (resetAll presence activity clock s)
  /-- The idle store repartitioned (R23, R24). -/
  | repartition (atReset : Partition) {a st : Nat} {s : State} (idle : storeIdle s = true)
      (allowed : partitionAllowed a st = true) : Move s (applyPartition (newPartition atReset a st) s)
  /-- Sessions fall to FLOOR (R149). -/
  | fall (p : Session → Bool) (s : State) : Move s (fallSessions p s)
  /-- A bay enters the READY set (R148). -/
  | ready (bay : Bay) (s : State) : Move s (reportReady bay s)
  /-- A bay leaves the READY set and its sessions fall (R148, R149). -/
  | unready (bay : Bay) (s : State) : Move s (reportUnready bay s)
  /-- A session starts in a slot that is IDLE or whose session is DRAINING (R116, R129). -/
  | start (i : Slot) (p : Profile) (peer : MacAddr) (tag : Word16) (nb : Nat) (bays : BaySet) (now : Word64)
      {s : State} (draining : ∀ x, s.pac.slots[i].session = some x → x.draining = true) :
      Move s (onSlot i (fun slot => { slot with session := some (newSession p peer tag nb bays now) }) s)
  /-- A DRAINING session leaves its slot (R128). -/
  | finish (i : Slot) {x : Session} {s : State} (session : s.pac.slots[i].session = some x)
      (draining : x.draining = true) : Move s (onSlot i (fun slot => { slot with session := none }) s)
  /-- A session halts: its slot IDLE, the stage slots of its grants FREE (R130). -/
  | halt (i : Slot) {x : Session} {s : State} (session : s.pac.slots[i].session = some x) :
      Move s
        (onSlot i (fun slot => { slot with session := none })
          { s with pac.stage := freeStages x.outstanding s.pac.stage })
  /-- A ready session issues a grant on a FREE stage slot (R119). -/
  | grant (i : Slot) {x : Session} {k : Nat} {s : State} (session : s.pac.slots[i].session = some x)
      (ready : sessionReady s x = true) (bound : k < s.pac.stage.length) (free : s.pac.stage.getD k .free = .free) :
      Move s
        (onSlot i (fun slot => { slot with session := some (x.granted s k) })
          (setStage k (.reserved { slot := i, tag := x.tag, seq := x.nextSeq }) s))
  /-- A BLOCK fills the stage slot of its grant (R123). -/
  | accept (i : Slot) {x : Session} {g : Grant} (n : Nat) {s : State} (session : s.pac.slots[i].session = some x)
      (granted : g ∈ x.outstanding) :
      Move s
        (onSlot i (fun slot => { slot with session := some (x.accepted g.seq) })
          { setStage g.stage (.filled { slot := i, tag := x.tag, seq := g.seq } n) s with
            pac.fifo := s.pac.fifo ++ [g.stage] })
  /-- A grant of a RUNNING session expires (R125). -/
  | expire (i : Slot) {x : Session} {g : Grant} {s : State} (session : s.pac.slots[i].session = some x)
      (granted : g ∈ x.outstanding) (running : x.draining = false) :
      Move s (onSlot i (fun slot => { slot with session := some (x.expired g.seq) }) (setStage g.stage .free s))
  /-- The head of the delivery FIFO takes the delivery position (R126). -/
  | send {k n : Nat} {rest : List Nat} {owner : StageOwner} {s : State} (empty : s.pac.delivery = none)
      (head : s.pac.fifo = k :: rest) (filled : s.pac.stage.getD k .free = .filled owner n) :
      Move s { setStage k (.sending owner n) s with pac.fifo := rest, pac.delivery := some k }
  /-- The delivery is cut off: its slot returns to the head of the FIFO (R126). -/
  | cut {k n : Nat} {owner : StageOwner} {s : State} (delivery : s.pac.delivery = some k)
      (sending : s.pac.stage.getD k .free = .sending owner n) :
      Move s { setStage k (.filled owner n) s with pac.delivery := none, pac.fifo := k :: s.pac.fifo }
  /-- The delivery ends: its slot is FREE (R126). -/
  | sent {k n : Nat} {owner : StageOwner} {s : State} (delivery : s.pac.delivery = some k)
      (sending : s.pac.stage.getD k .free = .sending owner n) :
      Move s { setStage k .free s with pac.delivery := none }
  /-- A delivery position that names no SENDING slot is emptied. -/
  | lose {k : Nat} {s : State} (delivery : s.pac.delivery = some k)
      (other : ∀ owner n, s.pac.stage.getD k .free ≠ .sending owner n) : Move s { s with pac.delivery := none }
  /-- The wake-fault discard of the FILLED stage slots (R133). -/
  | discard (s : State) : Move s (discardStaged s)

/-- A sequence of moves. -/
abbrev Moves : State → State → Prop := Relation.ReflTransGen Move

/-! ## What the core gives -/

section
variable {s t : State}

theorem core_eq_of_blocks (cells : t.cells = s.cells) (hold : t.hold = s.hold) (pow : t.pow = s.pow)
    (pac : t.pac = s.pac) : t.core = s.core := by
  have accounts : t.accounts = s.accounts := by
    funext i
    simp only [State.accounts, pac]
  simp only [State.core, cells, hold, pow, pac, accounts]

/-- Of two states with the same core, each session of the one is, but for its account, a session of the other. -/
theorem session_of_core (same : t.core = s.core) {i : Slot} {y : Session} (h : t.pac.slots[i].session = some y) :
    ∃ x, s.pac.slots[i].session = some x ∧ x.account = y.account := by
  have hi : t.accounts i = s.accounts i := congrFun (congrArg Core.accounts same) i
  simp only [State.accounts, h, Option.map_some] at hi
  exact Option.map_eq_some_iff.mp hi.symm

theorem lawful_of_account {x y : Session} (h : x.account = y.account) (lawful : x.lawful) : y.lawful :=
  show y.account.lawful from h ▸ lawful

end

end Sys2Proof.Machine
end

section
/-! SUPPORT and proofs: the moves keep the cells and the hold queue in agreement. -/

namespace Sys2Proof.Machine

/-- R21, R28 and R61: the cells' contents in canonical form and the hold queue in agreement with its ring. -/
def HoldKept (s : State) : Prop :=
  s.cells.mem.wf = true ∧ HoldAgrees s

/-- The ring's agreement in terms of the cells that each record takes. -/
theorem holdAgrees_iff (s : State) : HoldAgrees s ↔
    s.core.part.answer + s.core.part.hold + s.core.part.stage = 4096 ∧ 256 ≤ s.core.part.hold ∧
      s.core.cells.length ≤ 512 ∧ s.core.cells.sum = s.core.used ∧ s.core.used ≤ s.core.part.hold ∧
      (s.core.latch = true → s.core.cells = []) := by
  have sum : heldCells s.hold.records = (s.hold.records.map HeldRecord.cells).sum := by
    induction s.hold.records with
    | nil => rfl
    | cons r rs ih => simp_all [heldCells]
  simp [HoldAgrees, State.core, sum]

theorem heldCells_append (l m : List HeldRecord) : heldCells (l ++ m) = heldCells l + heldCells m := by
  induction l with
  | nil => simp [heldCells]
  | cons r rs ih => simp_all [heldCells, Nat.add_assoc]

/-- A partition that passes the checks of R22 gives regions of 4096 cells, HOLD at least 256. -/
theorem partitionAllowed_sizes {a st : Nat} (h : partitionAllowed a st = true) :
    a + (4096 - a - st) + st = 4096 ∧ 256 ≤ 4096 - a - st := by
  simp only [partitionAllowed, Bool.and_eq_true, decide_eq_true_eq] at h
  omega

theorem resetPartition_sizes (r : Retained) :
    (resetPartition r).answer + (resetPartition r).hold + (resetPartition r).stage = 4096 ∧
      256 ≤ (resetPartition r).hold := by
  unfold resetPartition
  dsimp only
  split
  · exact ⟨rfl, by decide⟩
  · split
    · rename_i allowed
      exact partitionAllowed_sizes allowed
    · exact ⟨rfl, by decide⟩

theorem appendHeld_holdAgrees {frame : List Byte} {cls : HeldClass} {entry : Option (Fin 64)} {arrival : Word32}
    {s : State} (latch : s.pow.latch = false) (room : s.hold.records.length < 512)
    (fits : cellsFor frame.length ≤ s.cells.free) (h : HoldAgrees s) :
    HoldAgrees (appendHeld frame cls entry arrival s) := by
  obtain ⟨sizes, least, records, used, within, -⟩ := h
  refine ⟨sizes, least, ?_, ?_, ?_, fun latched => nomatch latch.symm.trans latched⟩
  · simpa [appendHeld] using room
  · exact (heldCells_append _ _).trans (congrArg (· + cellsFor frame.length) used)
  · unfold CellStore.free at fits
    change s.cells.ring.used + cellsFor frame.length ≤ s.cells.part.hold
    omega

theorem popHeld_holdAgrees {s : State} (h : HoldAgrees s) : HoldAgrees (popHeld s) := by
  obtain ⟨sizes, least, records, used, within, latched⟩ := h
  unfold popHeld
  split
  · exact ⟨sizes, least, records, used, within, latched⟩
  · rename_i r rest hr
    rw [hr] at records used
    have counted : r.cells + heldCells rest = s.cells.ring.used := used
    refine ⟨sizes, least, Nat.le_of_succ_le records, ?_, Nat.le_trans (Nat.sub_le _ _) within,
      fun hl => nomatch hr.symm.trans (latched hl)⟩
    exact (Nat.sub_eq_of_eq_add' counted.symm).symm

/-- A hold queue that is empty, with nothing used, agrees with any partition of the right sizes. -/
theorem holdAgrees_empty {s : State} (sizes : s.cells.part.answer + s.cells.part.hold + s.cells.part.stage = 4096)
    (least : 256 ≤ s.cells.part.hold) (records : s.hold.records = []) (used : s.cells.ring.used = 0) :
    HoldAgrees s :=
  ⟨sizes, least, by simp [records], by simp [records, used, heldCells], by simp [used], fun _ => records⟩

theorem storeIdle_records {s : State} (idle : storeIdle s = true) : s.hold.records = [] := by
  simp only [storeIdle, Bool.and_eq_true, List.isEmpty_iff] at idle
  exact idle.1.1.1.2

theorem Move.keeps_hold {s t : State} (m : Move s t) (h : HoldKept s) : HoldKept t := by
  obtain ⟨wf, agrees⟩ := h
  cases m with
  | quiet same =>
    exact ⟨(congrArg (Memory.wf ∘ Core.mem) same).trans wf,
      (holdAgrees_iff t).mpr (same ▸ (holdAgrees_iff s).mp agrees)⟩
  | write address bytes => exact ⟨Memory.wf_writeRun address bytes wf, agrees⟩
  | append frame cls entry arrival latch room fits =>
    exact ⟨wf_writeRing _ _ _ wf, appendHeld_holdAgrees latch room fits agrees⟩
  | pop =>
    refine ⟨?_, popHeld_holdAgrees agrees⟩
    unfold popHeld
    split <;> exact wf
  | fault =>
    obtain ⟨sizes, least, -⟩ := agrees
    exact ⟨wf, holdAgrees_empty sizes least rfl rfl⟩
  | unlatch =>
    obtain ⟨sizes, least, records, used, within, -⟩ := agrees
    exact ⟨wf, sizes, least, records, used, within, nofun⟩
  | reset =>
    exact ⟨wf, holdAgrees_empty (resetPartition_sizes s.ret).1 (resetPartition_sizes s.ret).2 rfl rfl⟩
  | repartition atReset idle allowed =>
    exact ⟨wf, holdAgrees_empty (partitionAllowed_sizes allowed).1 (partitionAllowed_sizes allowed).2
      (show s.hold.records = [] from storeIdle_records idle) rfl⟩
  | box | fall | ready | unready | start | finish | halt | grant | accept | expire | send | cut | sent | lose
  | discard => exact ⟨wf, agrees⟩

theorem Moves.keep_hold {s t : State} (m : Moves s t) (h : HoldKept s) : HoldKept t := by
  induction m with
  | refl => exact h
  | tail _ last ih => exact last.keeps_hold ih

end Sys2Proof.Machine
end

section
/-! SUPPORT and proofs: the moves keep every session lawful, and risen only in RUN with its bays READY. -/

namespace Sys2Proof.Machine

/-! ## The session of a slot -/

theorem onSlot_session (i j : Slot) (o : Option Session) (s : State) :
    (onSlot i (fun slot => { slot with session := o }) s).pac.slots[j].session =
      if j = i then o else s.pac.slots[j].session := by
  by_cases h : j = i
  · subst h
    simp
  · rw [if_neg h]
    exact congrArg SessionSlot.session (getElem_vecMod_ne _ _ _ _ h)

theorem fallSessions_session (p : Session → Bool) (s : State) (i : Slot) :
    (fallSessions p s).pac.slots[i].session =
      s.pac.slots[i].session.map fun x => if p x then x.fallen else x := by
  simp

theorem fallen_eq (x : Session) : ∃ phase rate, x.fallen = { x with phase := phase, rate := rate } := by
  unfold Session.fallen
  split
  · exact ⟨_, _, rfl⟩
  · exact ⟨x.phase, x.rate, rfl⟩

theorem fallen_not_risen {x : Session} (h : x.fallen.draining = false) : ¬ x.fallen.risen := by
  unfold Session.fallen at h ⊢
  split
  · simp [Session.risen]
  · rename_i hf
    rw [if_neg hf] at h
    simpa [Session.risen, h, and_assoc] using hf

/-! ## The grant step -/

/-- A grant step changes the phase and the rate alone, and rises only out of a risen session or where it may (R144). -/
theorem grantStep_eq (free : Bool) (e : Nat) (x : Session) : ∃ phase rate,
    x.grantStep free e = { x with phase := phase, rate := rate } ∧
      ((x.grantStep free e).risen → x.risen ∨ free = true) := by
  have track (y : Session) : ∃ phase rate, y.track e = { y with phase := phase, rate := rate } := by
    unfold Session.track
    split
    · exact ⟨_, _, rfl⟩
    · split <;> exact ⟨_, _, rfl⟩
  have taper (y : Session) : ∃ phase rate, y.taperStep = { y with phase := phase, rate := rate } ∧ ¬ y.taperStep.risen := by
    refine ⟨_, _, rfl, ?_⟩
    simp only [Session.taperStep, Session.risen]
    split <;> simp
  unfold Session.grantStep
  split
  · obtain ⟨phase, rate, eq, low⟩ := taper { x with phase := .taper }
    exact ⟨phase, rate, eq, fun h => absurd h low⟩
  · cases hp : x.phase with
    | floor =>
      cases free with
      | true =>
        obtain ⟨phase, rate, eq⟩ := track x
        exact ⟨phase, rate, by simp [Session.phaseStep, hp, eq], fun _ => .inr rfl⟩
      | false => exact ⟨x.phase, x.profile.floor, by simp [Session.phaseStep, hp],
          fun h => by simp [Session.phaseStep, hp, Session.risen] at h⟩
    | rise | cruise | yield =>
      obtain ⟨phase, rate, eq⟩ := track x
      exact ⟨phase, rate, by simp [Session.phaseStep, hp, eq], fun _ => .inl (by simp [Session.risen, hp])⟩
    | taper =>
      obtain ⟨phase, rate, eq, low⟩ := taper x
      exact ⟨phase, rate, by simp [Session.phaseStep, hp, eq], fun h => absurd h (by simpa [Session.phaseStep, hp] using low)⟩
    | tail => exact ⟨x.phase, x.profile.floor, by simp [Session.phaseStep, hp],
          fun h => by simp [Session.phaseStep, hp, Session.risen] at h⟩

/-- The session that has issued a grant, before its grant step (R119). -/
def Session.issued (s : State) (k : Nat) (x : Session) : Session :=
  { x with
    outstanding :=
      x.outstanding ++ [{ seq := x.nextSeq, stage := k, deadline := s.time.ms + BitVec.ofNat 32 x.profile.deadline }],
    nextSeq := x.nextSeq + 1, todo := x.todo - 1, stallAcc := 0 }

/-- What a grant makes of its session (R119). -/
theorem granted_eq (s : State) (k : Nat) (x : Session) : ∃ phase rate due,
    x.granted s k = { x.issued s k with phase := phase, rate := rate, nextDue := due } ∧
      ((x.granted s k).risen → x.risen ∨ mayRise s x = true) := by
  obtain ⟨phase, rate, eq, rises⟩ := grantStep_eq (mayRise s x) (ceilingOf s.share.active x) (x.issued s k)
  exact ⟨phase, rate, _, congrArg (fun y : Session =>
    { y with nextDue := s.time.us + BitVec.ofNat 64 (interval y.rate) }) eq, rises⟩

/-! ## Lawful sessions -/

section
variable {x : Session}

theorem newSession_lawful (p : Profile) (peer : MacAddr) (tag : Word16) (nb : Nat) (bays : BaySet) (now : Word64) :
    (newSession p peer tag nb bays now).lawful :=
  ⟨by simp [newSession], .nil, nofun, by simp [newSession], nofun⟩

theorem outstanding_nodup (lawful : x.lawful) : (x.outstanding.map Grant.seq).Nodup := by
  obtain ⟨-, ascending, -⟩ := lawful
  exact List.pairwise_map.mpr (ascending.imp Nat.ne_of_lt)

/-- A grant is told by its sequence. -/
theorem grant_of_seq (lawful : x.lawful) {g h : Grant} (hg : g ∈ x.outstanding) (hh : h ∈ x.outstanding)
    (seq : g.seq = h.seq) : g = h :=
  List.inj_on_of_nodup_map (outstanding_nodup lawful) hg hh seq

/-- The grants that have not the sequence of a grant: all but that one. -/
theorem length_filter_seq (lawful : x.lawful) {g : Grant} (granted : g ∈ x.outstanding) :
    (x.outstanding.filter fun y => y.seq ≠ g.seq).length + 1 = x.outstanding.length := by
  have one : (x.outstanding.map Grant.seq).count g.seq = 1 :=
    List.count_eq_one_of_mem (outstanding_nodup lawful) (List.mem_map_of_mem granted)
  rw [List.count, List.countP_map] at one
  have split := List.length_eq_countP_add_countP (fun y : Grant => y.seq == g.seq) (l := x.outstanding)
  rw [← List.countP_eq_length_filter]
  simp only [Function.comp_def, beq_iff_eq, ne_eq, decide_not] at one split ⊢
  omega

theorem draining_outstanding (lawful : x.lawful) (draining : x.draining = true) : x.outstanding = [] := by
  obtain ⟨total, -, -, -, all⟩ := lawful
  have := all draining
  exact List.eq_nil_of_length_eq_zero (by omega)

theorem granted_lawful {s : State} (k : Nat) (lawful : x.lawful) (ready : sessionReady s x = true) :
    (x.granted s k).lawful := by
  obtain ⟨phase, rate, due, eq, -⟩ := granted_eq s k x
  obtain ⟨total, ascending, below, -, -⟩ := lawful
  simp only [sessionReady, Bool.and_eq_true, Bool.not_eq_true', decide_eq_true_eq] at ready
  obtain ⟨⟨⟨⟨⟨running, -⟩, todo⟩, -⟩, -⟩, seq⟩ := ready
  rw [eq]
  refine ⟨?_, ?_, ?_, ?_, fun draining => nomatch running.symm.trans draining⟩
  · change x.received + (x.outstanding ++ [_]).length + (x.todo - 1) = x.nb
    rw [List.length_append, List.length_singleton]
    omega
  · exact List.pairwise_append.mpr ⟨ascending, List.pairwise_singleton _ _, fun g hg h hh => by
      obtain rfl := List.mem_singleton.mp hh
      exact below g hg⟩
  · intro g hg
    obtain hg | hg := List.mem_append.mp hg
    · exact Nat.lt_succ_of_lt (below g hg)
    · obtain rfl := List.mem_singleton.mp hg
      exact Nat.lt_succ_self _
  · change x.nextSeq + 1 ≤ _
    omega

theorem accepted_lawful {g : Grant} (lawful : x.lawful) (granted : g ∈ x.outstanding) : (x.accepted g.seq).lawful := by
  have one := length_filter_seq lawful granted
  obtain ⟨total, ascending, below, last, -⟩ := lawful
  refine ⟨?_, ascending.filter _, fun h hh => below h (List.mem_of_mem_filter hh), last, fun h => of_decide_eq_true h⟩
  change x.received + 1 + (x.outstanding.filter _).length + x.todo = x.nb
  omega

theorem expired_lawful {g : Grant} (lawful : x.lawful) (granted : g ∈ x.outstanding) (running : x.draining = false) :
    (x.expired g.seq).lawful := by
  have one := length_filter_seq lawful granted
  obtain ⟨total, ascending, below, last, -⟩ := lawful
  refine ⟨?_, ascending.filter _, fun h hh => below h (List.mem_of_mem_filter hh), last,
    fun draining => nomatch running.symm.trans draining⟩
  change x.received + (x.outstanding.filter _).length + (x.todo + 1) = x.nb
  omega

end

section
variable {s t : State}

theorem lawful_onSlot {i : Slot} {o : Option Session} (h : SessionsLawful s) (new : ∀ y, o = some y → y.lawful) :
    SessionsLawful (onSlot i (fun slot => { slot with session := o }) s) := by
  intro j y hy
  rw [onSlot_session] at hy
  split at hy
  · exact new y hy
  · exact h j y hy

theorem lawful_fallSessions (p : Session → Bool) (h : SessionsLawful s) : SessionsLawful (fallSessions p s) := by
  intro i y hy
  rw [fallSessions_session] at hy
  obtain ⟨x, hx, rfl⟩ := Option.map_eq_some_iff.mp hy
  obtain ⟨phase, rate, eq⟩ := fallen_eq x
  split
  · rw [eq]
    exact h i x hx
  · exact h i x hx

theorem resetAll_session (presence activity : BaySet) (clock : Clock) (s : State) (i : Slot) :
    (resetAll presence activity clock s).pac.slots[i].session = none := by
  simp [resetAll, State.reset]

theorem Move.keeps_lawful (m : Move s t) (h : SessionsLawful s) : SessionsLawful t := by
  cases m with
  | quiet same =>
    intro i y hy
    obtain ⟨x, hx, account⟩ := session_of_core same hy
    exact lawful_of_account account (h i x hx)
  | reset presence activity clock =>
    intro i y hy
    nomatch (resetAll_session presence activity clock s i).symm.trans hy
  | fall p => exact lawful_fallSessions p h
  | unready bay => exact lawful_fallSessions _ (s := { s with pac.readySet := s.pac.readySet &&& ~~~ oneBay bay }) h
  | start i p peer tag nb bays now => exact lawful_onSlot h fun y hy => Option.some.inj hy ▸ newSession_lawful ..
  | finish | halt => exact lawful_onSlot h nofun
  | grant i session ready => exact lawful_onSlot h fun y hy => Option.some.inj hy ▸ granted_lawful _ (h _ _ session) ready
  | accept i n session granted =>
    exact lawful_onSlot h fun y hy => Option.some.inj hy ▸ accepted_lawful (h _ _ session) granted
  | expire i session granted running =>
    exact lawful_onSlot h fun y hy => Option.some.inj hy ▸ expired_lawful (h _ _ session) granted running
  | discard =>
    intro i y hy
    exact h i y (by simpa using hy)
  | pop =>
    intro i y hy
    exact h i y (by rwa [popHeld_pac] at hy)
  | write | append | fault | unlatch | box | repartition | ready | send | cut | sent | lose => exact h

/-! ## Risen sessions -/

theorem baySubset_iff (a b : BaySet) : a &&& b = a ↔ ∀ i : Bay, hasBay a i = true → hasBay b i = true := by
  constructor
  · intro h i ha
    rw [← h, hasBay, BitVec.getLsbD_and, Bool.and_eq_true] at ha
    exact ha.2
  · intro h
    refine baySet_eq fun i => ?_
    have hi := h i
    rw [hasBay, BitVec.getLsbD_and]
    unfold hasBay at hi ⊢
    cases ha : a.getLsbD i.val <;> simp_all

theorem hasBay_without (a : BaySet) (i j : Bay) : hasBay (a &&& ~~~ oneBay j) i = (hasBay a i && decide (i ≠ j)) := by
  have one := hasBay_oneBay i j
  unfold hasBay at one ⊢
  rw [BitVec.getLsbD_and, BitVec.getLsbD_not, one]
  simp

theorem rise_onSlot {i : Slot} {o : Option Session} (h : RiseOnlyWhenReady s)
    (new : ∀ y, o = some y → y.draining = false → y.risen →
      s.pow.box = .run ∧ y.bays &&& s.pac.readySet = y.bays) :
    RiseOnlyWhenReady (onSlot i (fun slot => { slot with session := o }) s) := by
  intro j y hy
  rw [onSlot_session] at hy
  split at hy
  · exact new y hy
  · exact h j y hy

/-- The sessions after a fall: those that are risen still were, and were not named. -/
theorem risen_of_fallSessions {p : Session → Bool} {i : Slot} {y : Session}
    (hy : (fallSessions p s).pac.slots[i].session = some y) (running : y.draining = false) (risen : y.risen) :
    s.pac.slots[i].session = some y ∧ p y = false := by
  rw [fallSessions_session] at hy
  obtain ⟨x, hx, rfl⟩ := Option.map_eq_some_iff.mp hy
  split at running
  · rename_i hp
    rw [if_pos hp] at risen
    exact absurd risen (fallen_not_risen running)
  · rename_i hp
    rw [if_neg hp]
    exact ⟨hx, Bool.eq_false_iff.mpr hp⟩

theorem grounded_fallSessions (s : State) : Grounded (fallSessions (fun _ => true) s) :=
  fun _ _ hy running risen => nomatch (risen_of_fallSessions hy running risen).2

theorem Move.keeps_rise (m : Move s t) (lawful : SessionsLawful s) (h : RiseOnlyWhenReady s) :
    RiseOnlyWhenReady t := by
  cases m with
  | quiet same =>
    intro i y hy running risen
    obtain ⟨x, hx, account⟩ := session_of_core same hy
    have box : t.pow.box = s.pow.box := congrArg Core.box same
    have readySet : t.pac.readySet = s.pac.readySet := congrArg Core.readySet same
    have rule : x.account.draining = false → x.account.risen →
        s.pow.box = .run ∧ x.account.bays &&& s.pac.readySet = x.account.bays := h i x hx
    rw [account] at rule
    rw [box, readySet]
    exact rule running risen
  | fault asleep =>
    intro i x hx running risen
    exact absurd (h i x hx running risen).1 asleep
  | box box down =>
    intro i x hx running risen
    obtain ⟨run, bays⟩ := h i x hx running risen
    obtain rfl | grounded := down run
    · exact ⟨rfl, bays⟩
    · exact absurd risen (grounded i x hx running)
  | reset presence activity clock =>
    intro i y hy
    nomatch (resetAll_session presence activity clock s i).symm.trans hy
  | fall p =>
    intro i y hy running risen
    exact h i y (risen_of_fallSessions hy running risen).1 running risen
  | ready bay =>
    intro i x hx running risen
    obtain ⟨run, bays⟩ := h i x hx running risen
    refine ⟨run, (baySubset_iff _ _).mpr fun b hb => ?_⟩
    rw [reportReady_pac_readySet, hasBay_or, (baySubset_iff _ _).mp bays b hb, Bool.true_or]
  | unready bay =>
    intro i x hx running risen
    obtain ⟨session, spared⟩ :=
      risen_of_fallSessions (s := { s with pac.readySet := s.pac.readySet &&& ~~~ oneBay bay }) hx running risen
    obtain ⟨run, bays⟩ := h i x session running risen
    refine ⟨run, (baySubset_iff _ _).mpr fun b hb => ?_⟩
    rw [reportUnready_pac_readySet, hasBay_without, (baySubset_iff _ _).mp bays b hb, Bool.true_and]
    exact decide_eq_true fun hbay => nomatch (hbay ▸ spared).symm.trans hb
  | start =>
    refine rise_onSlot h fun y hy running risen => ?_
    obtain rfl := Option.some.inj hy
    simp [Session.risen, newSession] at risen
  | finish | halt => exact rise_onSlot h nofun
  | grant i session ready =>
    refine rise_onSlot h fun y hy running risen => ?_
    obtain rfl := Option.some.inj hy
    obtain ⟨phase, rate, due, eq, rises⟩ := granted_eq s _ _
    obtain old | may := rises risen
    · have rule := h i _ session
      rw [eq] at running ⊢
      exact rule running old
    · rw [eq]
      simpa [mayRise, Session.issued] using may
  | accept i n session granted =>
    refine rise_onSlot h fun y hy running risen => ?_
    obtain rfl := Option.some.inj hy
    have rule := h i _ session
    refine rule (Bool.eq_false_iff.mpr fun draining => ?_) risen
    rw [draining_outstanding (lawful i _ session) draining] at granted
    nomatch granted
  | expire i session granted running =>
    refine rise_onSlot h fun y hy _ risen => ?_
    obtain rfl := Option.some.inj hy
    have rule := h i _ session
    exact rule running risen
  | discard =>
    intro i y hy
    exact h i y (by simpa using hy)
  | pop =>
    intro i y
    rw [popHeld_pac, popHeld_pow]
    exact h i y
  | write | append | unlatch | repartition | send | cut | sent | lose => exact h

theorem Moves.keep_sessions (m : Moves s t) (h : SessionsLawful s ∧ RiseOnlyWhenReady s) :
    SessionsLawful t ∧ RiseOnlyWhenReady t := by
  induction m with
  | refl => exact h
  | tail _ last ih => exact ⟨last.keeps_lawful ih.1, last.keeps_rise ih.1 ih.2⟩

end

end Sys2Proof.Machine
end

section
/-! SUPPORT and proofs: the moves keep the stage slots in agreement with the sessions and the delivery FIFO. -/

namespace Sys2Proof.Machine

/-! ## The owners of the stage slots -/

/-- The stage slot `k` is that of an outstanding grant of the session of `o` (R33). -/
def Owns (s : State) (k : Nat) (o : StageOwner) : Prop :=
  ∃ x : Session, s.pac.slots[o.slot].session = some x ∧ x.tag = o.tag ∧ ∃ g ∈ x.outstanding, g.seq = o.seq ∧ g.stage = k

/-- R33 and R34, by the state of each stage slot: RESERVED for its owner, FILLED in the FIFO, SENDING in delivery. -/
structure StageKept (s : State) : Prop where
  slots : s.pac.stage.length = s.cells.part.slots
  reserved : ∀ k o, s.pac.stage[k]? = some (.reserved o) ↔ Owns s k o
  nodup : s.pac.fifo.Nodup
  filled : ∀ k, (∃ o n, s.pac.stage[k]? = some (.filled o n)) ↔ k ∈ s.pac.fifo
  sending : ∀ k, (∃ o n, s.pac.stage[k]? = some (.sending o n)) ↔ s.pac.delivery = some k

theorem stageAgrees_iff (s : State) : StageAgrees s ↔ StageKept s := by
  constructor
  · rintro ⟨slots, owned, owner, nodup, filled, sending⟩
    refine ⟨slots, fun k o => ⟨owner k o, ?_⟩, nodup, fun k => (filled k).symm, fun k => (sending k).symm⟩
    rintro ⟨x, hx, htag, g, hg, hseq, rfl⟩
    have := owned o.slot x hx g hg
    rwa [htag, hseq] at this
  · intro h
    refine ⟨h.slots, fun i x hx g hg => (h.reserved _ _).mpr ⟨x, hx, rfl, g, hg, rfl, rfl⟩, fun k o => (h.reserved k o).mp,
      h.nodup, fun k => (h.filled k).symm, fun k => (h.sending k).symm⟩

theorem owns_onSlot (i : Slot) (v : Option Session) (s : State) (k : Nat) (o : StageOwner) :
    Owns (onSlot i (fun slot => { slot with session := v }) s) k o ↔
      if o.slot = i then ∃ x, v = some x ∧ x.tag = o.tag ∧ ∃ g ∈ x.outstanding, g.seq = o.seq ∧ g.stage = k
      else Owns s k o := by
  unfold Owns
  rw [onSlot_session]
  split <;> rfl

theorem owns_granted {s : State} {i : Slot} {x : Session} {g : Grant} (session : s.pac.slots[i].session = some x)
    (granted : g ∈ x.outstanding) : Owns s g.stage { slot := i, tag := x.tag, seq := g.seq } :=
  ⟨x, session, rfl, g, granted, rfl, rfl⟩

theorem owns_session {s : State} {o : StageOwner} {x : Session} (session : s.pac.slots[o.slot].session = some x)
    (k : Nat) : Owns s k o ↔ x.tag = o.tag ∧ ∃ g ∈ x.outstanding, g.seq = o.seq ∧ g.stage = k := by
  unfold Owns
  rw [session]
  simp

/-- A slot whose session has no grant owns no stage slot. -/
theorem not_owns {s : State} {k : Nat} {o : StageOwner}
    (idle : ∀ x, s.pac.slots[o.slot].session = some x → x.outstanding = []) : ¬ Owns s k o := by
  rintro ⟨x, hx, -, g, hg, -⟩
  rw [idle x hx] at hg
  nomatch hg

/-- The session of one slot replaced by one without grants, where the old one had none: the same owners. -/
theorem owns_replace {i : Slot} {v : Option Session} {s : State}
    (old : ∀ x, s.pac.slots[i].session = some x → x.outstanding = []) (new : ∀ y, v = some y → y.outstanding = [])
    (k : Nat) (o : StageOwner) : Owns (onSlot i (fun slot => { slot with session := v }) s) k o ↔ Owns s k o := by
  rw [owns_onSlot]
  split
  · rename_i hi
    refine iff_of_false ?_ (not_owns (hi ▸ old))
    rintro ⟨y, hy, -, g, hg, -⟩
    rw [new y hy] at hg
    nomatch hg
  · rfl

/-- Owners are told by the sessions up to their accounts. -/
theorem owns_congr {s t : State}
    (same : ∀ (i : Slot) (x : Session), s.pac.slots[i].session = some x →
      ∃ y, t.pac.slots[i].session = some y ∧ y.tag = x.tag ∧ y.outstanding = x.outstanding)
    {k : Nat} {o : StageOwner} (h : Owns s k o) : Owns t k o := by
  obtain ⟨x, hx, tag, grant⟩ := h
  obtain ⟨y, hy, htag, hout⟩ := same _ x hx
  exact ⟨y, hy, htag.trans tag, hout ▸ grant⟩

theorem owns_fallSessions (p : Session → Bool) (s : State) (k : Nat) (o : StageOwner) :
    Owns (fallSessions p s) k o ↔ Owns s k o := by
  have same (x : Session) : (if p x then x.fallen else x).tag = x.tag ∧
      (if p x then x.fallen else x).outstanding = x.outstanding := by
    obtain ⟨phase, rate, eq⟩ := fallen_eq x
    split
    · rw [eq]
      exact ⟨rfl, rfl⟩
    · exact ⟨rfl, rfl⟩
  constructor
  · refine owns_congr fun i y hy => ?_
    rw [fallSessions_session] at hy
    obtain ⟨x, hx, rfl⟩ := Option.map_eq_some_iff.mp hy
    exact ⟨x, hx, (same x).1.symm, (same x).2.symm⟩
  · refine owns_congr fun i x hx => ?_
    refine ⟨_, ?_, same x⟩
    rw [fallSessions_session, hx]
    rfl

theorem owns_core {s t : State} (same : t.core = s.core) {k : Nat} {o : StageOwner} (h : Owns s k o) : Owns t k o := by
  refine owns_congr (fun i x hx => ?_) h
  obtain ⟨y, hy, account⟩ := session_of_core same.symm hx
  have tag : y.account.tag = x.account.tag := by rw [account]
  have outstanding : y.account.outstanding = x.account.outstanding := by rw [account]
  exact ⟨y, hy, tag, outstanding⟩

/-! ## One stage slot changed -/

/-- One stage slot `k` takes the value `v`: the agreement is kept where the owners, the FIFO and the delivery position
change at `k` alone and as `v` says. -/
theorem StageKept.set {s t : State} (h : StageKept s) {k : Nat} {v : StageSlot} (bound : k < s.pac.stage.length)
    (part : t.cells.part = s.cells.part) (stage : t.pac.stage = s.pac.stage.set k v)
    (owners : ∀ j o, j ≠ k → (Owns t j o ↔ Owns s j o)) (fifo : ∀ j, j ≠ k → (j ∈ t.pac.fifo ↔ j ∈ s.pac.fifo))
    (delivery : ∀ j, j ≠ k → (t.pac.delivery = some j ↔ s.pac.delivery = some j)) (nodup : t.pac.fifo.Nodup)
    (reserved : ∀ o, v = .reserved o ↔ Owns t k o) (filled : (∃ o n, v = .filled o n) ↔ k ∈ t.pac.fifo)
    (sending : (∃ o n, v = .sending o n) ↔ t.pac.delivery = some k) : StageKept t := by
  have here : t.pac.stage[k]? = some v := by rw [stage, List.getElem?_set_self bound]
  have there (j : Nat) (hj : j ≠ k) : t.pac.stage[j]? = s.pac.stage[j]? := by
    rw [stage, List.getElem?_set_ne hj.symm]
  refine ⟨by rw [stage, List.length_set, part]; exact h.slots, fun j o => ?_, nodup, fun j => ?_, fun j => ?_⟩
  · by_cases hj : j = k
    · subst hj
      rw [here, Option.some.injEq]
      exact reserved o
    · rw [there j hj, owners j o hj]
      exact h.reserved j o
  · by_cases hj : j = k
    · subst hj
      simpa only [here, Option.some.injEq] using filled
    · rw [there j hj, fifo j hj]
      exact h.filled j
  · by_cases hj : j = k
    · subst hj
      simpa only [here, Option.some.injEq] using sending
    · rw [there j hj, delivery j hj]
      exact h.sending j

/-- A stage slot that is read as anything but FREE lies in the list. -/
theorem stage_of_getD {stage : List StageSlot} {k : Nat} {v : StageSlot} (h : stage.getD k .free = v) (hv : v ≠ .free) :
    k < stage.length ∧ stage[k]? = some v := by
  rw [List.getD_eq_getElem?_getD] at h
  cases hk : stage[k]? with
  | none => exact absurd h (by simpa [hk] using hv.symm)
  | some w =>
    obtain ⟨bound, -⟩ := List.getElem?_eq_some_iff.mp hk
    exact ⟨bound, by simpa [hk] using h⟩

theorem stage_free {stage : List StageSlot} {k : Nat} (bound : k < stage.length) (h : stage.getD k .free = .free) :
    stage[k]? = some .free := by
  rw [List.getD_eq_getElem?_getD, List.getElem?_eq_getElem bound, Option.getD_some] at h
  rw [List.getElem?_eq_getElem bound, h]

section
variable {s : State}

/-- A stage slot that stands at one state is at no other. -/
theorem StageKept.of_slot (h : StageKept s) {k : Nat} {v : StageSlot} (hk : s.pac.stage[k]? = some v) :
    (∀ o, Owns s k o ↔ v = .reserved o) ∧ (k ∈ s.pac.fifo ↔ ∃ o n, v = .filled o n) ∧
      (s.pac.delivery = some k ↔ ∃ o n, v = .sending o n) := by
  refine ⟨fun o => ?_, ?_, ?_⟩
  · rw [← h.reserved, hk, Option.some.injEq]
  · rw [← h.filled, hk]
    simp only [Option.some.injEq]
  · rw [← h.sending, hk]
    simp only [Option.some.injEq]

theorem keepsStage_grant (h : StageKept s) {i : Slot} {x : Session} {k : Nat}
    (session : s.pac.slots[i].session = some x) (bound : k < s.pac.stage.length)
    (free : s.pac.stage.getD k .free = .free) :
    StageKept
      (onSlot i (fun slot => { slot with session := some (x.granted s k) })
        (setStage k (.reserved { slot := i, tag := x.tag, seq := x.nextSeq }) s)) := by
  obtain ⟨unowned, unqueued, undelivered⟩ := h.of_slot (stage_free bound free)
  obtain ⟨phase, rate, due, eq, -⟩ := granted_eq s k x
  have owners (j : Nat) (o : StageOwner) :
      Owns
          (onSlot i (fun slot => { slot with session := some (x.granted s k) })
            (setStage k (.reserved { slot := i, tag := x.tag, seq := x.nextSeq }) s)) j o ↔
        Owns s j o ∨ (j = k ∧ o = { slot := i, tag := x.tag, seq := x.nextSeq }) := by
    rw [owns_onSlot]
    split
    · rename_i hi
      subst hi
      rw [owns_session session, eq]
      obtain ⟨slot, tag, seq⟩ := o
      simp only [Session.issued, Option.some.injEq, exists_eq_left', List.mem_append, List.mem_singleton,
        or_and_right, exists_or, exists_eq_left, and_or_left, StageOwner.mk.injEq, true_and]
      exact or_congr_right ⟨fun ⟨htag, hseq, hk⟩ => ⟨hk.symm, htag.symm, hseq.symm⟩,
        fun ⟨hk, htag, hseq⟩ => ⟨htag.symm, hseq.symm, hk.symm⟩⟩
    · rename_i hi
      refine (or_iff_left ?_).symm
      rintro ⟨-, rfl⟩
      exact hi rfl
  refine h.set bound rfl rfl (fun j o hj => ?_) (fun j _ => Iff.rfl) (fun j _ => Iff.rfl) h.nodup (fun o => ?_) ?_ ?_
  · rw [owners]
    exact or_iff_left fun hk => hj hk.1
  · rw [owners, unowned]
    simp [eq_comm]
  · refine iff_of_false nofun fun hk => ?_
    nomatch unqueued.mp hk
  · refine iff_of_false nofun fun hk => ?_
    nomatch undelivered.mp hk

/-- The owners once a session has lost the grant `g`: `g`'s stage slot is owned no more. -/
theorem owns_without (h : StageKept s) {i : Slot} {x y : Session} {g : Grant} (lawful : x.lawful)
    (session : s.pac.slots[i].session = some x) (granted : g ∈ x.outstanding) (tag : y.tag = x.tag)
    (outstanding : y.outstanding = x.outstanding.filter fun h => h.seq ≠ g.seq) (j : Nat) (o : StageOwner) :
    Owns (onSlot i (fun slot => { slot with session := some y }) s) j o ↔ Owns s j o ∧ j ≠ g.stage := by
  have owned := owns_granted session granted
  have only (o : StageOwner) (ho : Owns s g.stage o) : o = { slot := i, tag := x.tag, seq := g.seq } := by
    have := ((h.reserved _ _).mpr ho).symm.trans ((h.reserved _ _).mpr owned)
    simpa using this
  rw [owns_onSlot]
  split
  · rename_i hi
    obtain ⟨slot, otag, seq⟩ := o
    obtain rfl : slot = i := hi
    constructor
    · rintro ⟨z, hz, htag, f, hf, hseq, hstage⟩
      obtain rfl := Option.some.inj hz
      rw [outstanding, List.mem_filter] at hf
      have owns : Owns s j { slot := slot, tag := otag, seq := seq } :=
        ⟨x, session, tag ▸ htag, f, hf.1, hseq, hstage⟩
      refine ⟨owns, fun hj => ?_⟩
      have := only _ (hj ▸ owns)
      simp only [StageOwner.mk.injEq, true_and] at this
      exact absurd (hseq.trans this.2) (of_decide_eq_true hf.2)
    · rintro ⟨⟨z, hz, htag, f, hf, hseq, hstage⟩, hj⟩
      obtain rfl := Option.some.inj (session.symm.trans hz)
      refine ⟨y, rfl, tag.trans htag, f, ?_, hseq, hstage⟩
      rw [outstanding, List.mem_filter]
      refine ⟨hf, decide_eq_true fun same => hj ?_⟩
      rw [← hstage, grant_of_seq lawful hf granted same]
  · rename_i hi
    refine (and_iff_left_of_imp ?_).symm
    rintro ho rfl
    exact hi (congrArg StageOwner.slot (only o ho))

theorem keepsStage_accept (h : StageKept s) {i : Slot} {x : Session} {g : Grant} (n : Nat) (lawful : x.lawful)
    (session : s.pac.slots[i].session = some x) (granted : g ∈ x.outstanding) :
    StageKept
      (onSlot i (fun slot => { slot with session := some (x.accepted g.seq) })
        { setStage g.stage (.filled { slot := i, tag := x.tag, seq := g.seq } n) s with
          pac.fifo := s.pac.fifo ++ [g.stage] }) := by
  have owners := owns_without h lawful session granted (y := x.accepted g.seq) rfl rfl
  have here := (h.reserved _ _).mpr (owns_granted session granted)
  obtain ⟨-, unqueued, undelivered⟩ := h.of_slot here
  have apart : g.stage ∉ s.pac.fifo := fun hk => by nomatch unqueued.mp hk
  refine h.set (List.getElem?_eq_some_iff.mp here).1 rfl rfl (fun j o hj => (owners j o).trans (and_iff_left hj))
    (fun j hj => ?_) (fun j _ => Iff.rfl) ?_ (fun o => ?_) ?_ ?_
  · change j ∈ s.pac.fifo ++ [g.stage] ↔ _
    simp [hj]
  · exact List.nodup_append.mpr ⟨h.nodup, List.nodup_singleton _, fun j hj k hk hjk => by
      obtain rfl := List.mem_singleton.mp hk
      exact apart (hjk ▸ hj)⟩
  · exact iff_of_false nofun fun ho => ((owners _ o).mp ho).2 rfl
  · exact iff_of_true ⟨_, _, rfl⟩ (List.mem_append_right _ (List.mem_singleton_self _))
  · refine iff_of_false nofun fun hk => ?_
    nomatch undelivered.mp hk

theorem keepsStage_expire (h : StageKept s) {i : Slot} {x : Session} {g : Grant} (lawful : x.lawful)
    (session : s.pac.slots[i].session = some x) (granted : g ∈ x.outstanding) :
    StageKept
      (onSlot i (fun slot => { slot with session := some (x.expired g.seq) }) (setStage g.stage .free s)) := by
  have owners := owns_without h lawful session granted (y := x.expired g.seq) rfl rfl
  have here := (h.reserved _ _).mpr (owns_granted session granted)
  obtain ⟨-, unqueued, undelivered⟩ := h.of_slot here
  refine h.set (List.getElem?_eq_some_iff.mp here).1 rfl rfl (fun j o hj => (owners j o).trans (and_iff_left hj))
    (fun j _ => Iff.rfl) (fun j _ => Iff.rfl) h.nodup (fun o => ?_) ?_ ?_
  · exact iff_of_false nofun fun ho => ((owners _ o).mp ho).2 rfl
  · refine iff_of_false nofun fun hk => ?_
    nomatch unqueued.mp hk
  · refine iff_of_false nofun fun hk => ?_
    nomatch undelivered.mp hk

/-- A stage slot that is SENDING leaves the delivery position. -/
theorem StageKept.undeliver (h : StageKept s) {t : State} {k n : Nat} {owner : StageOwner} {v : StageSlot}
    (delivery : s.pac.delivery = some k) (sending : s.pac.stage.getD k .free = .sending owner n)
    (part : t.cells.part = s.cells.part) (slots : t.pac.slots = s.pac.slots)
    (stage : t.pac.stage = s.pac.stage.set k v) (empty : t.pac.delivery = none)
    (fifo : ∀ j, j ≠ k → (j ∈ t.pac.fifo ↔ j ∈ s.pac.fifo)) (nodup : t.pac.fifo.Nodup)
    (unreserved : ∀ o, v ≠ .reserved o) (unsent : ∀ o n, v ≠ .sending o n)
    (filled : (∃ o n, v = .filled o n) ↔ k ∈ t.pac.fifo) : StageKept t := by
  obtain ⟨bound, here⟩ := stage_of_getD sending nofun
  obtain ⟨unowned, -, -⟩ := h.of_slot here
  have owners (j : Nat) (o : StageOwner) : Owns t j o ↔ Owns s j o := by unfold Owns; rw [slots]
  refine h.set bound part stage (fun j o _ => owners j o) fifo (fun j hj => ?_) nodup (fun o => ?_) filled ?_
  · rw [empty, delivery]
    exact iff_of_false nofun fun hk => hj (Option.some.inj hk).symm
  · rw [owners, unowned]
    exact iff_of_false (unreserved o) nofun
  · rw [empty]
    exact iff_of_false (fun ⟨o, n, hv⟩ => unsent o n hv) nofun

theorem keepsStage_cut (h : StageKept s) {k n : Nat} {owner : StageOwner} (delivery : s.pac.delivery = some k)
    (sending : s.pac.stage.getD k .free = .sending owner n) :
    StageKept { setStage k (.filled owner n) s with pac.delivery := none, pac.fifo := k :: s.pac.fifo } := by
  obtain ⟨-, unqueued, -⟩ := h.of_slot (stage_of_getD sending nofun).2
  refine h.undeliver delivery sending rfl rfl rfl rfl (fun j hj => ?_) ?_ nofun nofun
    (iff_of_true ⟨_, _, rfl⟩ List.mem_cons_self)
  · exact List.mem_cons.trans (or_iff_right hj)
  · exact List.nodup_cons.mpr ⟨fun hk => (by nomatch unqueued.mp hk), h.nodup⟩

theorem keepsStage_sent (h : StageKept s) {k n : Nat} {owner : StageOwner} (delivery : s.pac.delivery = some k)
    (sending : s.pac.stage.getD k .free = .sending owner n) :
    StageKept { setStage k .free s with pac.delivery := none } := by
  obtain ⟨-, unqueued, -⟩ := h.of_slot (stage_of_getD sending nofun).2
  refine h.undeliver delivery sending rfl rfl rfl rfl (fun j _ => Iff.rfl) h.nodup nofun nofun
    (iff_of_false nofun fun hk => ?_)
  nomatch unqueued.mp hk

theorem keepsStage_send (h : StageKept s) {k n : Nat} {rest : List Nat} {owner : StageOwner}
    (empty : s.pac.delivery = none) (head : s.pac.fifo = k :: rest)
    (filled : s.pac.stage.getD k .free = .filled owner n) :
    StageKept { setStage k (.sending owner n) s with pac.fifo := rest, pac.delivery := some k } := by
  obtain ⟨bound, here⟩ := stage_of_getD filled nofun
  obtain ⟨unowned, -, -⟩ := h.of_slot here
  have nodup := h.nodup
  rw [head] at nodup
  obtain ⟨fresh, nodup⟩ := List.nodup_cons.mp nodup
  refine h.set bound rfl rfl (fun j o _ => Iff.rfl) (fun j hj => ?_) (fun j hj => ?_) nodup (fun o => ?_) ?_ ?_
  · rw [head, List.mem_cons]
    exact (or_iff_right hj).symm
  · rw [empty]
    exact iff_of_false (fun hk => hj (Option.some.inj hk).symm) nofun
  · exact iff_of_false nofun fun ho => by nomatch (unowned o).mp ho
  · exact iff_of_false nofun fresh
  · exact iff_of_true ⟨_, _, rfl⟩ rfl

/-! ## Many stage slots changed -/

/-- The stage slots of cancelled grants are FREE, the others as they were. -/
theorem getElem?_freeStages (grants : List Grant) (stage : List StageSlot) (k : Nat) :
    (freeStages grants stage)[k]? =
      if ∃ g ∈ grants, g.stage = k then stage[k]?.map fun _ => .free else stage[k]? := by
  induction grants generalizing stage with
  | nil => simp [freeStages]
  | cons g gs ih =>
    have step : freeStages (g :: gs) stage = freeStages gs (stage.set g.stage .free) := rfl
    rw [step, ih]
    by_cases hg : g.stage = k
    · subst hg
      by_cases bound : g.stage < stage.length <;> simp [bound]
    · simp [hg]

@[simp] theorem length_freeStages (grants : List Grant) (stage : List StageSlot) :
    (freeStages grants stage).length = stage.length := by
  induction grants generalizing stage with
  | nil => rfl
  | cons g gs ih => exact (ih _).trans (List.length_set ..)

theorem keepsStage_halt (h : StageKept s) {i : Slot} {x : Session} (session : s.pac.slots[i].session = some x) :
    StageKept
      (onSlot i (fun slot => { slot with session := none })
        { s with pac.stage := freeStages x.outstanding s.pac.stage }) := by
  have freed (k : Nat) (hk : ∃ g ∈ x.outstanding, g.stage = k) :
      ∃ o, o.slot = i ∧ s.pac.stage[k]? = some (.reserved o) := by
    obtain ⟨g, hg, rfl⟩ := hk
    exact ⟨_, rfl, (h.reserved _ _).mpr (owns_granted session hg)⟩
  have stage (k : Nat) (v : StageSlot) (hv : v ≠ .free) :
      (freeStages x.outstanding s.pac.stage)[k]? = some v ↔
        s.pac.stage[k]? = some v ∧ ¬ ∃ g ∈ x.outstanding, g.stage = k := by
    rw [getElem?_freeStages]
    split
    · rename_i hk
      obtain ⟨o, -, ho⟩ := freed k hk
      simpa [ho, hk] using hv.symm
    · rename_i hk
      exact (and_iff_left hk).symm
  refine ⟨(length_freeStages _ _).trans h.slots, fun k o => ?_, h.nodup, fun k => ?_, fun k => ?_⟩
  · rw [owns_onSlot]
    refine (stage k (.reserved o) nofun).trans ?_
    rw [h.reserved]
    split
    · rename_i hi
      refine iff_of_false ?_ (fun ⟨_, hx, _⟩ => nomatch hx)
      subst hi
      rintro ⟨⟨y, hy, -, g, hg, -, hk⟩, kept⟩
      obtain rfl := Option.some.inj (session.symm.trans hy)
      exact kept ⟨g, hg, hk⟩
    · rename_i hi
      refine and_iff_left_of_imp fun ho hk => ?_
      obtain ⟨o', hi', ho'⟩ := freed k hk
      have := ((h.reserved k o).mpr ho).symm.trans ho'
      simp only [Option.some.injEq, StageSlot.reserved.injEq] at this
      exact hi (this ▸ hi')
  · refine Iff.trans ?_ (h.filled k)
    refine exists_congr fun o => exists_congr fun n => (stage k (.filled o n) nofun).trans (and_iff_left_of_imp fun hf hk => ?_)
    obtain ⟨_, -, ho⟩ := freed k hk
    nomatch hf.symm.trans ho
  · refine Iff.trans ?_ (h.sending k)
    refine exists_congr fun o => exists_congr fun n => (stage k (.sending o n) nofun).trans (and_iff_left_of_imp fun hf hk => ?_)
    obtain ⟨_, -, ho⟩ := freed k hk
    nomatch hf.symm.trans ho

theorem keepsStage_discard (h : StageKept s) : StageKept (discardStaged s) := by
  have stage (k : Nat) (v : StageSlot) (hv : v.isFilled = false) (hf : v ≠ .free) :
      (discardStaged s).pac.stage[k]? = some v ↔ s.pac.stage[k]? = some v := by
    rw [discardStaged_pac_stage, List.getElem?_map, Option.map_eq_some_iff]
    constructor
    · rintro ⟨w, hw, hv'⟩
      split at hv'
      · exact absurd hv'.symm hf
      · exact hv' ▸ hw
    · intro hk
      exact ⟨v, hk, if_neg (Bool.eq_false_iff.mp hv)⟩
  have sessions (i : Slot) : (discardStaged s).pac.slots[i].session = s.pac.slots[i].session := by simp
  have owners (k : Nat) (o : StageOwner) : Owns (discardStaged s) k o ↔ Owns s k o := by
    unfold Owns
    rw [sessions]
  refine ⟨?_, fun k o => ?_, .nil, fun k => ?_, fun k => ?_⟩
  · rw [discardStaged_pac_stage, List.length_map]
    exact h.slots
  · rw [owners, stage k (.reserved o) rfl nofun]
    exact h.reserved k o
  · refine iff_of_false ?_ List.not_mem_nil
    rintro ⟨o, n, hk⟩
    rw [discardStaged_pac_stage, List.getElem?_map, Option.map_eq_some_iff] at hk
    obtain ⟨w, -, hw⟩ := hk
    split at hw
    · nomatch hw
    · subst hw
      rename_i kept
      exact kept rfl
  · refine Iff.trans ?_ (h.sending k)
    exact exists_congr fun o => exists_congr fun n => stage k (.sending o n) rfl nofun

/-- A stage region of FREE slots agrees with a part that holds no session, no FIFO and no delivery. -/
theorem stageKept_empty (stage : s.pac.stage = List.replicate s.cells.part.slots .free)
    (idle : ∀ i : Slot, s.pac.slots[i].session = none) (fifo : s.pac.fifo = []) (delivery : s.pac.delivery = none) :
    StageKept s := by
  have free (k : Nat) (v : StageSlot) (hk : s.pac.stage[k]? = some v) : v = .free := by
    rw [stage, List.getElem?_replicate] at hk
    split at hk
    · exact (Option.some.inj hk).symm
    · nomatch hk
  refine ⟨by rw [stage, List.length_replicate], fun k o => ?_, by rw [fifo]; exact .nil, fun k => ?_, fun k => ?_⟩
  · exact iff_of_false (fun hk => nomatch free k _ hk) (not_owns fun x hx => nomatch (idle o.slot).symm.trans hx)
  · rw [fifo]
    exact iff_of_false (fun ⟨o, n, hk⟩ => nomatch free k _ hk) List.not_mem_nil
  · rw [delivery]
    exact iff_of_false (fun ⟨o, n, hk⟩ => nomatch free k _ hk) nofun

theorem storeIdle_sessions (idle : storeIdle s = true) (i : Slot) : s.pac.slots[i].session = none := by
  simp only [storeIdle, Bool.and_eq_true] at idle
  obtain ⟨⟨-, sessions⟩, -⟩ := idle
  have all : ∀ i : Slot, i ∈ allSlots := by decide
  exact Option.isNone_iff_eq_none.mp (List.all_eq_true.mp sessions i (all i))

end

/-! ## Every move -/

theorem Move.keeps_stage {s t : State} (m : Move s t) (lawful : SessionsLawful s) (h : StageKept s) : StageKept t := by
  cases m with
  | quiet same =>
    have stage : t.pac.stage = s.pac.stage := congrArg Core.stage same
    have fifo : t.pac.fifo = s.pac.fifo := congrArg Core.fifo same
    have delivery : t.pac.delivery = s.pac.delivery := congrArg Core.delivery same
    have part : t.cells.part = s.cells.part := congrArg Core.part same
    refine ⟨stage ▸ part ▸ h.slots, fun k o => ?_, fifo ▸ h.nodup, stage ▸ fifo ▸ h.filled, stage ▸ delivery ▸ h.sending⟩
    rw [stage, h.reserved]
    exact ⟨owns_core same, owns_core same.symm⟩
  | reset presence activity clock =>
    exact stageKept_empty rfl (resetAll_session presence activity clock s) rfl rfl
  | repartition atReset idle allowed =>
    have sessions : ∀ i : Slot, s.pac.slots[i].session = none := storeIdle_sessions idle
    exact stageKept_empty rfl sessions rfl rfl
  | fall p =>
    exact ⟨h.slots, fun k o => (h.reserved k o).trans (owns_fallSessions p s k o).symm, h.nodup, h.filled, h.sending⟩
  | unready bay =>
    exact ⟨h.slots, fun k o => (h.reserved k o).trans (owns_fallSessions _ { s with pac.readySet := _ } k o).symm,
      h.nodup, h.filled, h.sending⟩
  | start i p peer tag nb bays now draining =>
    refine ⟨h.slots, fun k o => (h.reserved k o).trans (owns_replace (fun x hx => ?_) (fun y hy => ?_) k o).symm,
      h.nodup, h.filled, h.sending⟩
    · exact draining_outstanding (lawful i x hx) (draining x hx)
    · exact Option.some.inj hy ▸ rfl
  | finish i session draining =>
    refine ⟨h.slots, fun k o => (h.reserved k o).trans (owns_replace (v := none) (fun x hx => ?_) nofun k o).symm,
      h.nodup, h.filled, h.sending⟩
    obtain rfl := Option.some.inj (session.symm.trans hx)
    exact draining_outstanding (lawful i _ session) draining
  | halt i session => exact keepsStage_halt h session
  | grant i session ready bound free => exact keepsStage_grant h session bound free
  | accept i n session granted => exact keepsStage_accept h n (lawful i _ session) session granted
  | expire i session granted => exact keepsStage_expire h (lawful i _ session) session granted
  | send empty head filled => exact keepsStage_send h empty head filled
  | cut delivery sending => exact keepsStage_cut h delivery sending
  | sent delivery sending => exact keepsStage_sent h delivery sending
  | lose delivery other =>
    obtain ⟨o, n, hk⟩ := (h.sending _).mpr delivery
    exact absurd (by rw [List.getD_eq_getElem?_getD, hk]; rfl) (other o n)
  | discard => exact keepsStage_discard h
  | pop =>
    unfold popHeld
    split <;> exact ⟨h.slots, h.reserved, h.nodup, h.filled, h.sending⟩
  | write | append | fault | unlatch | box | ready => exact ⟨h.slots, h.reserved, h.nodup, h.filled, h.sending⟩

theorem Moves.keep_stage {s t : State} (m : Moves s t) (h : SessionsLawful s ∧ StageAgrees s) : StageAgrees t := by
  have kept : SessionsLawful t ∧ StageKept t := by
    induction m with
    | refl => exact ⟨h.1, (stageAgrees_iff s).mp h.2⟩
    | tail _ last ih => exact ⟨last.keeps_lawful ih.1, last.keeps_stage ih.1 ih.2⟩
  exact (stageAgrees_iff t).mpr kept.2

end Sys2Proof.Machine
end

section
/-! SUPPORT: the operations of the model as sequences of moves. -/

namespace Sys2Proof.Machine

/-! ## Operations that leave the core -/

section
variable {s : State}

@[simp] theorem core_raise (kind : NoticeKind) (detail : Detail) : (raise kind detail s).core = s.core := rfl

@[simp] theorem core_addOutcome (tag : Word16) (outcome : SessionOutcome) : (addOutcome tag outcome s).core = s.core :=
  core_eq_of_blocks (by simp) (by simp) (by simp) (by simp)

@[simp] theorem core_hostKick : (hostKick s).core = s.core :=
  core_eq_of_blocks (by simp) (by simp) (by simp) (by simp)

@[simp] theorem core_queueResponse (data : List Byte) : (queueResponse data s).core = s.core :=
  core_eq_of_blocks (by simp) (by simp) (by simp) (by simp)

@[simp] theorem core_handDirect (data : List Byte) : (handDirect data s).core = s.core :=
  core_eq_of_blocks (by simp) (by simp) (by simp) (by simp)

@[simp] theorem core_handReleased (data : List Byte) : (handReleased data s).core = s.core :=
  core_eq_of_blocks (by simp) (by simp) (by simp) (by simp)

@[simp] theorem core_respond (r : Request) (code : ResultCode) (data : List Byte) :
    (respond r code data s).core = s.core :=
  core_eq_of_blocks (by simp) (by simp) (by simp) (by simp)

@[simp] theorem core_buildNotices : (buildNotices s).core = s.core :=
  core_eq_of_blocks (by simp) (by simp) (by simp) (by simp)

@[simp] theorem core_lanKick : (lanKick s).core = s.core := by
  unfold lanKick
  repeat' split
  all_goals rfl

@[simp] theorem core_queueMsg (m : PacingMsg) : (queueMsg m s).core = s.core := by
  unfold queueMsg
  split
  · exact core_lanKick
  · rfl

@[simp] theorem core_declineFollowOn (x : Session) : (declineFollowOn x s).core = s.core := by
  unfold declineFollowOn
  split
  · exact core_queueMsg _
  · rfl

@[simp] theorem core_tryHead : (tryHead s).core = s.core :=
  core_eq_of_blocks (by simp) (by simp) (by simp) (by simp)

@[simp] theorem core_demand (set : BaySet) : (demand set s).core = s.core :=
  core_eq_of_blocks (by simp) (by simp) (by simp) (by simp)

@[simp] theorem core_buildAnswer (q : Question) : (buildAnswer q s).core = s.core := by
  unfold buildAnswer
  rw [core_lanKick]
  rfl

@[simp] theorem core_changeNeeded (gives takes : BaySet) : (changeNeeded gives takes s).core = s.core := rfl

@[simp] theorem core_answerQuestion (q : Question) : (answerQuestion q s).core = s.core := by
  unfold answerQuestion
  dsimp only
  split
  · rfl
  · split
    · rfl
    · split
      · rfl
      · exact core_buildAnswer q

@[simp] theorem core_forwardToLan (data : List Byte) : (forwardToLan data s).core = s.core := by
  unfold forwardToLan
  split
  · exact core_lanKick
  · rfl

@[simp] theorem core_latchWake (name : WakeName) (bays : BaySet) : (latchWake name bays s).core = s.core := by
  cases name <;> rfl

/-- The session of a slot replaced by one of the same account. -/
theorem core_onSlot {i : Slot} {f : SessionSlot → SessionSlot}
    (same : (f s.pac.slots[i]).session.map Session.account = s.pac.slots[i].session.map Session.account) :
    (onSlot i f s).core = s.core := by
  have accounts : (onSlot i f s).accounts = s.accounts := by
    funext j
    by_cases h : j = i
    · subst h
      simpa [State.accounts] using same
    · exact congrArg (fun slot : SessionSlot => slot.session.map Session.account) (getElem_vecMod_ne _ _ _ _ h)
  simp [State.core, accounts]

/-- The sessions of all slots replaced by ones of the same accounts. -/
theorem core_slots {slots : Vector SessionSlot 4}
    (same : ∀ i : Slot, slots[i].session.map Session.account = s.pac.slots[i].session.map Session.account) :
    ({ s with pac.slots := slots } : State).core = s.core := by
  have accounts : ({ s with pac.slots := slots } : State).accounts = s.accounts := funext same
  simp only [State.core, accounts]

end

/-! ## Shared operations -/

theorem Moves.start {s t : State} (m : Move s t) : Moves s t :=
  .single m

theorem Moves.next {s t u : State} (m : Moves s t) (last : Move t u) : Moves s u :=
  m.tail last

theorem Moves.andThen {s t u : State} (m : Moves s t) (n : Moves t u) : Moves s u :=
  m.trans n

theorem Moves.quiet {s t u : State} (m : Moves s t) (same : u.core = t.core) : Moves s u :=
  m.tail (.quiet same)

theorem Moves.after {s t u : State} (m : Moves t u) (same : t.core = s.core) : Moves s u :=
  m.head (.quiet same)

theorem moves_of_core {s t : State} (same : t.core = s.core) : Moves s t :=
  .single (.quiet same)

section
variable {s : State}

theorem startSession_moves (i : Slot) (gives : BaySet) (peer : MacAddr) (f : FollowOn)
    (draining : ∀ x, s.pac.slots[i].session = some x → x.draining = true) :
    Moves s (startSession i gives peer f s) := by
  refine .quiet (.start (.start i s.pac.profiles[f.profile] peer f.tag f.nb f.bays s.time.us draining)) ?_
  unfold startSession
  rw [core_demand, core_changeNeeded, core_queueMsg]

theorem haltSession_moves (i : Slot) (cause : HaltCause) : Moves s (haltSession i cause s) := by
  cases session : s.pac.slots[i].session with
  | none => rw [haltSession_idle session]
  | some x =>
    refine .quiet (.start (.halt i session)) ?_
    have left (n : SessionSlot → Nat) (t : State) :
        (onSlot i (fun slot => { session := none, leftBehind := n slot }) t).core =
          (onSlot i (fun slot => { slot with session := none }) t).core := by
      have accounts : (onSlot i (fun slot => { session := none, leftBehind := n slot }) t).accounts =
          (onSlot i (fun slot => { slot with session := none }) t).accounts := by
        funext j
        by_cases h : j = i
        · subst h
          simp [State.accounts]
        · simp only [State.accounts, onSlot_pac_slots, getElem_vecMod_ne _ _ _ _ h]
      simp only [State.core, accounts]
      rfl
    unfold haltSession
    rw [session]
    by_cases down : cause = .linkDown <;> simp [down, left]

theorem haltWhere_moves (p : Session → Bool) (cause : HaltCause) : Moves s (haltWhere p cause s) :=
  haltWhere_keeps (P := Moves s) (fun i _ m => m.andThen (haltSession_moves i cause)) p .refl

theorem arbitrate_moves : Moves s (arbitrate s) := by
  refine arbitrateN_keeps (P := Moves s) (fun i x k t session ready bound free m => ?_) _ s .refl
  exact (m.next (.grant i session ready bound free)).quiet (core_queueMsg _)

theorem startDelivery_moves : Moves s (startDelivery s) := by
  unfold startDelivery
  split
  · rename_i may
    simp only [Bool.and_eq_true, Option.isNone_iff_eq_none] at may
    obtain ⟨-, empty⟩ := may
    split
    · exact .refl
    · rename_i k rest head
      split
      · rename_i owner n filled
        have sent : Moves s { setStage k (.sending owner n) s with pac.fifo := rest, pac.delivery := some k } :=
          .start (.send empty head filled)
        exact ((sent.next (.write _ _ _)).next (.write _ _ _)).quiet core_hostKick
      · exact .refl
  · exact .refl

theorem returnDelivery_moves : Moves s (returnDelivery s) := by
  unfold returnDelivery
  split
  · exact .refl
  · rename_i k delivery
    split
    · rename_i owner n sending
      exact .start (.cut delivery sending)
    · rename_i other
      exact .start (.lose delivery other)

theorem completeSession_moves {i : Slot} {x : Session} (session : s.pac.slots[i].session = some x)
    (draining : x.draining = true) : Moves s (completeSession i x s) := by
  have told : Moves s (addOutcome x.tag .done (queueMsg (tallyMsg x.peer x.tag x.nb) s)) :=
    moves_of_core ((core_addOutcome ..).trans (core_queueMsg _))
  have session' : (addOutcome x.tag .done (queueMsg (tallyMsg x.peer x.tag x.nb) s)).pac.slots[i].session = some x := by
    simpa using session
  unfold completeSession
  dsimp only
  split
  · refine told.andThen (startSession_moves i _ _ _ fun y hy => ?_)
    obtain rfl := Option.some.inj (session'.symm.trans hy)
    exact draining
  · exact (told.next (.finish i session' draining)).quiet (core_changeNeeded ..)

theorem countDelivered_moves (i : Slot) : Moves s (countDelivered i s) := by
  unfold countDelivered
  dsimp only
  split
  · exact moves_of_core (core_onSlot rfl)
  · split
    · exact .refl
    · rename_i x session
      have counted : Moves s
          (onSlot i (fun t => { t with session := some { x with undelivered := x.undelivered - 1 } }) s) :=
        moves_of_core (core_onSlot (by rw [session]; rfl))
      split
      · rename_i complete
        exact counted.andThen (completeSession_moves (by simp) complete.1)
      · exact counted

theorem deliverySent_moves : Moves s (deliverySent s) := by
  unfold deliverySent
  split
  · exact .refl
  · rename_i k delivery
    split
    · rename_i owner n sending
      have sent : Moves s { setStage k .free s with pac.delivery := none } := .start (.sent delivery sending)
      exact ((sent.andThen (countDelivered_moves owner.slot)).andThen arbitrate_moves).andThen startDelivery_moves
    · rename_i other
      exact .start (.lose delivery other)

theorem holdFrame_moves (frame : List Byte) (cls : HeldClass) (entry : Option (Fin 64)) (arrival : Word32) :
    Moves s (holdFrame frame cls entry arrival s) := by
  unfold holdFrame
  split
  · exact moves_of_core rfl
  · rename_i latch
    split
    · exact moves_of_core rfl
    · split
      · exact moves_of_core rfl
      · rename_i room
        split
        · exact moves_of_core rfl
        · rename_i fits
          exact .start (.append frame cls entry arrival (Bool.eq_false_iff.mpr latch) (Nat.not_le.mp room)
            (Nat.not_lt.mp fits))

theorem release_moves : Moves s (release s) :=
  releaseN_keeps (P := Moves s) (fun _ _ t _ _ m => (m.next (.pop t)).quiet rfl)
    (fun _ _ _ _ _ _ m => m.quiet (core_handReleased _)) _ s .refl

theorem heldSent_moves : Moves s (heldSent s) :=
  Moves.andThen (t := { popHeld s with hold.sending := false }) (.quiet (.start (.pop s)) rfl) release_moves

theorem inEitherOrder_moves {f g : State → State} (hf : ∀ t, Moves t (f t)) (hg : ∀ t, Moves t (g t)) :
    Moves s (inEitherOrder f g s) := by
  have counted : Moves s { s with choices := s.choices + 1 } := moves_of_core rfl
  unfold inEitherOrder
  dsimp only
  split
  · exact (counted.andThen (hf _)).andThen (hg _)
  · exact (counted.andThen (hg _)).andThen (hf _)

/-! ## The power controller -/

theorem portDown_moves : Moves s (portDown s) := by
  unfold portDown
  split
  · refine .quiet (.after returnDelivery_moves ?_) (core_raise ..)
    rfl
  · exact .refl

theorem railOff_moves : Moves s (railOff s) :=
  .quiet (.after (portDown_moves (s := { s with pow.rst := true })) rfl) rfl

/-- The loss of the host link leaves the sessions. -/
theorem railOff_slots : (railOff s).pac.slots = s.pac.slots := by
  unfold railOff portDown returnDelivery
  dsimp only
  split
  · dsimp only [raise_pac]
    split
    · rfl
    · split <;> rfl
  · rfl

theorem leaveRun_moves : Moves s (leaveRun s) :=
  Moves.quiet (.start (.fall (fun _ => true) s)) rfl

theorem grounded_leaveRun : Grounded (leaveRun s) :=
  grounded_fallSessions { s with pow.heartbeatTimer := none, share.active := false, share.timer := none }

theorem startWake_moves (asleep : s.pow.box ≠ .run) : Moves s (startWake s) := by
  refine .quiet (.start (.box (.waking .railSettle) fun run => absurd run asleep)) ?_
  unfold startWake enterRailSettle State.core State.accounts
  simp

theorem wakeEvent_moves (name : WakeName) (bays : BaySet) : Moves s (wakeEvent name bays s) := by
  unfold wakeEvent
  split
  · split
    · exact moves_of_core (core_latchWake ..)
    · rename_i asleep
      refine (moves_of_core (core_latchWake name bays)).andThen (startWake_moves ?_)
      have box : (latchWake name bays s).pow.box = s.pow.box := by cases name <;> rfl
      rw [box, asleep]
      nofun
    · exact .refl
    · exact .refl
  · exact .refl

theorem sleepReached_moves : Moves s (sleepReached s) := by
  have fold : ∀ (l : List Bay) (t : State), Moves s t →
      Moves s (l.foldl (fun t bay => if s.bay.bays[bay].state = .ready then reportUnready bay t else t) t) := by
    intro l
    induction l with
    | nil => exact fun t m => m
    | cons b bs ih =>
      intro t m
      refine ih _ ?_
      beta_reduce
      split
      · exact m.next (.unready b t)
      · exact m
  exact fold _ _ (moves_of_core rfl)

theorem completeEntry_moves (entry : s.pow.box = .sleepEntry) : Moves s (completeEntry s) := by
  have box : (railOff s).pow.box = s.pow.box := by simp [railOff]
  have asleep : Moves s { railOff s with pow.box := .sleep, pow.entryTimer := none } :=
    (railOff_moves.next (.box .sleep fun run => by rw [box, entry] at run; nomatch run)).quiet rfl
  unfold completeEntry
  dsimp only
  split
  · refine (asleep.andThen sleepReached_moves).andThen (startWake_moves ?_)
    simp
  · exact asleep.andThen sleepReached_moves

theorem releaseAndNotify_moves : Moves s (releaseAndNotify s) := by
  unfold releaseAndNotify
  split
  · exact inEitherOrder_moves (fun _ => release_moves) fun _ => moves_of_core core_buildNotices
  · exact (moves_of_core core_buildNotices).andThen release_moves

theorem runReached_moves : Moves s (runReached s) := by
  have run : Moves s { s with pow.box := .run } := .start (.box .run fun _ => .inl rfl)
  unfold runReached
  dsimp only
  refine Moves.andThen ?_ startDelivery_moves
  refine Moves.andThen ?_ releaseAndNotify_moves
  split
  · exact (run.next (.unlatch _)).quiet rfl
  · exact (run.next (.unlatch _)).quiet rfl

theorem wakeFault_moves (asleep : s.pow.box ≠ .run) : Moves s (wakeFault s) := by
  have flushed : Moves s (flushHeld { s with pow.box := .sleep, pow.latch := true, pow.retryTimer := none }) :=
    Moves.quiet (.start (.fault asleep)) rfl
  exact (((flushed.andThen (haltWhere_moves _ _)).next (.discard _)).andThen sleepReached_moves).andThen arbitrate_moves

theorem enterMinute_moves : Moves s (enterMinute s) := by
  unfold enterMinute
  split
  · dsimp only
    split
    · exact moves_of_core rfl
    · split
      · exact moves_of_core rfl
      · exact .after (wakeEvent_moves .alarm 0) rfl
  · exact .refl

end

end Sys2Proof.Machine
end

section
/-! SUPPORT and proofs: every step as a sequence of moves, and with it the hold ring (O56) and the sessions (O58). -/

namespace Sys2Proof.Machine

/-! ## Resets -/

section
variable {s : State}

theorem holdReset_moves (presence activity : BaySet) (clock : Clock) (ms : Nat) :
    Moves s (holdReset presence activity clock ms s) := by
  refine .quiet (.next (.start (.reset presence activity clock s)) (.box .sleep fun _ => .inr fun i x hx => ?_)) rfl
  nomatch (resetAll_session presence activity clock s i).symm.trans hx

theorem endReset_moves (ms : Nat) : Moves s (endReset ms s) :=
  .start (.reset ..)

theorem enterRetryOff_moves (down : s.pow.box = .run → Grounded s) : Moves s (enterRetryOff s) := by
  refine .quiet (railOff_moves.next (.box (.waking .retryOff) fun run => .inr ?_)) rfl
  have box : (railOff s).pow.box = s.pow.box := by simp [railOff]
  have slots := railOff_slots (s := s)
  intro i x hx
  rw [slots] at hx
  exact down (box.symm.trans run) i x hx

/-! ## A LAN frame -/

theorem dispatchPass_moves (f : FrameInHand) (m : MatchResult) : Moves s (dispatchPass f m s) := by
  have held := holdFrame_moves (s := s) f.frame m.action.heldClass m.entry f.arrival
  unfold dispatchPass
  dsimp only
  split
  · split
    · exact held
    · exact moves_of_core (core_handDirect _)
  · exact held
  · exact held
  · split
    · exact held
    · exact .refl

@[simp] theorem core_shareReport : (shareReport s).core = s.core := by
  unfold shareReport
  split <;> rfl

@[simp] theorem core_handQuestion (q : Question) : (handQuestion q s).core = s.core := by
  unfold handQuestion
  repeat' split
  all_goals rfl

theorem dispatch_moves (f : FrameInHand) (m : MatchResult) : Moves s (dispatch f m s) := by
  unfold dispatch
  cases m.action with
  | pass => exact dispatchPass_moves f m
  | share =>
    dsimp only
    split
    · exact (dispatchPass_moves f m).quiet ((core_demand _).trans core_shareReport)
    · exact dispatchPass_moves f m
  | backup profile =>
    dsimp only
    split
    · exact moves_of_core rfl
    · exact dispatchPass_moves f m
  | proxy answer =>
    dsimp only
    split
    · exact dispatchPass_moves f m
    · exact moves_of_core (core_handQuestion _)
  | drop => exact .refl

theorem raiseWakes_moves (box : BoxState) (k : FrameKey) (m : MatchResult) : Moves s (raiseWakes box k m s) := by
  unfold raiseWakes
  dsimp only
  split
  · split
    · exact inEitherOrder_moves (fun _ => wakeEvent_moves _ _) fun _ => wakeEvent_moves _ _
    · exact (wakeEvent_moves _ _).andThen (wakeEvent_moves _ _)
  · split
    · exact wakeEvent_moves _ _
    · split
      · exact wakeEvent_moves _ _
      · exact .refl

theorem core_cls (c : Classifier) : ({ s with cls := c } : State).core = s.core := rfl

theorem classifyFrame_moves (frame : List Byte) : Moves s (classifyFrame frame s) := by
  unfold classifyFrame
  dsimp only
  exact .andThen (.after (dispatch_moves _ _) (core_cls _)) (raiseWakes_moves _ _ _)

/-! ## Bays -/

theorem presenceReport_moves (edge : PresenceEdge) : Moves s (presenceReport edge s) := by
  unfold presenceReport
  split
  · exact wakeEvent_moves _ _
  · exact .refl

theorem withReport_moves (edge : PresenceEdge) {other : State → State} (h : ∀ t, Moves t (other t)) :
    Moves s (withReport edge other s) := by
  unfold withReport
  split
  · exact inEitherOrder_moves (fun _ => presenceReport_moves edge) h
  · exact (presenceReport_moves edge).andThen (h _)

theorem takeDown_moves (bay : Bay) (target : BayState) : Moves s (takeDown bay target s) := by
  have down : Moves s (onBay bay (BayRecord.unpowered target) s) := moves_of_core rfl
  unfold takeDown
  dsimp only
  split
  · split
    · exact .quiet (.quiet down rfl) core_tryHead
    · exact .quiet down rfl
  · exact down.quiet core_tryHead
  · exact down.next (.unready bay _)
  · exact down
  · exact down

theorem bayLost_moves (bay : Bay) : Moves s (bayLost bay s) :=
  (haltWhere_moves _ _).andThen arbitrate_moves

/-! ## Sessions -/

theorem slotOf_session {p : Pacing} {peer : MacAddr} {i : Slot} {x : Session} (h : p.slotOf peer = some (i, x)) :
    p.slots[i].session = some x := by
  obtain ⟨j, -, hj⟩ := List.exists_of_findSome?_eq_some h
  split at hj
  · rename_i y hy
    split at hj
    · simp only [Option.some.injEq, Prod.mk.injEq] at hj
      obtain ⟨rfl, rfl⟩ := hj
      exact hy
    · nomatch hj
  · nomatch hj

theorem takeHandover_moves (message : Option MsgKind) {act : Handover → State → State}
    (acting : ∀ h t, Moves t (act h t)) : Moves s (takeHandover message act s) := by
  unfold takeHandover
  split
  · exact .refl
  · split
    · exact .after (acting _ _) rfl
    · exact .refl

@[simp] theorem core_declineOffer (h : Handover) (reason : DeclineReason) : (declineOffer h reason s).core = s.core :=
  core_queueMsg _

theorem takeOffer_moves (h : Handover) : Moves s (takeOffer h s) := by
  unfold takeOffer
  split
  · exact moves_of_core (core_declineOffer ..)
  · split
    · exact moves_of_core (core_declineOffer ..)
    · split
      · exact moves_of_core (core_declineOffer ..)
      · split
        · rename_i i x session
          split
          · exact moves_of_core (core_onSlot (by rw [slotOf_session session]; rfl))
          · exact moves_of_core (core_declineOffer ..)
        · split
          · exact moves_of_core (core_declineOffer ..)
          · rename_i i idle
            have none := List.find?_some idle
            refine startSession_moves i 0 h.peer h.asOffer fun x hx => ?_
            rw [hx] at none
            nomatch none

theorem acceptBlock_moves {i : Slot} {x : Session} {g : Grant} (h : Handover)
    (session : s.pac.slots[i].session = some x) (granted : g ∈ x.outstanding) : Moves s (acceptBlock i x g h s) := by
  unfold acceptBlock
  dsimp only
  generalize hw : writeCells _ _ (writeCells _ _ s) = w
  have written : Moves s w := hw ▸ .next (.start (.write _ _ _)) (.write _ _ _)
  have pac : w.pac = s.pac := hw ▸ rfl
  have accepted := written.next (.accept (s := w) i h.value (pac ▸ session) granted)
  refine .andThen (accepted.quiet ?_) startDelivery_moves
  rw [pac]
  rfl

theorem takeBlock_moves (h : Handover) : Moves s (takeBlock h s) := by
  unfold takeBlock
  split
  · exact moves_of_core rfl
  · rename_i i x session
    split
    · split
      · rename_i g granted
        exact acceptBlock_moves h (slotOf_session session) (List.mem_of_find?_eq_some granted)
      · exact moves_of_core (core_onSlot (by rw [slotOf_session session]; rfl))
    · exact moves_of_core rfl

theorem takeWithdraw_moves (h : Handover) : Moves s (takeWithdraw h s) := by
  unfold takeWithdraw
  split
  · exact moves_of_core rfl
  · rename_i i x session
    split
    · exact (haltSession_moves _ _).andThen arbitrate_moves
    · split
      · exact moves_of_core (core_onSlot (by rw [slotOf_session session]; rfl))
      · exact moves_of_core rfl

theorem haltIf_moves (cond : State → Session → Bool) (slot : Slot) (cause : HaltCause) :
    Moves s (haltIf cond slot cause s) := by
  unfold haltIf
  split
  · split
    · exact (haltSession_moves _ _).andThen arbitrate_moves
    · exact .refl
  · exact .refl

theorem expireGrant_moves {i : Slot} {x : Session} {g : Grant} (session : s.pac.slots[i].session = some x)
    (granted : g ∈ x.outstanding) (running : x.draining = false) : Moves s (expireGrant i x g s) := by
  have expired := Moves.start (.expire i session granted running)
  unfold expireGrant
  dsimp only
  split
  · exact (expired.andThen (haltSession_moves _ _)).andThen arbitrate_moves
  · exact expired.andThen arbitrate_moves

/-! ## Links and time -/

theorem inAnyOrder_moves {f g h : State → State} (hf : ∀ t, Moves t (f t)) (hg : ∀ t, Moves t (g t))
    (hh : ∀ t, Moves t (h t)) : Moves s (inAnyOrder f g h s) := by
  have counted : Moves s { s with choices := s.choices + 3 } := moves_of_core rfl
  unfold inAnyOrder
  dsimp only
  split
  · exact ((counted.andThen (hf _)).andThen (hg _)).andThen (hh _)
  · exact ((counted.andThen (hf _)).andThen (hh _)).andThen (hg _)
  · exact ((counted.andThen (hh _)).andThen (hf _)).andThen (hg _)
  · exact ((counted.andThen (hh _)).andThen (hg _)).andThen (hf _)
  · exact ((counted.andThen (hg _)).andThen (hh _)).andThen (hf _)
  · exact ((counted.andThen (hg _)).andThen (hf _)).andThen (hh _)

theorem reportSent_moves (sent : HostSending) : Moves s (reportSent sent s) := by
  cases sent with
  | response wire | direct wire => exact .refl
  | held wire => exact heldSent_moves
  | deliver wire => exact deliverySent_moves

theorem core_markStale : (markStale s).core = s.core := by
  have cells : (s.hold.records.map (HeldRecord.aged s.hold.limit s.time.ms)).map HeldRecord.cells =
      s.hold.records.map HeldRecord.cells := by
    simp [Function.comp_def, HeldRecord.aged_eq]
  simp only [State.core, markStale, cells]
  rfl

theorem core_staleAt (position : Nat) :
    ({ s with hold.records := s.hold.records.modify position (HeldRecord.aged s.hold.limit s.time.ms) } : State).core =
      s.core := by
  have cells : (s.hold.records.modify position (HeldRecord.aged s.hold.limit s.time.ms)).map HeldRecord.cells =
      s.hold.records.map HeldRecord.cells := by
    refine List.ext_getElem? fun k => ?_
    rw [List.getElem?_map, List.getElem?_modify, List.getElem?_map]
    split <;> simp [Function.comp_def, HeldRecord.aged_eq]
  simp only [State.core, cells]
  rfl

theorem core_tickTimers : (tickTimers s).core = s.core := by
  refine Eq.trans ?_ (core_slots (s := s) (slots := (tickTimers s).pac.slots) fun i => ?_)
  · rfl
  · have account (x : Session) : (x.tick s).account = x.account := by
      unfold Session.tick
      split <;> rfl
    simp [tickTimers, Function.comp_def, account]

theorem tickClock_moves : Moves s (tickClock s) := by
  obtain ⟨-, eq⟩ | ⟨-, -, eq⟩ | ⟨-, -, eq, -⟩ := tickClock_cases s
  · rw [eq]
  · rw [eq]
    exact moves_of_core rfl
  · rw [eq]
    exact enterMinute_moves.quiet rfl

theorem idle_moves : Moves s (idle s) := by
  unfold idle
  split
  · exact endReset_moves _
  · unfold tick
    dsimp only
    split
    · exact .after tickClock_moves (core_tickTimers.trans core_markStale)
    · exact moves_of_core rfl

/-! ## Requests -/

theorem takeRequest_moves {kind : ReqKind} {act : Request → List Byte → State → Reply} {after : State → State}
    (acting : ∀ r p t, Moves t (act r p t).state) (following : ∀ t, Moves t (after t)) :
    Moves s (takeRequest kind act after s) :=
  takeRequest_keeps (P := Moves s) (fun _ _ _ m => m.quiet rfl) (fun _ _ _ _ m => m.quiet (core_respond ..))
    (fun r p t _ m => m.andThen (acting r p t)) (fun t m => m.andThen (following t)) .refl

theorem takePlain_moves {kind : ReqKind} {act : List Byte → State → Reply} (acting : ∀ p t, Moves t (act p t).state) :
    Moves s (takePlain kind act s) :=
  takeRequest_moves (fun _ p t => acting p t) fun _ => .refl

/-- A request whose rule leaves the core. -/
theorem takePlain_quiet {kind : ReqKind} {act : List Byte → State → Reply}
    (acting : ∀ p t, (act p t).state.core = t.core) : Moves s (takePlain kind act s) :=
  takePlain_moves fun p t => moves_of_core (acting p t)

theorem core_takeUnknown : (takeUnknown s).core = s.core := by
  have taken (r : Request) (rest : List (List Byte)) : (dequeue r rest s).core = s.core :=
    core_eq_of_blocks rfl rfl rfl rfl
  unfold takeUnknown
  split
  · rfl
  · split
    · rfl
    · split
      · rfl
      · split
        · rw [core_respond, taken]
        · exact taken _ _

theorem core_discardShort : (discardShort s).core = s.core := by
  unfold discardShort
  split
  · rfl
  · split
    · exact core_eq_of_blocks rfl rfl rfl rfl
    · rfl

section
variable (p : List Byte)

theorem core_storeEntries (es : List FlowEntry) : (storeEntries es s).state.core = s.core :=
  core_eq_of_blocks rfl rfl rfl rfl

theorem core_actLoadFlows : (actLoadFlows p s).state.core = s.core := by
  unfold actLoadFlows
  dsimp only
  split
  · split
    · rw [core_storeEntries]
      exact core_eq_of_blocks rfl rfl rfl rfl
    · rfl
  · rfl

theorem core_actContinueFlows : (actContinueFlows p s).state.core = s.core := by
  unfold actContinueFlows
  split
  · exact core_storeEntries _
  · rfl

theorem core_actSettleFlows : (actSettleFlows p s).state.core = s.core :=
  core_eq_of_blocks rfl rfl rfl rfl

theorem core_actUnsettleFlows : (actUnsettleFlows p s).state.core = s.core :=
  core_eq_of_blocks rfl rfl rfl rfl

theorem core_actReadFlow : (actReadFlow p s).state.core = s.core := by
  unfold actReadFlow
  dsimp only
  repeat' split
  all_goals rfl

theorem core_actReadFlowStatus : (actReadFlowStatus p s).state.core = s.core := by
  unfold actReadFlowStatus
  split
  · exact core_eq_of_blocks rfl rfl rfl rfl
  · rfl

theorem core_actSetDefaultAction : (actSetDefaultAction p s).state.core = s.core := by
  unfold actSetDefaultAction
  split
  · exact core_eq_of_blocks rfl rfl rfl rfl
  · exact core_eq_of_blocks rfl rfl rfl rfl
  · rfl

theorem core_actReadPartition : (actReadPartition p s).state.core = s.core := rfl

theorem core_actClearAnswer : (actClearAnswer p s).state.core = s.core := by
  unfold actClearAnswer
  split
  · exact core_eq_of_blocks rfl rfl rfl rfl
  · rfl

theorem core_actReadAnswer : (actReadAnswer p s).state.core = s.core := by
  unfold actReadAnswer
  dsimp only
  split
  · dsimp only [Reply.ok]
    split
    · exact core_eq_of_blocks rfl rfl rfl rfl
    · rfl
  · rfl

theorem core_pow {power : Power} (latch : power.latch = s.pow.latch) (box : power.box = s.pow.box) :
    ({ s with pow := power } : State).core = s.core := by
  simp only [State.core, latch, box]
  rfl

theorem core_actReady (r : Request) : (actReady r p s).state.core = s.core :=
  core_pow rfl rfl

theorem core_actHeartbeat : (actHeartbeat p s).state.core = s.core := by
  dsimp only [actHeartbeat, Reply.ok]
  split
  · rfl
  · exact core_pow rfl rfl

theorem core_actSetWake : (actSetWake p s).state.core = s.core := by
  unfold actSetWake
  split
  · rename_i name arm bays _ _ _
    split
    · rfl
    · exact core_pow (by cases name <;> rfl) (by cases name <;> rfl)
  · rfl

theorem core_actReadWake : (actReadWake p s).state.core = s.core := rfl

theorem core_actSetClock : (actSetClock p s).state.core = s.core :=
  core_pow rfl rfl

theorem core_actSetAlarms : (actSetAlarms p s).state.core = s.core :=
  core_pow rfl rfl

theorem core_actSetTiming : (actSetTiming p s).state.core = s.core :=
  core_pow rfl rfl

theorem core_hold {hold : HoldQueue} (records : hold.records = s.hold.records) :
    ({ s with hold := hold } : State).core = s.core := by
  simp only [State.core, records]
  rfl

theorem core_actReadHold : (actReadHold p s).state.core = s.core := by
  dsimp only [actReadHold, Reply.ok]
  split
  · exact core_hold rfl
  · rfl

theorem core_actClearHold : (actClearHold p s).state.core = s.core :=
  core_hold rfl

theorem core_actSpinUp : (actSpinUp p s).state.core = s.core := by
  unfold actSpinUp
  split
  · rfl
  · exact core_demand _

theorem core_actSetBays : (actSetBays p s).state.core = s.core := by
  unfold actSetBays
  split
  · rfl
  · split
    · rfl
    · exact core_eq_of_blocks rfl rfl rfl rfl

theorem core_actReadBays : (actReadBays p s).state.core = s.core := rfl

theorem core_profiles (profiles : Vector Profile 4) : ({ s with pac.profiles := profiles } : State).core = s.core := rfl

theorem core_actSetProfile : (actSetProfile p s).state.core = s.core := by
  unfold actSetProfile
  split
  · split
    · rfl
    · exact core_profiles _
  · rfl

theorem core_clearCounts (i : Slot) : (clearCounts i s).core = s.core := by
  unfold clearCounts
  rw [core_onSlot]
  · rfl
  · cases h : s.pac.slots[i].session <;> simp [Session.account]

theorem core_actReadSession : (actReadSession p s).state.core = s.core := by
  unfold actReadSession
  split
  · dsimp only [Reply.ok]
    split
    · exact core_clearCounts _
    · rfl
  · rfl

theorem core_actSetShare : (actSetShare p s).state.core = s.core :=
  core_eq_of_blocks rfl rfl rfl rfl

theorem core_actSetNotices (r : Request) : (actSetNotices r p s).state.core = s.core := by
  unfold actSetNotices
  split
  · exact core_eq_of_blocks rfl rfl rfl rfl
  · rfl

theorem core_actReadNotices : (actReadNotices p s).state.core = s.core :=
  core_eq_of_blocks rfl rfl rfl rfl

theorem core_actProgramRetained (r : Request) : (actProgramRetained r p s).state.core = s.core := by
  unfold actProgramRetained
  split
  · split
    · rfl
    · split
      · rfl
      · split
        · rfl
        · exact core_eq_of_blocks rfl rfl rfl rfl
  · rfl

theorem core_actReadRetained : (actReadRetained p s).state.core = s.core := by
  unfold actReadRetained
  split <;> rfl

theorem actSetPartition_moves : Moves s (actSetPartition p s).state := by
  unfold actSetPartition
  dsimp only
  split
  · exact .refl
  · rename_i allowed
    split
    · exact .refl
    · rename_i idle
      exact .start (.repartition _ (by simpa using idle) (by simpa using allowed))

theorem actLoadAnswer_moves : Moves s (actLoadAnswer p s).state := by
  have loaded (i : Fin 16) (f : AnswerRecord → AnswerRecord) (address : Nat) (bytes : List Byte) :
      Moves s (onRecord i f (writeCells address bytes s)) :=
    .quiet (.start (.write address bytes s)) (core_eq_of_blocks rfl rfl rfl rfl)
  unfold actLoadAnswer
  dsimp only
  split
  · split
    · exact .refl
    · split
      · exact .refl
      · split
        · exact .refl
        · split
          · exact .refl
          · split
            · exact .refl
            · split
              · exact .refl
              · exact loaded _ _ _ _
  · exact .refl

theorem actSleep_moves : Moves s (actSleep p s).state := by
  unfold actSleep
  split
  · exact .quiet (.next leaveRun_moves (.box .sleepEntry fun _ => .inr grounded_leaveRun)) rfl
  · exact .refl

theorem actSpinDown_moves : Moves s (actSpinDown p s).state := by
  unfold actSpinDown
  split
  · dsimp only
    split
    · exact .refl
    · split
      · exact .refl
      · exact takeDown_moves _ _
  · exact .refl

theorem actHaltSession_moves : Moves s (actHaltSession p s).state := by
  unfold actHaltSession
  split
  · dsimp only
    split
    · exact .refl
    · split
      · exact (haltSession_moves _ _).andThen arbitrate_moves
      · exact .refl
  · exact .refl

end

/-! ## The commands -/

theorem Moves.of_next {t u : State} (m : Moves s t) (h : (Host.Outcome.next t : Host.Outcome State Fault Refusal) = .next u) :
    Moves s u := by
  cases h
  exact m

/-- Every command is a sequence of moves. -/
theorem exec_moves {c : Instr} {t : State} (h : exec c s = .next t) : Moves s t := by
  cases c with
  | powerOn presence activity => exact (holdReset_moves ..).of_next h
  | panelReset presence activity ms => exact (holdReset_moves ..).of_next h
  | lanFrameTaken frame =>
    refine Moves.of_next ?_ h
    split
    · exact classifyFrame_moves frame
    · exact .refl
  | questionTaken =>
    refine Moves.of_next ?_ h
    split
    · exact .refl
    · exact moves_of_core ((core_answerQuestion _).trans (core_eq_of_blocks rfl rfl rfl rfl))
  | holdoffExpiry record =>
    refine Moves.of_next ?_ h
    split
    · exact moves_of_core (core_eq_of_blocks rfl rfl rfl rfl)
    · exact .refl
  | offer => exact (takeHandover_moves _ fun h _ => takeOffer_moves h).of_next h
  | block => exact (takeHandover_moves _ fun h _ => takeBlock_moves h).of_next h
  | withdraw => exact (takeHandover_moves _ fun h _ => takeWithdraw_moves h).of_next h
  | pacingFrameMalformed => exact (takeHandover_moves none (act := fun _ t => protocolError t) fun _ _ => moves_of_core rfl).of_next h
  | grantIssue => exact arbitrate_moves.of_next h
  | seqExhausted slot => exact (haltIf_moves ..).of_next h
  | grantExpiry slot seq =>
    refine Moves.of_next ?_ h
    split
    · exact .refl
    · rename_i x session
      split
      · rename_i g granted
        split
        · rename_i due
          exact expireGrant_moves session (List.mem_of_find?_eq_some granted) due.1
        · exact .refl
      · exact .refl
  | stallExpiry slot => exact (haltIf_moves ..).of_next h
  | shareWindowExpiry =>
    refine Moves.of_next ?_ h
    split
    · exact moves_of_core (core_eq_of_blocks rfl rfl rfl rfl)
    · exact .refl
  | recordStale position => exact (moves_of_core (core_staleAt position)).of_next h
  | hostDownAsserted =>
    refine Moves.of_next ?_ h
    split
    · rename_i entry
      exact completeEntry_moves entry
    · exact .refl
  | entryDeadlineExpiry =>
    refine Moves.of_next ?_ h
    split
    · rename_i due
      exact .after (completeEntry_moves due.1) (core_raise ..)
    · exact .refl
  | stabilizationExpiry =>
    refine Moves.of_next ?_ h
    split
    · rename_i due
      refine .quiet (.start (.box (.waking .hostBoot) fun run => ?_)) rfl
      nomatch due.1.symm.trans run
    · exact .refl
  | bootDeadlineExpiry =>
    refine Moves.of_next ?_ h
    split
    · rename_i due
      exact enterRetryOff_moves fun run => by nomatch due.1.symm.trans run
    · exact .refl
  | retryOffExpiry =>
    refine Moves.of_next ?_ h
    split
    · rename_i due
      have asleep : s.pow.box ≠ .run := fun run => by nomatch due.1.symm.trans run
      split
      · exact .quiet (.start (.box (.waking .railSettle) fun run => absurd run asleep)) rfl
      · split
        · exact wakeFault_moves asleep
        · exact .refl
    · exact .refl
  | heartbeatLapse =>
    refine Moves.of_next ?_ h
    split
    · exact .quiet (.andThen leaveRun_moves (enterRetryOff_moves fun _ => grounded_leaveRun)) rfl
    · exact .refl
  | buttonEvent edge =>
    refine Moves.of_next ?_ h
    split
    · split
      · exact moves_of_core rfl
      · exact wakeEvent_moves _ _
    · exact .refl
  | minuteEntered =>
    refine Moves.of_next ?_ h
    split
    · exact enterMinute_moves
    · exact .refl
  | bayInsertion bay =>
    refine Moves.of_next ?_ h
    split
    · dsimp only
      split
      · exact .after (withReport_moves _ fun _ => moves_of_core (core_demand _)) rfl
      · exact .after (presenceReport_moves _) rfl
    · exact .refl
  | bayRemoval bay =>
    refine Moves.of_next ?_ h
    dsimp only
    split
    · exact .refl
    · have taken := Moves.quiet (takeDown_moves (s := s) bay .absent)
        (u := raise .bayChange (.bayChange bay .remove s.bay.bays[bay].state)
          (onBay bay (fun b => { b with present := false }) (takeDown bay .absent s))) rfl
      split
      · exact taken.andThen (withReport_moves _ fun _ => bayLost_moves bay)
      · exact taken.andThen (presenceReport_moves _)
  | spinExpiry bay =>
    refine Moves.of_next ?_ h
    split
    · exact .quiet (.after (.start (.ready bay _)) rfl) core_tryHead
    · exact .refl
  | idleExpiry bay =>
    refine Moves.of_next ?_ h
    split
    · exact .after (.start (.unready bay _)) rfl
    · exact .refl
  | activityEdge bay edge =>
    refine Moves.of_next ?_ h
    split
    · exact moves_of_core rfl
    · exact .refl
  | lanLinkDown =>
    refine Moves.of_next ?_ h
    split
    · refine .quiet (.after (haltWhere_moves _ _) ?_) (core_raise ..)
      rfl
    · exact .refl
  | lanLinkUp =>
    refine Moves.of_next ?_ h
    split
    · exact .refl
    · exact moves_of_core (core_lanKick.trans rfl)
  | lanFrameSent =>
    refine Moves.of_next ?_ h
    split
    · exact .refl
    · exact moves_of_core (core_lanKick.trans rfl)
    · exact moves_of_core (core_lanKick.trans rfl)
    · exact moves_of_core (core_lanKick.trans rfl)
  | hostFrameReceived frame =>
    refine Moves.of_next ?_ h
    dsimp only
    split
    · split
      · split
        · exact moves_of_core (core_eq_of_blocks rfl rfl rfl rfl)
        · exact .refl
      · exact moves_of_core (core_forwardToLan _)
    · exact .refl
  | hPortUp =>
    refine Moves.of_next ?_ h
    split
    · have up : Moves s (hostKick (raise .linkChange (.linkChange .host true) { s with host.up := true })) :=
        moves_of_core (core_hostKick.trans rfl)
      dsimp only
      split
      · exact up.andThen (inAnyOrder_moves (fun _ => moves_of_core core_buildNotices) (fun _ => release_moves)
          fun _ => startDelivery_moves)
      · exact up
    · exact .refl
  | hPortDown => exact portDown_moves.of_next h
  | hostLinkFrameSent =>
    refine Moves.of_next ?_ h
    split
    · exact .refl
    · rename_i f _
      have free : ({ s with host.sending := none } : State).core = s.core := core_eq_of_blocks rfl rfl rfl rfl
      have sent := (Moves.after (reportSent_moves f) free).quiet core_hostKick
      dsimp only
      split
      · exact sent.quiet core_buildNotices
      · exact sent
  | noticeBuild => exact (moves_of_core core_buildNotices).of_next h
  | programmingComplete =>
    refine Moves.of_next ?_ h
    split
    · exact .refl
    · dsimp only
      split
      · exact moves_of_core ((core_queueResponse _).trans (core_eq_of_blocks rfl rfl rfl rfl))
      · exact moves_of_core (core_eq_of_blocks rfl rfl rfl rfl)
  | programResponseBuilt =>
    refine Moves.of_next ?_ h
    split
    · exact .refl
    · split
      · exact moves_of_core ((core_queueResponse _).trans (core_eq_of_blocks rfl rfl rfl rfl))
      · exact .refl
  | unknownRequest => exact (moves_of_core core_takeUnknown).of_next h
  | mgmtFrameTooShort => exact (moves_of_core core_discardShort).of_next h
  | loadFlows => exact (takePlain_quiet fun p _ => core_actLoadFlows p).of_next h
  | continueFlows => exact (takePlain_quiet fun p _ => core_actContinueFlows p).of_next h
  | settleFlows => exact (takePlain_quiet fun p _ => core_actSettleFlows p).of_next h
  | unsettleFlows => exact (takePlain_quiet fun p _ => core_actUnsettleFlows p).of_next h
  | readFlow => exact (takePlain_quiet fun p _ => core_actReadFlow p).of_next h
  | readFlowStatus => exact (takePlain_quiet fun p _ => core_actReadFlowStatus p).of_next h
  | setDefaultAction => exact (takePlain_quiet fun p _ => core_actSetDefaultAction p).of_next h
  | readPartition => exact (takePlain_quiet fun p _ => core_actReadPartition p).of_next h
  | clearAnswer => exact (takePlain_quiet fun p _ => core_actClearAnswer p).of_next h
  | readAnswer => exact (takePlain_quiet fun p _ => core_actReadAnswer p).of_next h
  | heartbeat => exact (takePlain_quiet fun p _ => core_actHeartbeat p).of_next h
  | setWake => exact (takePlain_quiet fun p _ => core_actSetWake p).of_next h
  | readWake => exact (takePlain_quiet fun p _ => core_actReadWake p).of_next h
  | setClock => exact (takePlain_quiet fun p _ => core_actSetClock p).of_next h
  | setAlarms => exact (takePlain_quiet fun p _ => core_actSetAlarms p).of_next h
  | setTiming => exact (takePlain_quiet fun p _ => core_actSetTiming p).of_next h
  | readHold => exact (takePlain_quiet fun p _ => core_actReadHold p).of_next h
  | clearHold => exact (takePlain_quiet fun p _ => core_actClearHold p).of_next h
  | spinUp => exact (takePlain_quiet fun p _ => core_actSpinUp p).of_next h
  | setBays => exact (takePlain_quiet fun p _ => core_actSetBays p).of_next h
  | readBays => exact (takePlain_quiet fun p _ => core_actReadBays p).of_next h
  | setProfile => exact (takePlain_quiet fun p _ => core_actSetProfile p).of_next h
  | readSession => exact (takePlain_quiet fun p _ => core_actReadSession p).of_next h
  | setShare => exact (takePlain_quiet fun p _ => core_actSetShare p).of_next h
  | readNotices => exact (takePlain_quiet fun p _ => core_actReadNotices p).of_next h
  | readRetained => exact (takePlain_quiet fun p _ => core_actReadRetained p).of_next h
  | setPartition => exact (takePlain_moves fun p _ => actSetPartition_moves p).of_next h
  | loadAnswer => exact (takePlain_moves fun p _ => actLoadAnswer_moves p).of_next h
  | sleep => exact (takePlain_moves fun p _ => actSleep_moves p).of_next h
  | spinDown => exact (takePlain_moves fun p _ => actSpinDown_moves p).of_next h
  | haltSession => exact (takePlain_moves fun p _ => actHaltSession_moves p).of_next h
  | ready =>
    exact (takeRequest_moves (fun r p _ => moves_of_core (core_actReady p r)) fun _ => runReached_moves).of_next h
  | setNotices =>
    exact (takeRequest_moves (fun r p _ => moves_of_core (core_actSetNotices p r))
      fun _ => moves_of_core core_buildNotices).of_next h
  | programRetained =>
    exact (takeRequest_moves (fun r p _ => moves_of_core (core_actProgramRetained p r)) fun _ => .refl).of_next h

/-- Every step is a sequence of moves. -/
theorem step_moves {t : State} (h : step s = .next t) : Moves s t := by
  unfold step at h
  split at h
  · exact idle_moves.of_next h
  · exact .after (exec_moves h) (core_eq_of_blocks rfl rfl rfl rfl)

end

/-- Settles O56: every move keeps the hold ring. -/
theorem stepsKeepTheHoldRing : Obligations.StepsKeepTheHoldRing :=
  fun _ _ kept h => (step_moves h).keep_hold kept

/-- Settles O58: every move keeps the sessions lawful, grounded and in agreement with the stage slots. -/
theorem stepsKeepSessionsLawful : Obligations.StepsKeepSessionsLawful :=
  ⟨fun _ _ kept h => (step_moves h).keep_sessions kept, fun _ _ kept h => (step_moves h).keep_stage kept⟩

end Sys2Proof.Machine
end

section
/-! SUPPORT and proofs: the reset state (O54), the partition (O16), and a frame handed to the hold queue (O29, O30). -/

namespace Sys2Proof.Machine

/-! ## The reset state -/

theorem reset_session (i : Slot) : State.reset.pac.slots[i].session = none := by
  simp [State.reset]

/-- The record of every bay after reset: ABSENT, unpowered, with the factory settings. -/
theorem reset_bay (i : Bay) : State.reset.bay.bays[i] =
    { state := .absent, settings := .factory, spinTimer := none, idleTimer := none, needed := 0, pwr := false,
      present := false, active := false } := by
  simp [State.reset]

theorem default_inRange : Profile.default.inRange := by
  simp [Profile.inRange, Profile.default]

/-- Settles O54: the reset state has no session, no held record and every bay ABSENT. -/
theorem resetMeetsEveryCondition : Obligations.ResetMeetsEveryCondition := by
  have noSession {P : Session → Prop} : ∀ i : Slot, ∀ x, State.reset.pac.slots[i].session = some x → P x :=
    fun i x hx => by rw [reset_session] at hx; nomatch hx
  refine ⟨rfl, ⟨rfl, rfl, nofun⟩, ⟨rfl, rfl, rfl, rfl, rfl⟩, ⟨nofun, nofun⟩, holdAgrees_empty rfl (by decide) rfl rfl,
    ⟨fun i => ?_, fun i => ?_, fun i => ?_, fun i => ?_, .nil⟩, ⟨fun i => ?_, by decide⟩, noSession,
    ⟨fun i => ?_, noSession⟩, noSession, ?_, fun i => ?_,
    (stageAgrees_iff _).mpr (stageKept_empty rfl reset_session rfl rfl)⟩
  · rw [reset_bay]
    rfl
  · rw [reset_bay]
    rfl
  · rw [reset_bay]
    nofun
  · rw [reset_bay]
    exact iff_of_false List.not_mem_nil nofun
  · rw [reset_bay]
    decide
  · have profile : State.reset.pac.profiles[i] = .default := by simp [State.reset]
    rw [profile]
    exact default_inRange
  · simp [WithinCapacities, State.reset]
  · rw [reset_bay]
    exact hasBay_zero i

/-! ## SET_PARTITION -/

theorem partitionAllowed_iff (a st : Nat) :
    partitionAllowed a st = true ↔ 16 ≤ a ∧ a ≤ 256 ∧ st % 32 = 0 ∧ a + st ≤ 3840 := by
  simp [partitionAllowed, and_assoc]

theorem isFree_iff (slot : StageSlot) : slot.isFree = true ↔ slot = .free := by
  cases slot <;> simp [StageSlot.isFree]

/-- The store is idle in RUN with no record held, no stage slot in use, no session and no valid answer (R23). -/
theorem storeIdle_iff (s : State) : storeIdle s = true ↔
    s.pow.box = .run ∧ s.hold.records = [] ∧ (∀ slot ∈ s.pac.stage, slot = .free) ∧
      (∀ i : Slot, s.pac.slots[i].session = none) ∧ ∀ i : Fin 16, s.ans.records[i].valid = false := by
  have slots : ∀ i : Slot, i ∈ allSlots := by decide
  simp only [storeIdle, Bool.and_eq_true, decide_eq_true_eq, List.isEmpty_iff, List.all_eq_true, isFree_iff,
    Option.isNone_iff_eq_none, Bool.not_eq_true', List.mem_finRange, true_imp_iff, slots, and_assoc]

/-- A request that the box state takes is taken in RUN: the admission of SET_PARTITION (Table 10.3). -/
theorem admission_setPartition (box : BoxState) (h : admission box .setPartition = .taken) : box = .run := by
  cases box with
  | run => rfl
  | sleepEntry | sleep => nomatch h
  | waking sub => cases sub <;> nomatch h

/-- Settles O16: by the cases of R23's test of the store. -/
theorem setPartitionChecksThenRebuilds : Obligations.SetPartitionChecksThenRebuilds := by
  refine ⟨⟨rfl, rfl, fun box asleep taken => asleep (admission_setPartition box taken)⟩, ?_⟩
  intro s r p rest a st h ha hst
  have run : s.pow.box = .run := admission_setPartition _ h.2.1
  have idle := storeIdle_iff (dequeue r rest s)
  subst ha hst
  refine ⟨fun refused => ?_, fun low high whole fits => ⟨fun busy => ?_, fun records stage sessions answers => ?_⟩⟩
  · have disallowed : partitionAllowed (natAt p 0 2) (natAt p 2 2) = false := by
      rw [Bool.eq_false_iff, ne_eq, partitionAllowed_iff]
      omega
    refine congrArg Host.Outcome.next (takePlain_refuse h (by decide) ?_)
    simp [actSetPartition, disallowed]
  · have allowed := (partitionAllowed_iff _ _).mpr ⟨low, high, whole, fits⟩
    have occupied : storeIdle (dequeue r rest s) = false := by
      rw [Bool.eq_false_iff, ne_eq, idle]
      rintro ⟨-, records, stage, sessions, answers⟩
      obtain held | ⟨slot, hslot, used⟩ | ⟨i, hi⟩ | ⟨i, hi⟩ := busy
      · exact held records
      · exact used (stage slot hslot)
      · exact hi (sessions i)
      · exact nomatch hi.symm.trans (answers i)
    refine congrArg Host.Outcome.next (takePlain_refuse h (by decide) ?_)
    simp [actSetPartition, allowed, occupied]
  · have allowed := (partitionAllowed_iff _ _).mpr ⟨low, high, whole, fits⟩
    have free := idle.mpr ⟨run, records, stage, sessions, answers⟩
    refine congrArg Host.Outcome.next (takePlain_ok h ?_)
    simp only [actSetPartition, allowed, free, Bool.not_true, Bool.false_eq_true, if_false]
    rfl

/-! ## A frame handed to the hold queue -/

section
variable {frame : List Byte} {cls : HeldClass} {entry : Option (Fin 64)} {arrival : Word32} {s : State}

theorem holdFrame_latched (h : s.pow.latch = true ∨ s.hold.overflow = true) :
    holdFrame frame cls entry arrival s = dropHeld s := by
  unfold holdFrame
  obtain h | h := h
  · rw [if_pos h]
  · rw [if_pos h, ite_self]

theorem holdFrame_limited (latch : s.pow.latch = false) (overflow : s.hold.overflow = false)
    (h : 512 ≤ s.hold.records.length ∨ s.cells.free < cellsFor frame.length) :
    holdFrame frame cls entry arrival s =
      overflowHeld (if 512 ≤ s.hold.records.length then .records else .cells) cls entry frame.length s := by
  simp only [holdFrame, latch, overflow, Bool.false_eq_true, if_false]
  by_cases full : 512 ≤ s.hold.records.length
  · rw [if_pos full, if_pos full]
  · rw [if_neg full, if_neg full, if_pos (h.resolve_left full)]

theorem holdFrame_appended (latch : s.pow.latch = false) (overflow : s.hold.overflow = false)
    (room : s.hold.records.length < 512) (fits : cellsFor frame.length ≤ s.cells.free) :
    holdFrame frame cls entry arrival s = appendHeld frame cls entry arrival s := by
  simp only [holdFrame, latch, overflow, Bool.false_eq_true, if_false, Nat.not_le.mpr room, Nat.not_lt.mpr fits]

end

/-- Settles O29: one lemma for each test of R63. -/
theorem heldFramesAreTestedInOrder : Obligations.HeldFramesAreTestedInOrder := by
  intro frame cls entry arrival s n hn
  subst hn
  exact ⟨holdFrame_latched, fun latch overflow =>
    ⟨holdFrame_limited latch overflow, holdFrame_appended latch overflow⟩⟩

/-! ## The bytes of a held frame -/

/-- A write leaves a run that it does not meet. -/
theorem readRun_writeRun_apart {m : Memory} {address start n : Nat} {bytes : List Byte} (within : start + n ≤ storeBytes)
    (apart : start + n ≤ address ∨ address + bytes.length ≤ start) :
    (m.writeRun address bytes).readRun start n = m.readRun start n := by
  rw [Memory.readRun_eq_map, Memory.readRun_eq_map]
  refine List.map_congr_left fun k hk => ?_
  have := List.mem_range.mp hk
  rw [Memory.read_writeRun _ _ _ _ (by omega), if_neg (by omega)]

/-- A frame written into the ring reads back, whether its run wraps or not (R29, R31). -/
theorem readRing_writeRing (m : Memory) {p : Partition} {t : Nat} {frame : List Byte} (tail : t < p.hold)
    (fits : frame.length ≤ 256 * p.hold) (within : p.answer + p.hold ≤ 4096) :
    readRing (writeRing m p t frame) p t frame.length = frame := by
  have taken : (frame.take (256 * (p.hold - t))).length = min frame.length (256 * (p.hold - t)) := by
    rw [List.length_take, Nat.min_comm]
  have dropped : (frame.drop (256 * (p.hold - t))).length = frame.length - 256 * (p.hold - t) := List.length_drop
  have start : holdAddress p t = 256 * p.answer + 256 * t := Nat.mul_add ..
  have first : holdAddress p 0 = 256 * p.answer := rfl
  have store : storeBytes = 256 * 4096 := rfl
  unfold readRing writeRing
  dsimp only
  rw [← taken, ← dropped, readRun_writeRun_apart, Memory.readRun_writeRun, Memory.readRun_writeRun,
    List.take_append_drop]
  all_goals omega

/-- Writing a frame into the ring changes no byte outside its cells (R29). -/
theorem read_writeRing_apart (m : Memory) {p : Partition} {t a : Nat} {frame : List Byte} (tail : t < p.hold)
    (fits : frame.length ≤ 256 * p.hold) (bound : a < storeBytes)
    (apart : ∀ c < cellsFor frame.length, a / 256 ≠ p.answer + (t + c) % p.hold) :
    (writeRing m p t frame).read a = m.read a := by
  have start : holdAddress p t = 256 * p.answer + 256 * t := Nat.mul_add ..
  have first : holdAddress p 0 = 256 * p.answer := rfl
  unfold cellsFor at apart
  unfold writeRing
  dsimp only
  rw [Memory.read_writeRun _ _ _ _ bound, Memory.read_writeRun _ _ _ _ bound, List.length_take, List.length_drop, start,
    first]
  have outsideWrapped : ¬ (256 * p.answer ≤ a ∧ a < 256 * p.answer + (frame.length - 256 * (p.hold - t))) := by
    intro inside
    refine apart (p.hold - t + (a / 256 - p.answer)) (by omega) ?_
    have cell : t + (p.hold - t + (a / 256 - p.answer)) = a / 256 - p.answer + p.hold := by omega
    rw [cell, Nat.add_mod_right, Nat.mod_eq_of_lt (by omega)]
    omega
  have outsideFirst : ¬ (256 * p.answer + 256 * t ≤ a ∧
      a < 256 * p.answer + 256 * t + min (256 * (p.hold - t)) frame.length) := by
    intro inside
    refine apart (a / 256 - p.answer - t) (by omega) ?_
    have cell : t + (a / 256 - p.answer - t) = a / 256 - p.answer := by omega
    rw [cell, Nat.mod_eq_of_lt (by omega)]
    omega
  rw [if_neg outsideWrapped, if_neg outsideFirst]

/-- Settles O30: the two runs of a wrapped frame lie apart in the region. -/
theorem appendedFramesReadBack : Obligations.AppendedFramesReadBack := by
  intro frame cls entry arrival s n hn tail room within
  have fits : frame.length ≤ 256 * s.cells.part.hold := by omega
  subst hn
  exact ⟨readRing_writeRing _ tail fits within, fun a bound apart => read_writeRing_apart _ tail fits bound apart⟩

end Sys2Proof.Machine
end

section
/-! SUPPORT and proofs: the frames of the host link (O49). -/

namespace Sys2Proof.Machine

/-! ## The next frame of the host link -/

section
variable {s : State} (up : s.host.up = true) (free : s.host.sending = none)
include up free

theorem hostKick_response {x : List Byte} {xs : List (List Byte)} (responses : s.host.responses = x :: xs) :
    hostKick s = { s with host.responses := xs, host.sending := some (.response (withFcs x)) } := by
  simp [hostKick, up, free, responses]

theorem hostKick_lpath {x : LPathFrame} {xs : List LPathFrame} (responses : s.host.responses = [])
    (lpath : s.host.lpath = x :: xs) :
    hostKick s =
      { s with
        host.lpath := xs,
        host.sending := some (if x.released then .held (withFcs x.data) else .direct (withFcs x.data)) } := by
  simp [hostKick, up, free, responses, lpath]

theorem hostKick_deliver {k : Nat} (responses : s.host.responses = []) (lpath : s.host.lpath = [])
    (delivery : s.pac.delivery = some k) :
    hostKick s =
      { s with
        host.sending := some (.deliver (withFcs (deliverData s k (s.pac.stage.getD k .free).length))) } := by
  simp [hostKick, up, free, responses, lpath, delivery]

end

/-- The host link once a frame has left it and its source has been told, before the notices (R167). -/
def afterSent (f : HostSending) (s : State) : State :=
  hostKick (reportSent f { s with host.sending := none })

section
variable {s : State} {f : HostSending}

theorem hostLinkFrameSent_eq (sending : s.host.sending = some f) : exec .hostLinkFrameSent s =
    .next (if (afterSent f s).host.responses.length < s.host.responses.length ∧ managementClaims (afterSent f s) = false
      then buildNotices (afterSent f s) else afterSent f s) := by
  simp only [exec, execHostLinkFrameSent, sending]
  rfl

/-- With no response waiting no notice is built. -/
theorem hostLinkFrameSent_quiet (sending : s.host.sending = some f) (responses : s.host.responses = []) :
    exec .hostLinkFrameSent s = .next (afterSent f s) := by
  rw [hostLinkFrameSent_eq sending, if_neg]
  simp [responses]

theorem managementClaims_iff (s : State) :
    managementClaims s = false ↔ s.host.requests = [] ∧ s.mgmt.deferred = [] := by
  simp [managementClaims]

end

/-! ## The release of held frames -/

section
variable {s : State}

theorem popHeld_cons {x : HeldRecord} {rest : List HeldRecord} (records : s.hold.records = x :: rest) :
    popHeld s =
      { s with
        cells.ring.head := (s.cells.ring.head + x.cells) % s.cells.part.hold,
        cells.ring.used := s.cells.ring.used - x.cells,
        hold.records := rest,
        hold.overflow := s.hold.overflow && !rest.isEmpty } := by
  unfold popHeld
  rw [records]

theorem release_empty (records : s.hold.records = []) : release s = s := by
  unfold release
  rw [records]
  rfl

theorem release_waits (h : s.pow.box ≠ .run) : release s = s := by
  unfold release
  cases s.hold.records with
  | nil => rfl
  | cons r rest => simp [releaseN, h]

/-- A FRESH head takes the release position (R67, R69). -/
theorem release_fresh {y : HeldRecord} {rest : List HeldRecord} (run : s.pow.box = .run) (up : s.host.up = true)
    (idle : s.hold.sending = false) (records : s.hold.records = y :: rest) (fresh : y.stale = false) :
    release s =
      handReleased (frameData (readRing s.cells.mem s.cells.part y.firstCell y.length))
        { s with hold.sending := true } := by
  unfold release
  rw [records, List.length_cons]
  simp [releaseN, run, up, idle, records, fresh]

/-- A released frame on a link with nothing to send starts at once (R69). -/
theorem handReleased_starts {data : List Byte} (up : s.host.up = true) (free : s.host.sending = none)
    (responses : s.host.responses = []) (lpath : s.host.lpath = []) :
    handReleased data s = { s with host.sending := some (.held (withFcs data)) } := by
  simp [handReleased, hostKick, up, free, responses, lpath]

theorem afterSent_held (w : List Byte) : afterSent (.held w) s =
    hostKick (release { popHeld { s with host.sending := none } with hold.sending := false }) := rfl

end

/-- Settles O49: the host arbiter by the queue that is not empty first, and release behind a sent frame. -/
theorem theHostLinkSendsByPriority : Obligations.TheHostLinkSendsByPriority := by
  refine ⟨fun s idle => ?_, fun s w up sent => ?_,
    fun s w x y rest u up sent records fresh responses lpath delivery hu => ?_,
    fun s w x up sent records responses lpath delivery => ?_⟩
  · simp [exec, execHostLinkFrameSent, idle]
  · obtain ⟨f, sending, reported⟩ : ∃ f, s.host.sending = some f ∧
        afterSent f s = hostKick { s with host.sending := none } := by
      obtain sent | sent := sent <;> exact ⟨_, sent, rfl⟩
    have kick := reported
    refine ⟨fun x xs responses waits => ?_, fun x xs responses requests deferred => ?_, fun responses =>
      ⟨fun x xs lpath => ?_, fun lpath => ⟨fun k owner n delivery slot => ?_, fun delivery => ?_⟩⟩⟩
    · rw [hostKick_response (s := { s with host.sending := none }) up rfl responses] at kick
      rw [hostLinkFrameSent_eq sending, if_neg, kick]
      rintro ⟨-, claims⟩
      rw [kick, managementClaims_iff] at claims
      exact waits.elim (· claims.1) (· claims.2)
    · rw [hostKick_response (s := { s with host.sending := none }) up rfl responses] at kick
      rw [hostLinkFrameSent_eq sending, if_pos, kick]
      rw [kick, managementClaims_iff, responses]
      exact ⟨Nat.lt_succ_self _, requests, deferred⟩
    · rw [hostLinkFrameSent_quiet sending responses, kick,
        hostKick_lpath (s := { s with host.sending := none }) up rfl responses lpath]
    · rw [hostLinkFrameSent_quiet sending responses, kick,
        hostKick_deliver (s := { s with host.sending := none }) up rfl responses lpath delivery, slot]
      rfl
    · rw [hostLinkFrameSent_quiet sending responses, kick]
      exact congrArg Host.Outcome.next (hostKick_empty responses lpath delivery)
  · have popped : { popHeld { s with host.sending := none } with hold.sending := false } = u := by
      rw [popHeld_cons (s := { s with host.sending := none }) records, hu]
      simp
    have free : u.host.sending = none := by rw [hu]
    have hostUp : u.host.up = true := by rw [hu]; exact up
    have noResponse : u.host.responses = [] := by rw [hu]; exact responses
    have noFrame : u.host.lpath = [] := by rw [hu]; exact lpath
    have mem : u.cells.mem = s.cells.mem := by rw [hu]
    have part : u.cells.part = s.cells.part := by rw [hu]
    rw [hostLinkFrameSent_quiet sent responses, afterSent_held, popped]
    refine ⟨fun run => ?_, fun asleep => ?_⟩
    · rw [release_fresh (y := y) (rest := rest) (by rw [hu]; exact run) hostUp (by rw [hu]) (by rw [hu]) fresh,
        handReleased_starts (s := { u with hold.sending := true }) hostUp free noResponse noFrame, hostKick_busy rfl,
        mem, part]
    · rw [release_waits (by rw [hu]; exact asleep), hostKick_empty noResponse noFrame (by rw [hu]; exact delivery)]
  · rw [hostLinkFrameSent_quiet sent responses, afterSent_held,
      popHeld_cons (s := { s with host.sending := none }) records, release_empty rfl, hostKick_empty]
    · simp
    · exact responses
    · exact lpath
    · exact delivery

end Sys2Proof.Machine
end

section
/-! SUPPORT and proofs: the accounting of a delivered block (O50). -/

namespace Sys2Proof.Machine

/-! ## The stage arbiter with no session ready -/

/-- No session is ready for a grant (R119). -/
def NoneReady (s : State) : Prop :=
  ∀ (i : Slot) y, s.pac.slots[i].session = some y → sessionReady s y = false

/-- Later in the same instant, with no message gone from the queue, a session is no readier; its undelivered count has
no part in that (R119). -/
theorem sessionReady_later {s t : State} {x y : Session} (time : t.time = s.time)
    (queue : s.pac.queue.length ≤ t.pac.queue.length) (same : y = { x with undelivered := y.undelivered })
    (unready : sessionReady s x = false) : sessionReady t y = false := by
  refine Bool.eq_false_iff.mpr fun ready => Bool.eq_false_iff.mp unready ?_
  rw [same] at ready
  simp only [sessionReady, Bool.and_eq_true, decide_eq_true_eq, time] at ready ⊢
  obtain ⟨⟨⟨rest, window⟩, room⟩, sequence⟩ := ready
  exact ⟨⟨⟨rest, window⟩, queue.trans_lt room⟩, sequence⟩

theorem arbitrate_none {s : State} (unready : NoneReady s) : arbitrate s = s := by
  have nobody : earliestReady s = none := by
    cases earliest : earliestReady s with
    | none => rfl
    | some p =>
      obtain ⟨session, ready⟩ := earliestReady_some (i := p.1) (x := p.2) earliest
      exact absurd ready (by simp [unready _ _ session])
  unfold arbitrate
  cases s.pac.stage.length with
  | zero => rfl
  | succ n =>
    unfold arbitrateN
    rw [nobody]
    cases lowestFree s.pac.stage <;> rfl

/-- The stage arbiter leaves the delivery FIFO and the delivery position. -/
theorem arbitrate_fifo (s : State) :
    (arbitrate s).pac.fifo = s.pac.fifo ∧ (arbitrate s).pac.delivery = s.pac.delivery := by
  refine arbitrateN_keeps (P := fun t => t.pac.fifo = s.pac.fifo ∧ t.pac.delivery = s.pac.delivery)
    (fun i x k t _ _ _ _ ⟨fifo, delivery⟩ => ?_) _ s ⟨rfl, rfl⟩
  exact ⟨(congrArg Core.fifo (core_queueMsg _)).trans fifo, (congrArg Core.delivery (core_queueMsg _)).trans delivery⟩

/-- So does the start of a session. -/
theorem startSession_fifo (i : Slot) (gives : BaySet) (peer : MacAddr) (f : FollowOn) (s : State) :
    (startSession i gives peer f s).pac.fifo = s.pac.fifo ∧
      (startSession i gives peer f s).pac.delivery = s.pac.delivery := by
  have core : (startSession i gives peer f s).core =
      (onSlot i (fun slot =>
        { slot with
          session := some (newSession s.pac.profiles[f.profile] peer f.tag f.nb f.bays s.time.us) }) s).core := by
    unfold startSession
    rw [core_demand, core_changeNeeded, core_queueMsg]
  exact ⟨congrArg Core.fifo core, congrArg Core.delivery core⟩

/-! ## The outcome list -/

theorem addOutcome_last (tag : Word16) (outcome : SessionOutcome) (s : State) :
    (addOutcome tag outcome s).note.outcomes.getLast? = some (tag, outcome) := by
  unfold addOutcome
  split <;> simp

theorem addOutcome_raises (tag : Word16) (outcome : SessionOutcome) (s : State) :
    (addOutcome tag outcome s).note.kinds[3].pending = true := by
  have three : (NoticeKind.sessionEnd.index : Nat) = 3 := rfl
  unfold addOutcome
  rw [raise_note_kinds]
  simp [getElem_vecMod, three]

/-! ## The start of a delivery -/

section
variable {s : State}

/-- The head `k` of the delivery FIFO, FILLED with `n` bytes, in the delivery position with its header completed
(R32, R126). -/
def headDelivered (k : Nat) (rest : List Nat) (o : StageOwner) (n : Nat) (s : State) : State :=
  { writeCells (stageAddress s.cells.part k + 36) (num 1 o.slot.val ++ num 1 0)
      (writeCells (stageAddress s.cells.part k) (deliverHead s n) (setStage k (.sending o n) s)) with
    pac.fifo := rest, pac.delivery := some k }

theorem startDelivery_waits (h : s.pac.fifo = [] ∨ s.pow.box ≠ .run ∨ s.host.up = false ∨ s.pac.delivery ≠ none) :
    startDelivery s = s := by
  unfold startDelivery
  split
  · rename_i may
    simp only [Bool.and_eq_true, decide_eq_true_eq, Option.isNone_iff_eq_none] at may
    obtain ⟨⟨run, up⟩, idle⟩ := may
    have empty : s.pac.fifo = [] := by simpa [run, up, idle] using h
    rw [empty]
  · rfl

theorem startDelivery_starts {k n : Nat} {rest : List Nat} {o : StageOwner} (run : s.pow.box = .run)
    (up : s.host.up = true) (idle : s.pac.delivery = none) (fifo : s.pac.fifo = k :: rest)
    (filled : s.pac.stage.getD k .free = .filled o n) :
    startDelivery s = hostKick (headDelivered k rest o n s) := by
  unfold startDelivery
  rw [run, up, idle, fifo]
  simp only [filled]
  rfl

/-- Of the pacing engine the start of a delivery changes the stage slots, the FIFO and the delivery position. -/
theorem startDelivery_pac :
    (startDelivery s).pac =
      { s.pac with
        stage := (startDelivery s).pac.stage, fifo := (startDelivery s).pac.fifo,
        delivery := (startDelivery s).pac.delivery } := by
  unfold startDelivery
  split
  · split
    · rfl
    · split
      · simp only [hostKick_pac]
        rfl
      · rfl
  · rfl

end

/-! ## Completion -/

section
variable {s : State} {i : Slot} {x : Session}

theorem queueMsg_tally (busy : s.lan.sending.isSome = true) (room : s.pac.queue.length < 32) :
    queueMsg (tallyMsg x.peer x.tag x.nb) s =
      { s with pac.queue := s.pac.queue ++ [tallyMsg x.peer x.tag x.nb] } :=
  queueMsg_busy room busy

/-- What is left of a completed session with no follow-on (R128). -/
theorem completeSession_ends (busy : s.lan.sending.isSome = true) (room : s.pac.queue.length < 32)
    (alone : x.followOn = none) :
    completeSession i x s =
      changeNeeded x.bays 0
        (onSlot i (fun slot => { slot with session := none })
          (addOutcome x.tag .done { s with pac.queue := s.pac.queue ++ [tallyMsg x.peer x.tag x.nb] })) := by
  unfold completeSession
  rw [queueMsg_tally busy room, alone]

theorem completeSession_follows {f : FollowOn} (busy : s.lan.sending.isSome = true) (room : s.pac.queue.length < 32)
    (follow : x.followOn = some f) :
    completeSession i x s =
      startSession i x.bays x.peer f
        (addOutcome x.tag .done { s with pac.queue := s.pac.queue ++ [tallyMsg x.peer x.tag x.nb] }) := by
  unfold completeSession
  rw [queueMsg_tally busy room, follow]

/-! ## The accounting of a delivered block -/

theorem onSlot_pac (f : SessionSlot → SessionSlot) (s : State) :
    (onSlot i f s).pac = { s.pac with slots := vecMod s.pac.slots i f } := rfl

theorem countDelivered_left (left : 0 < s.pac.slots[i].leftBehind) :
    countDelivered i s = onSlot i (fun slot => { slot with leftBehind := slot.leftBehind - 1 }) s := by
  unfold countDelivered
  exact if_pos left

theorem countDelivered_idle (left : s.pac.slots[i].leftBehind = 0) (session : s.pac.slots[i].session = none) :
    countDelivered i s = s := by
  unfold countDelivered
  dsimp only
  rw [left, session]
  rfl

theorem countDelivered_open (left : s.pac.slots[i].leftBehind = 0) (session : s.pac.slots[i].session = some x)
    (more : x.draining = false ∨ 1 < x.undelivered) :
    countDelivered i s =
      onSlot i (fun slot => { slot with session := some { x with undelivered := x.undelivered - 1 } }) s := by
  have goesOn : ¬ (x.draining = true ∧ x.undelivered - 1 = 0) := by
    rintro ⟨draining, last⟩
    obtain running | more := more
    · simp [running] at draining
    · omega
  unfold countDelivered
  dsimp only
  rw [left, session]
  exact if_neg goesOn

theorem countDelivered_last (left : s.pac.slots[i].leftBehind = 0) (session : s.pac.slots[i].session = some x)
    (draining : x.draining = true) (last : x.undelivered ≤ 1) :
    countDelivered i s =
      completeSession i { x with undelivered := 0 }
        (onSlot i (fun slot => { slot with session := some { x with undelivered := 0 } }) s) := by
  have nothing : x.undelivered - 1 = 0 := by omega
  unfold countDelivered
  dsimp only
  rw [left, session]
  simp [draining, nothing]

/-- A completion with no follow-on: TALLY, outcome DONE, the slot IDLE, the bay set given up (R128). -/
theorem countDelivered_ends (busy : s.lan.sending.isSome = true) (room : s.pac.queue.length < 32)
    (left : s.pac.slots[i].leftBehind = 0) (session : s.pac.slots[i].session = some x) (draining : x.draining = true)
    (last : x.undelivered ≤ 1) (alone : x.followOn = none) :
    countDelivered i s =
      changeNeeded x.bays 0
        (onSlot i (fun slot => { slot with session := none })
          (addOutcome x.tag .done
            { onSlot i (fun slot => { slot with session := some { x with undelivered := 0 } }) s with
              pac.queue := s.pac.queue ++ [tallyMsg x.peer x.tag x.nb] })) := by
  rw [countDelivered_last left session draining last]
  exact completeSession_ends (x := { x with undelivered := 0 }) busy room alone

/-- A completion whose follow-on starts in the slot (R129). -/
theorem countDelivered_follows {f : FollowOn} (busy : s.lan.sending.isSome = true) (room : s.pac.queue.length < 32)
    (left : s.pac.slots[i].leftBehind = 0) (session : s.pac.slots[i].session = some x) (draining : x.draining = true)
    (last : x.undelivered ≤ 1) (follow : x.followOn = some f) :
    countDelivered i s =
      startSession i x.bays x.peer f
        (addOutcome x.tag .done
          { onSlot i (fun slot => { slot with session := some { x with undelivered := 0 } }) s with
            pac.queue := s.pac.queue ++ [tallyMsg x.peer x.tag x.nb] }) := by
  rw [countDelivered_last left session draining last]
  exact completeSession_follows (x := { x with undelivered := 0 }) busy room follow

/-- All that the accounting changes of the pacing engine, where it starts no follow-on: the slot, whose session is the
one of before but for the undelivered count, and the queue, which a message may join (R127, R128). -/
theorem countDelivered_pac (busy : s.lan.sending.isSome = true) (room : s.pac.queue.length < 32)
    (alone : ∀ x, s.pac.slots[i].leftBehind = 0 → s.pac.slots[i].session = some x → x.draining = true →
      x.undelivered ≤ 1 → x.followOn = none) :
    ∃ v msgs, (countDelivered i s).pac =
        { s.pac with slots := vecMod s.pac.slots i fun _ => v, queue := s.pac.queue ++ msgs } ∧
      ∀ y, v.session = some y →
        ∃ x, s.pac.slots[i].session = some x ∧ y = { x with undelivered := y.undelivered } := by
  obtain left | left := Nat.eq_zero_or_pos s.pac.slots[i].leftBehind
  · cases session : s.pac.slots[i].session with
    | none =>
      refine ⟨s.pac.slots[i], [], ?_, fun y hy => absurd (session.symm.trans hy) (by simp)⟩
      rw [countDelivered_idle left session]
      simp [vecMod]
    | some x =>
      by_cases more : x.draining = false ∨ 1 < x.undelivered
      · refine ⟨{ s.pac.slots[i] with session := some { x with undelivered := x.undelivered - 1 } }, [], ?_, ?_⟩
        · rw [countDelivered_open left session more, List.append_nil]
          rfl
        · rintro y ⟨⟩
          exact ⟨x, rfl, rfl⟩
      · simp only [not_or, Bool.not_eq_false, not_lt] at more
        obtain ⟨draining, last⟩ := more
        refine ⟨{ s.pac.slots[i] with session := none }, [tallyMsg x.peer x.tag x.nb], ?_, fun y hy => by simp at hy⟩
        rw [countDelivered_ends busy room left session draining last (alone x left session draining last)]
        simp [onSlot_pac, vecMod]
  · refine ⟨{ s.pac.slots[i] with leftBehind := s.pac.slots[i].leftBehind - 1 }, [], ?_, fun y hy => ⟨y, hy, rfl⟩⟩
    rw [countDelivered_left left, List.append_nil]
    rfl

theorem countDelivered_noneReady (busy : s.lan.sending.isSome = true) (room : s.pac.queue.length < 32)
    (alone : ∀ x, s.pac.slots[i].leftBehind = 0 → s.pac.slots[i].session = some x → x.draining = true →
      x.undelivered ≤ 1 → x.followOn = none) (unready : NoneReady s) : NoneReady (countDelivered i s) := by
  obtain ⟨v, msgs, pac, kept⟩ := countDelivered_pac busy room alone
  intro j y session
  have queue : s.pac.queue.length ≤ (countDelivered i s).pac.queue.length := by simp [pac]
  rw [pac] at session
  by_cases here : j = i
  · subst here
    obtain ⟨x, before, same⟩ := kept y (by simpa using session)
    exact sessionReady_later (countDelivered_time ..) queue same (unready j x before)
  · dsimp only at session
    rw [getElem_vecMod_ne _ _ _ _ here] at session
    exact sessionReady_later (countDelivered_time ..) queue rfl (unready j y session)

end

/-! ## The end of a delivery -/

/-- The stage slot `k` FREE, the delivery position and the link empty: what a sent DELIVER frame leaves before the
accounting (R126). -/
def deliveryEnded (k : Nat) (s : State) : State :=
  { setStage k .free { s with host.sending := none } with pac.delivery := none }

section
variable {s : State} {w : List Byte} {k n : Nat} {o : StageOwner}

theorem afterSent_deliver (delivery : s.pac.delivery = some k) (stage : s.pac.stage.getD k .free = .sending o n) :
    afterSent (.deliver w) s =
      hostKick (startDelivery (arbitrate (countDelivered o.slot (deliveryEnded k s)))) := by
  have sent : deliverySent { s with host.sending := none } =
      startDelivery (arbitrate (countDelivered o.slot (deliveryEnded k s))) := by
    unfold deliverySent
    simp only [delivery, stage]
    rfl
  exact congrArg hostKick sent

theorem deliverData_eq {base : Nat} (hbase : base = 256 * (s.cells.part.answer + s.cells.part.hold + 32 * k)) :
    deliverData s k n =
      ((List.range 38).map fun i => s.cells.mem.read (base + i)) ++
        ((List.range n).map fun i => s.cells.mem.read (base + 64 + i)) ++ List.replicate (22 - n) 0 := by
  have padding : 60 - (38 + n) = 22 - n := by omega
  rw [deliverData, pad60, stageAddress, ← hbase, Memory.readRun_eq_map, Memory.readRun_eq_map, List.length_append,
    List.length_map, List.length_map, List.length_range, List.length_range, padding]

/-- An idle link with nothing waiting sends the head of the delivery FIFO (R126, R167). -/
theorem startDelivery_sends {q : StageOwner} {l m : Nat} {ls : List Nat} (run : s.pow.box = .run)
    (up : s.host.up = true) (free : s.host.sending = none) (responses : s.host.responses = [])
    (lpath : s.host.lpath = []) (idle : s.pac.delivery = none) (fifo : s.pac.fifo = l :: ls)
    (filled : s.pac.stage.getD l .free = .filled q m) :
    startDelivery s =
      { headDelivered l ls q m s with
        host.sending := some (.deliver (withFcs (deliverData (headDelivered l ls q m s) l m))) } := by
  have length : ((headDelivered l ls q m s).pac.stage.getD l .free).length = m := by
    obtain ⟨bound, -⟩ := stage_of_getD filled (by simp)
    have stage : (headDelivered l ls q m s).pac.stage = s.pac.stage.set l (.sending q m) := rfl
    rw [stage, List.getD_eq_getElem?_getD, List.getElem?_set_self bound]
    rfl
  rw [startDelivery_starts run up idle fifo filled,
    hostKick_deliver (s := headDelivered l ls q m s) (k := l) up free responses lpath rfl, length]

end

/-- Settles O50: with no session ready the arbiter does nothing, so that the accounting and the next delivery remain. -/
theorem deliveredBlocksAreAccounted : Obligations.DeliveredBlocksAreAccounted := by
  refine ⟨fun s w k n o sent delivery stage responses lpath busy room unready alone => ?_,
    fun s k n base => deliverData_eq,
    fun s u w k n o x f sent delivery stage fifo responses lpath busy room slot draining last follow hu => ?_⟩
  · have ended : NoneReady (deliveryEnded k s) := unready
    obtain ⟨v, msgs, pac, -⟩ := countDelivered_pac (s := deliveryEnded k s) (i := o.slot) busy room alone
    have idle := arbitrate_none (countDelivered_noneReady (s := deliveryEnded k s) busy room alone ended)
    have host := countDelivered_host o.slot (deliveryEnded k s)
    have pow := countDelivered_pow o.slot (deliveryEnded k s)
    have cells := countDelivered_cells o.slot (deliveryEnded k s)
    have hold := countDelivered_hold o.slot (deliveryEnded k s)
    obtain ⟨t, counted⟩ : ∃ t, countDelivered o.slot (deliveryEnded k s) = t := ⟨_, rfl⟩
    rw [counted] at pac idle host pow cells hold
    have slots : (startDelivery t).pac.slots = t.pac.slots := by rw [startDelivery_pac]
    have queue : (startDelivery t).pac.queue = t.pac.queue := by rw [startDelivery_pac]
    have noDelivery : t.pac.delivery = none := by rw [pac]; rfl
    have tfifo : t.pac.fifo = s.pac.fifo := by rw [pac]; rfl
    have tstage : t.pac.stage = s.pac.stage.set k .free := by rw [pac]; rfl
    have tresponses : t.host.responses = [] := by rw [host]; exact responses
    have tlpath : t.host.lpath = [] := by rw [host]; exact lpath
    refine ⟨hostKick (startDelivery t), ?_, fun waits => ?_, fun run up l ls q m fifo other filled => ?_,
      fun j other => ?_, fun left => ?_, fun left x session => ⟨fun more => ?_, fun draining last => ?_⟩, ?_, ?_⟩
    · rw [hostLinkFrameSent_quiet sent responses, afterSent_deliver delivery stage, counted, idle]
    · have still : startDelivery t = t := by
        refine startDelivery_waits ?_
        rw [tfifo, pow, host]
        exact waits.imp_right (.imp_right .inl)
      rw [still, hostKick_empty tresponses tlpath noDelivery]
      exact ⟨host, tstage, noDelivery, tfifo, cells⟩
    · have sends := startDelivery_sends (s := t) (ls := ls) (m := m) (q := q) (by rw [pow]; exact run)
        (by rw [host]; exact up) (by rw [host]; rfl) tresponses tlpath noDelivery (tfifo.trans fifo)
        (by rw [tstage, List.getD_eq_getElem?_getD, List.getElem?_set_ne other.symm, ← List.getD_eq_getElem?_getD,
              filled])
      rw [sends, hostKick_busy rfl]
      refine ⟨?_, rfl, rfl, ?_⟩
      · rw [← tstage]; rfl
      · have head : (headDelivered l ls q m t).host = { s.host with sending := none } := host
        dsimp only
        rw [head]
        rfl
    · rw [hostKick_pac, slots, pac]
      exact getElem_vecMod_ne _ _ _ _ other
    · rw [hostKick_pac, slots, queue, hostKick_note, startDelivery_note, hostKick_bay, startDelivery_bay, ← counted,
        countDelivered_left (s := deliveryEnded k s) left]
      exact ⟨getElem_vecMod_self .., rfl, rfl, rfl⟩
    · rw [hostKick_pac, slots, queue, hostKick_note, startDelivery_note, hostKick_bay, startDelivery_bay, ← counted,
        countDelivered_open (s := deliveryEnded k s) left session more]
      refine ⟨(getElem_vecMod_self ..).trans ?_, rfl, rfl, rfl⟩
      exact congrArg (SessionSlot.mk _) left
    · rw [hostKick_pac, slots, queue, hostKick_note, startDelivery_note, hostKick_bay, startDelivery_bay, ← counted,
        countDelivered_ends (s := deliveryEnded k s) busy room left session draining last.le
          (alone x left session draining last.le)]
      refine ⟨?_, ?_, ?_, ?_, fun b => ?_⟩
      · have nothing : s.pac.slots[(o.slot : Nat)].leftBehind = 0 := left
        simp [onSlot_pac, deliveryEnded, nothing]
      · simp [onSlot_pac, deliveryEnded, tallyMsg]
      · simp [addOutcome_last]
      · simp [addOutcome_raises]
      · have nobody : hasBay 0#4 b = false := hasBay_zero b
        simp [deliveryEnded, BayRecord.recount, nobody]
    · simp [hold, deliveryEnded]
    · simp [pow, deliveryEnded]
  · have leftNone : (deliveryEnded k s).pac.slots[o.slot].leftBehind = 0 := congrArg SessionSlot.leftBehind slot
    have session : (deliveryEnded k s).pac.slots[o.slot].session = some x := congrArg SessionSlot.session slot
    rw [hostLinkFrameSent_quiet sent responses, afterSent_deliver delivery stage,
      countDelivered_follows (s := deliveryEnded k s) busy room leftNone session draining last.le follow]
    have told : addOutcome x.tag .done
          { onSlot o.slot (fun slot => { slot with session := some { x with undelivered := 0 } })
              (deliveryEnded k s) with
            pac.queue := (deliveryEnded k s).pac.queue ++ [tallyMsg x.peer x.tag x.nb] } = u := by
      rw [hu]
      exact congrArg (addOutcome x.tag .done) rfl
    have uhost : u.host = { s.host with sending := none } := by rw [hu, addOutcome_host]
    have upac : u.pac.fifo = [] ∧ u.pac.delivery = none := by
      rw [hu, addOutcome_pac]
      exact ⟨fifo, rfl⟩
    obtain ⟨noFifo, noDelivery⟩ := arbitrate_fifo (startSession o.slot x.bays x.peer f u)
    obtain ⟨startFifo, startDeliver⟩ := startSession_fifo o.slot x.bays x.peer f u
    rw [told, startDelivery_waits (.inl (noFifo.trans (startFifo.trans upac.1))), hostKick_empty]
    · rw [arbitrate_host, startSession_host, uhost]
      exact responses
    · rw [arbitrate_host, startSession_host, uhost]
      exact lpath
    · exact noDelivery.trans (startDeliver.trans upac.2)

end Sys2Proof.Machine
end

section
/-! SUPPORT and proofs: an accepted BLOCK (O38). -/

namespace Sys2Proof.Machine

/-! ## The bytes of a delivery header -/

section
variable {s : State}

theorem deliverHead_length (n : Nat) : (deliverHead s n).length = 22 := by
  simp [deliverHead]

theorem headDelivered_mem (k : Nat) (rest : List Nat) (o : StageOwner) (n : Nat) :
    (headDelivered k rest o n s).cells.mem =
      (s.cells.mem.writeRun (stageAddress s.cells.part k) (deliverHead s n)).writeRun
        (stageAddress s.cells.part k + 36) (num 1 o.slot.val ++ num 1 0) := rfl

/-- The header is completed in the first 22 bytes of the slot's area and in the two after the payload length. -/
theorem read_headDelivered {k n a : Nat} {rest : List Nat} {o : StageOwner} (bound : a < storeBytes) :
    (headDelivered k rest o n s).cells.mem.read a =
      if stageAddress s.cells.part k + 36 ≤ a ∧ a < stageAddress s.cells.part k + 38 then
        byteAt (num 1 o.slot.val ++ num 1 0) (a - (stageAddress s.cells.part k + 36))
      else if stageAddress s.cells.part k ≤ a ∧ a < stageAddress s.cells.part k + 22 then
        byteAt (deliverHead s n) (a - stageAddress s.cells.part k)
      else s.cells.mem.read a := by
  rw [headDelivered_mem, Memory.read_writeRun _ _ _ _ bound, Memory.read_writeRun _ _ _ _ bound, deliverHead_length]
  rfl

/-- A byte of a stage slot's area behind the header bytes that a delivery completes, or among those written with the
payload, stays as it is when a delivery starts. -/
theorem read_startDelivery {k j : Nat} (bound : stageAddress s.cells.part k + j < storeBytes) (within : j < 8192)
    (behind : 22 ≤ j) (between : j < 36 ∨ 38 ≤ j) :
    (startDelivery s).cells.mem.read (stageAddress s.cells.part k + j) =
      s.cells.mem.read (stageAddress s.cells.part k + j) := by
  unfold startDelivery
  split
  · split
    · rfl
    · rename_i l rest _
      split
      · rename_i o n _
        dsimp only
        rw [hostKick_cells]
        refine (read_headDelivered (k := l) (rest := rest) (o := o) (n := n) bound).trans ?_
        unfold stageAddress
        rw [if_neg (by omega), if_neg (by omega)]
      · rfl
  · rfl

/-- The head of the FIFO that starts: SENDING, in the delivery position, with its header completed (R32, R126). -/
theorem startDelivery_header {k n : Nat} {ks : List Nat} {o : StageOwner} (run : s.pow.box = .run)
    (up : s.host.up = true) (idle : s.pac.delivery = none) (fifo : s.pac.fifo = k :: ks)
    (filled : s.pac.stage.getD k .free = .filled o n) :
    (startDelivery s).pac.stage = s.pac.stage.set k (.sending o n) ∧ (startDelivery s).pac.fifo = ks ∧
      (startDelivery s).pac.delivery = some k ∧
      ∀ a < storeBytes, (startDelivery s).cells.mem.read a =
        if stageAddress s.cells.part k + 36 ≤ a ∧ a < stageAddress s.cells.part k + 38 then
          byteAt (num 1 o.slot.val ++ num 1 0) (a - (stageAddress s.cells.part k + 36))
        else if stageAddress s.cells.part k ≤ a ∧ a < stageAddress s.cells.part k + 22 then
          byteAt (deliverHead s n) (a - stageAddress s.cells.part k)
        else s.cells.mem.read a := by
  rw [startDelivery_starts run up idle fifo filled, hostKick_pac, hostKick_cells]
  exact ⟨rfl, rfl, rfl, fun a bound => read_headDelivered bound⟩

theorem startDelivery_host_busy (busy : s.host.sending.isSome = true) : (startDelivery s).host = s.host := by
  unfold startDelivery
  split
  · split
    · rfl
    · rename_i k rest _
      split
      · rename_i o n _
        exact (congrArg State.host (hostKick_busy (s := headDelivered k rest o n s) busy)).trans rfl
      · rfl
  · rfl

end

theorem byteAt_slice {bytes : List Byte} {offset n k : Nat} (h : k < n) :
    byteAt (slice bytes offset n) k = byteAt bytes (offset + k) := by
  simp [byteAt, slice, List.getD_eq_getElem?_getD, h]

/-! ## A BLOCK taken -/

section
variable {s : State} {h : Handover} {i : Slot} {x : Session} {g : Grant}

/-- A BLOCK accepted, before a delivery may start: payload and header fields written, the slot FILLED and in the FIFO,
the session's counts changed (R123). -/
def blockTaken (i : Slot) (x : Session) (g : Grant) (h : Handover) (s : State) : State :=
  onSlot i (fun slot => { slot with session := some (x.accepted g.seq) })
    { setStage g.stage (.filled { slot := i, tag := x.tag, seq := g.seq } h.value)
        (writeCells (stageAddress s.cells.part g.stage + 64) (slice h.payload 12 h.value)
          (writeCells (stageAddress s.cells.part g.stage + 22)
            (num 2 x.tag.toNat ++ num 4 g.seq ++ num 6 x.peer.toNat ++ num 2 h.value) s)) with
      pac.fifo := s.pac.fifo ++ [g.stage], pac.blocksTaken := satAdd s.pac.blocksTaken 1 }

/-- A frame is a BLOCK only where its value is at least 1 and at most 8,128, with that many bytes behind the header
(R111). -/
theorem message_block (block : h.message = some .block) :
    h.value ≤ 8128 ∧ (slice h.payload 12 h.value).length = h.value := by
  unfold Handover.message at block
  split at block
  · nomatch block
  · nomatch block
  · split at block
    · nomatch block
    · rename_i lengths
      simp only [not_or, not_lt] at lengths
      obtain ⟨-, most, carried⟩ := lengths
      exact ⟨most, by simpa [slice] using carried⟩
  · nomatch block

theorem block_taken {rest : List Handover} (incoming : s.pac.incoming = h :: rest) (block : h.message = some .block)
    (slot : s.pac.slotOf h.peer = some (i, x)) (tag : x.tag = h.tag) (lawful : x.lawful) (granted : g ∈ x.outstanding)
    (seq : g.seq = h.seq) :
    exec .block s = .next (startDelivery (blockTaken i x g h { s with pac.incoming := rest })) := by
  have found : (x.outstanding.find? fun y => decide (y.seq = h.seq)) = some g := by
    cases found : x.outstanding.find? fun y => decide (y.seq = h.seq) with
    | none => exact absurd (List.find?_eq_none.mp found g granted) (by simp [seq])
    | some f =>
      have same : f.seq = g.seq := by simpa [seq] using List.find?_some found
      rw [grant_of_seq lawful (List.mem_of_find?_eq_some found) granted same]
  have taken : takeBlock h { s with pac.incoming := rest } = acceptBlock i x g h { s with pac.incoming := rest } := by
    have slot' : ({ s.pac with incoming := rest } : Pacing).slotOf h.peer = some (i, x) := slot
    unfold takeBlock
    dsimp only
    rw [slot']
    dsimp only
    rw [if_pos tag, found]
  simp only [exec, execBlock, takeHandover, incoming, block, if_true, taken]
  rfl

/-- The bytes of a state in which a BLOCK has been accepted. -/
theorem read_blockTaken {a : Nat} (bound : a < storeBytes) (length : (slice h.payload 12 h.value).length = h.value) :
    (blockTaken i x g h s).cells.mem.read a =
      if stageAddress s.cells.part g.stage + 64 ≤ a ∧ a < stageAddress s.cells.part g.stage + 64 + h.value then
        byteAt (slice h.payload 12 h.value) (a - (stageAddress s.cells.part g.stage + 64))
      else if stageAddress s.cells.part g.stage + 22 ≤ a ∧ a < stageAddress s.cells.part g.stage + 36 then
        byteAt (num 2 x.tag.toNat ++ num 4 g.seq ++ num 6 x.peer.toNat ++ num 2 h.value)
          (a - (stageAddress s.cells.part g.stage + 22))
      else s.cells.mem.read a := by
  have mem : (blockTaken i x g h s).cells.mem =
      (s.cells.mem.writeRun (stageAddress s.cells.part g.stage + 22)
        (num 2 x.tag.toNat ++ num 4 g.seq ++ num 6 x.peer.toNat ++ num 2 h.value)).writeRun
          (stageAddress s.cells.part g.stage + 64) (slice h.payload 12 h.value) := rfl
  rw [mem, Memory.read_writeRun _ _ _ _ bound, Memory.read_writeRun _ _ _ _ bound, length]
  simp only [List.length_append, num_length]
  rfl

end

/-- Settles O38: the bytes an accepted BLOCK writes, then those that the start of a delivery adds. -/
theorem acceptedBlocksFillTheirStageSlot : Obligations.AcceptedBlocksFillTheirStageSlot := by
  intro s h rest i x g base owner head hhead incoming block slot tag lawful granted seq inStage hbase within howner
  obtain ⟨most, length⟩ := message_block block
  refine ⟨_, block_taken incoming block slot tag lawful granted seq, ?_⟩
  obtain ⟨u, hu⟩ : ∃ u, blockTaken i x g h { s with pac.incoming := rest } = u := ⟨_, rfl⟩
  rw [hu]
  have part : u.cells.part = s.cells.part := hu ▸ rfl
  have address : stageAddress u.cells.part g.stage = base := by rw [part, hbase]; rfl
  have bytes : ∀ a < storeBytes, u.cells.mem.read a =
      if base + 64 ≤ a ∧ a < base + 64 + h.value then byteAt (slice h.payload 12 h.value) (a - (base + 64))
      else if base + 22 ≤ a ∧ a < base + 36 then
        byteAt (num 2 x.tag.toNat ++ num 4 g.seq ++ num 6 x.peer.toNat ++ num 2 h.value) (a - (base + 22))
      else s.cells.mem.read a := by
    intro a bound
    rw [← hu, read_blockTaken bound length, ← address, part]
  have inSlot (j : Nat) (near : j < 8192) (behind : 22 ≤ j) (between : j < 36 ∨ 38 ≤ j) :
      (startDelivery u).cells.mem.read (base + j) = u.cells.mem.read (base + j) := by
    have bound : stageAddress u.cells.part g.stage + j < storeBytes := by omega
    rw [← address]
    exact read_startDelivery bound near behind between
  have pac : (startDelivery u).pac = _ := startDelivery_pac
  have other (j : Slot) (hj : j ≠ i) : u.pac.slots[j] = s.pac.slots[j] := by
    rw [← hu]
    exact getElem_vecMod_ne _ _ _ _ hj
  have session : u.pac.slots[i].session = some (x.accepted h.seq) := by
    rw [← hu, ← seq]
    simp [blockTaken]
  have outside : ∀ a, a < storeBytes → a < base ∨ base + 8192 ≤ a → u.cells.mem.read a = s.cells.mem.read a := by
    intro a bound apart
    rw [bytes a bound, if_neg (by omega), if_neg (by omega)]
  have stage : u.pac.stage = s.pac.stage.set g.stage (.filled owner h.value) := by rw [← hu, howner]; rfl
  have fifo : u.pac.fifo = s.pac.fifo ++ [g.stage] := by rw [← hu]; rfl
  have delivery : u.pac.delivery = s.pac.delivery := by rw [← hu]; rfl
  have host : u.host = s.host := by rw [← hu]; rfl
  have pow : u.pow = s.pow := by rw [← hu]; rfl
  have header (n : Nat) : deliverHead u n = head n := by
    have cfg : u.cfg = s.cfg := by rw [← hu]; rfl
    simp [deliverHead, hhead, host, cfg]
  refine ⟨fun k hk => ?_, fun k hk => ?_, ?_, ?_, fun j hj => ?_, ?_, ?_, ?_, ?_, ?_, fun waits => ?_,
    fun run up idle => ⟨fun busy => ?_, fun empty => ?_, fun k ks o n area hfifo apart bound filled harea below => ?_⟩⟩
  · rw [Nat.add_assoc, inSlot (64 + k) (by omega) (by omega) (by omega), bytes _ (by omega), if_pos (by omega),
      ← byteAt_slice hk]
    congr 1
    omega
  · rw [Nat.add_assoc, inSlot (22 + k) (by omega) (by omega) (by omega), bytes _ (by omega), if_neg (by omega),
      if_pos (by omega)]
    congr 1
    omega
  · rw [pac, ← hu]
    rfl
  · rw [pac]
    exact session
  · rw [pac]
    exact other j hj
  · rw [pac, ← hu]
    rfl
  · rw [pac, ← hu]
    rfl
  · rw [startDelivery_bay, ← hu]
    rfl
  · rw [startDelivery_hold, ← hu]
    rfl
  · rw [startDelivery_pow, pow]
  · have still : startDelivery u = u := by
      refine startDelivery_waits (.inr ?_)
      rw [pow, host, delivery]
      exact waits
    rw [still]
    exact ⟨stage, fifo, delivery, host, outside⟩
  · rw [startDelivery_host_busy (by rw [host]; exact busy), host]
  · have started := startDelivery_header (s := u) (k := g.stage) (ks := []) (o := owner) (n := h.value)
      (by rw [pow]; exact run) (by rw [host]; exact up) (by rw [delivery]; exact idle) (by rw [fifo, empty]; rfl)
      (by rw [stage, List.getD_eq_getElem?_getD, List.getElem?_set_self inStage]; rfl)
    rw [address, header] at started
    obtain ⟨newStage, newFifo, newDelivery, reads⟩ := started
    refine ⟨by rw [newStage, stage, List.set_set], newFifo, newDelivery, fun j hj => ?_, fun j hj => ?_,
      fun a bound apart => ?_⟩
    · rw [reads _ (by omega), if_neg (by omega), if_pos (by omega), Nat.add_sub_cancel_left]
    · rw [reads _ (by omega), if_pos (by omega), Nat.add_sub_cancel_left, howner]
      rfl
    · rw [reads a bound, if_neg (by omega), if_neg (by omega), outside a bound apart]
  · have started := startDelivery_header (s := u) (k := k) (ks := (ks ++ [g.stage])) (o := o) (n := n)
      (by rw [pow]; exact run) (by rw [host]; exact up) (by rw [delivery]; exact idle) (by rw [fifo, hfifo]; rfl)
      (by rw [stage, List.getD_eq_getElem?_getD, List.getElem?_set_ne apart.symm, ← List.getD_eq_getElem?_getD, filled])
    have address' : stageAddress u.cells.part k = area := by rw [part, harea]; rfl
    rw [address', header] at started
    obtain ⟨newStage, newFifo, newDelivery, reads⟩ := started
    refine ⟨by rw [newStage, stage], newFifo, newDelivery, fun j hj => ?_, fun j hj => ?_,
      fun a bound apart notHeader => ?_⟩
    · rw [reads _ (by omega), if_neg (by omega), if_pos (by omega), Nat.add_sub_cancel_left]
    · rw [reads _ (by omega), if_pos (by omega), Nat.add_sub_cancel_left]
      rfl
    · rw [reads a bound, if_neg (by omega), if_neg (by omega), outside a bound apart]

end Sys2Proof.Machine
end

section
/-! SUPPORT and proofs: the reset (O5). -/

namespace Sys2Proof.Machine

/-! ## The part held in reset -/

/-- A part on which no command but a reset has any effect: held in reset, its links DOWN, nothing in any queue, no
session, no timer of a bay or an answer record running (R185). -/
structure AtRest (s : State) : Prop where
  held : s.pow.held ≠ none
  asleep : s.pow.box = .sleep
  unpowered : s.pow.pwrEn = false
  lanDown : s.lan.up = false
  lanIdle : s.lan.sending = none
  hostDown : s.host.up = false
  hostIdle : s.host.sending = none
  noRequest : s.host.requests = []
  noDeferred : s.mgmt.deferred = []
  noQuestion : s.ans.questions = []
  noHoldoff : ∀ i : Fin 16, s.ans.records[i].timer = none
  noHandover : s.pac.incoming = []
  noSession : ∀ i : Slot, s.pac.slots[i].session = none
  noRecord : s.hold.records = []
  noWindow : s.share.timer = none
  noSpin : ∀ i : Bay, s.bay.bays[i].spinTimer = none
  noIdle : ∀ i : Bay, s.bay.bays[i].idleTimer = none
  notProgramming : s.ret.inFlight = none

section
variable {s : State}

theorem requestHead_none (requests : s.host.requests = []) : requestHead s = none := by
  unfold requestHead
  rw [requests]
  cases s.mgmt.inHand <;> cases s.mgmt.deferred <;> rfl

theorem takeRequest_none (requests : s.host.requests = []) (kind : ReqKind) (act : Request → List Byte → State → Reply)
    (after : State → State) : takeRequest kind act after s = s := by
  unfold takeRequest
  rw [requestHead_none requests]

theorem takeHandover_none (incoming : s.pac.incoming = []) (message : Option MsgKind) (act : Handover → State → State) :
    takeHandover message act s = s := by
  unfold takeHandover
  rw [incoming]

theorem haltIf_idle {i : Slot} (idle : s.pac.slots[i].session = none) (cond : State → Session → Bool)
    (cause : HaltCause) : haltIf cond i cause s = s := by
  unfold haltIf
  rw [idle]

/-- With the H-port DOWN no notice qualifies (R178). -/
theorem buildNotices_down (down : s.host.up = false) : buildNotices s = s :=
  List.foldl_fixed' (fun kind => by simp [buildNotice, noticeQualifies, down]) _

/-- While a part is at rest no command but a reset has any effect (R185). -/
theorem AtRest.exec (rest : AtRest s) {c : Instr} (notPowerOn : ∀ a b, c ≠ .powerOn a b)
    (notPanelReset : ∀ a b n, c ≠ .panelReset a b n) : exec c s = .next s := by
  cases c
  case powerOn a b => exact absurd rfl (notPowerOn a b)
  case panelReset a b n => exact absurd rfl (notPanelReset a b n)
  case loadFlows | continueFlows | settleFlows | unsettleFlows | readFlow | readFlowStatus | setDefaultAction |
      setPartition | readPartition | loadAnswer | clearAnswer | readAnswer | sleep | ready | heartbeat | setWake |
      readWake | setClock | setAlarms | setTiming | readHold | clearHold | spinUp | spinDown | setBays | readBays |
      setProfile | readSession | haltSession | setShare | setNotices | readNotices | programRetained | readRetained =>
    exact congrArg Host.Outcome.next (takeRequest_none rest.noRequest ..)
  case offer | block | withdraw | pacingFrameMalformed =>
    exact congrArg Host.Outcome.next (takeHandover_none rest.noHandover ..)
  case seqExhausted slot | stallExpiry slot =>
    exact congrArg Host.Outcome.next (haltIf_idle (rest.noSession slot) ..)
  case unknownRequest =>
    simp [Machine.exec, execUnknownRequest, takeUnknown, requestHead_none rest.noRequest]
  case mgmtFrameTooShort =>
    simp [Machine.exec, execMgmtFrameTooShort, discardShort, requestHead_none rest.noRequest]
  case grantIssue =>
    refine congrArg Host.Outcome.next (arbitrate_none fun i y session => ?_)
    rw [rest.noSession i] at session
    nomatch session
  case noticeBuild => exact congrArg Host.Outcome.next (buildNotices_down rest.hostDown)
  case recordStale position =>
    have none : s.hold.records.modify position (HeldRecord.aged s.hold.limit s.time.ms) = s.hold.records := by
      rw [rest.noRecord]
      cases position <;> rfl
    exact congrArg (fun records => Host.Outcome.next { s with hold.records := records }) none
  case grantExpiry slot seq => simp [-Fin.getElem_fin, Machine.exec, execGrantExpiry, rest.noSession slot]
  case lanFrameTaken frame => simp [Machine.exec, execLanFrameTaken, rest.lanDown]
  case questionTaken => simp [Machine.exec, execQuestionTaken, rest.noQuestion]
  case holdoffExpiry record => simp [-Fin.getElem_fin, Machine.exec, execHoldoffExpiry, rest.noHoldoff record]
  case shareWindowExpiry => simp [Machine.exec, execShareWindowExpiry, rest.noWindow]
  case hostDownAsserted => simp [Machine.exec, execHostDownAsserted, rest.asleep]
  case entryDeadlineExpiry => simp [Machine.exec, execEntryDeadlineExpiry, rest.asleep]
  case stabilizationExpiry => simp [Machine.exec, execStabilizationExpiry, rest.asleep]
  case bootDeadlineExpiry => simp [Machine.exec, execBootDeadlineExpiry, rest.asleep]
  case retryOffExpiry => simp [Machine.exec, execRetryOffExpiry, rest.asleep]
  case heartbeatLapse => simp [Machine.exec, execHeartbeatLapse, rest.asleep]
  case buttonEvent edge => simp [Machine.exec, execButtonEvent, rest.held]
  case minuteEntered => simp [Machine.exec, execMinuteEntered, rest.held]
  case bayInsertion bay => simp [Machine.exec, execBayInsertion, rest.held]
  case bayRemoval bay => simp [Machine.exec, execBayRemoval, rest.held]
  case spinExpiry bay => simp [-Fin.getElem_fin, Machine.exec, execSpinExpiry, rest.noSpin bay]
  case idleExpiry bay => simp [-Fin.getElem_fin, Machine.exec, execIdleExpiry, rest.noIdle bay]
  case activityEdge bay edge => simp [Machine.exec, execActivityEdge, rest.held]
  case lanLinkDown => simp [Machine.exec, execLanLinkDown, rest.lanDown]
  case lanLinkUp => simp [Machine.exec, execLanLinkUp, Option.isSome_iff_ne_none.mpr rest.held]
  case lanFrameSent => simp [Machine.exec, execLanFrameSent, rest.lanIdle]
  case hostFrameReceived frame => simp [Machine.exec, execHostFrameReceived, rest.hostDown]
  case hPortUp => simp [Machine.exec, execHPortUp, rest.unpowered]
  case hPortDown => simp [Machine.exec, execHPortDown, portDown, rest.hostDown]
  case hostLinkFrameSent => simp [Machine.exec, execHostLinkFrameSent, rest.hostIdle]
  case programmingComplete => simp [Machine.exec, execProgrammingComplete, rest.notProgramming]
  case programResponseBuilt => simp [Machine.exec, execProgramResponseBuilt, rest.noDeferred]

end

/-! ## Entering and leaving the reset -/

section
variable {presence activity : BaySet} {clock : Clock} {ms : Nat} {s : State}

theorem holdReset_atRest : AtRest (holdReset presence activity clock ms s) where
  held := nofun
  asleep := rfl
  unpowered := rfl
  lanDown := rfl
  lanIdle := rfl
  hostDown := rfl
  hostIdle := rfl
  noRequest := rfl
  noDeferred := rfl
  noQuestion := rfl
  noHoldoff i := by simp [holdReset, State.reset, AnswerRecord.blank]
  noHandover := rfl
  noSession := resetAll_session presence activity clock s
  noRecord := rfl
  noWindow := rfl
  noSpin i := by simp [holdReset, resetBays]
  noIdle i := by simp [holdReset, resetBays]
  notProgramming := rfl

/-- The state in which a part held in reset is when the reset ends: the reset state that it was given at the start, with
the clock run on (R185, R186). -/
theorem step_holdReset :
    step { holdReset presence activity clock ms s with pending := [] } =
      .next { resetAll presence activity (clock.runOn ms) s with pending := [] } := by
  have present : (baysWhere fun i => (resetBays s.ret presence activity).bays[i].present) = presence :=
    baySet_eq fun i => by simp [resetBays]
  have active : (baysWhere fun i => (resetBays s.ret presence activity).bays[i].active) = activity :=
    baySet_eq fun i => by simp [resetBays]
  change Host.Outcome.next (resetAll (baysWhere fun i => (resetBays s.ret presence activity).bays[i].present)
    (baysWhere fun i => (resetBays s.ret presence activity).bays[i].active) (clock.runOn ms) _) = _
  rw [present, active]
  rfl

/-- The time on a clock, in ms, that has run on (R52, R186). -/
theorem runOn_set {c : Clock} (set : c.set = true) :
    (c.runOn ms).set = true ∧
      (c.runOn ms).minute * 60000 + (c.runOn ms).count =
        (c.minute * 60000 + c.count + c.due.toNat + ms) % 604800000 := by
  unfold Clock.runOn
  rw [if_pos set]
  refine ⟨rfl, ?_⟩
  dsimp only
  omega

theorem runOn_unset {c : Clock} (unset : c.set = false) : c.runOn ms = c := by
  simp [Clock.runOn, unset]

end

/-! ## The retained records applied -/

theorem resetPartition_applied {r : Retained} :
    PartitionApplied (!r.copies[(3 : Fin 8)].isEmpty) (r.contents 3) (resetPartition r) := by
  unfold PartitionApplied resetPartition
  cases r.copies[(3 : Fin 8)].isEmpty with
  | true => simp [Partition.factory]
  | false => simp [partitionAllowed_iff, Partition.factory]

theorem resetPower_behaviour (r : Retained) (clock : Clock) :
    BehaviourApplied (r.contents 4) (resetPower r clock) := by
  refine ⟨rfl, rfl, rfl, rfl, fun stay => ?_, fun wake => ?_⟩
  · simp [resetPower, stay]
  · simpa [resetPower] using wake

theorem armModeOf_getD (b : Byte) : (armModeOf b).getD .continuous = if b = 0 then .oneShot else .continuous := by
  revert b
  decide

theorem buttonEdgeOf_getD (b : Byte) : (buttonEdgeOf b).getD .press = if b = 1 then .release else .press := by
  revert b
  decide

theorem presenceEdgeOf_getD (b : Byte) : (presenceEdgeOf b).getD .insert = if b = 1 then .remove else .insert := by
  revert b
  decide

theorem activityEdgeOf_getD (b : Byte) : (activityEdgeOf b).getD .rising =
    if b.toNat = 1 then .falling else if b.toNat = 2 then .both else .rising := by
  revert b
  decide

theorem resetSource_applied (c : List Byte) {group : Nat} (own : group ≠ 0) :
    SourceApplied c group (resetSource c group) := by
  refine ⟨rfl, rfl, armModeOf_getD _, ?_⟩
  rw [natAt_one]
  by_cases carried : (byteAt c (4 * group + 2)).toNat < 16
  · simp [resetSource, strictBays, carried, own, Nat.le_of_lt_succ carried]
  · simp [resetSource, strictBays, carried, own]
    omega

/-- The bay set of LAN is the accumulated one (R48). -/
theorem resetSource_lan (c : List Byte) : SourceApplied c 0 { resetSource c 0 with bays := 0 } :=
  ⟨rfl, rfl, armModeOf_getD _, by simp⟩

/-- The nearer of two allowed values to `n`, the second when they are equally near (R58, R91). -/
def nearer (n best a : Nat) : Nat :=
  if max a n - min a n ≤ max best n - min best n then a else best

theorem nearest_cons (n low : Nat) (rest : List Nat) : nearest (low :: rest) n = rest.foldl (nearer n) low := by
  have self : nearer n low low = low := ite_self low
  exact congrArg (rest.foldl (nearer n)) self

/-- Of two allowed values the larger is the nearer from halfway on. -/
theorem nearer_eq {n low high : Nat} (h : low < high) :
    nearer n low high = if 2 * n < low + high then low else high := by
  unfold nearer
  split_ifs <;> omega

/-- In a rising list the first value stands below halfway to the second; from there on it is out. -/
theorem foldl_nearer {n low high : Nat} {rest : List Nat} (h : low < high) (rising : ∀ a ∈ rest, high < a) :
    (high :: rest).foldl (nearer n) low = if 2 * n < low + high then low else rest.foldl (nearer n) high := by
  rw [List.foldl_cons, nearer_eq h]
  split
  · rename_i near
    induction rest with
    | nil => rfl
    | cons a rest ih =>
      have above := rising a List.mem_cons_self
      rw [List.foldl_cons, nearer_eq (h.trans above), if_pos (by omega)]
      exact ih fun b hb => rising b (List.mem_cons_of_mem a hb)
  · rfl

theorem nearest_stabilization (n : Nat) :
    nearest [8, 16, 32, 64] n = if n < 12 then 8 else if n < 24 then 16 else if n < 48 then 32 else 64 := by
  rw [nearest_cons, foldl_nearer (by omega) (by simp), foldl_nearer (by omega) (by simp),
    foldl_nearer (by omega) (by simp), List.foldl_nil]
  split_ifs <;> omega

theorem nearest_boot (n : Nat) :
    nearest [2, 5, 10, 30, 60] n =
      if n < 4 then 2 else if n < 8 then 5 else if n < 20 then 10 else if n < 45 then 30 else 60 := by
  rw [nearest_cons, foldl_nearer (by omega) (by simp), foldl_nearer (by omega) (by simp),
    foldl_nearer (by omega) (by simp), foldl_nearer (by omega) (by simp), List.foldl_nil]
  split_ifs <;> omega

theorem clampIdle_eq (n : Nat) :
    clampIdle n =
      if n = 0 then 0 else if n < 8 then 5 else if n < 15 then 10 else if n < 25 then 20 else if n < 45 then 30
      else 60 := by
  rw [clampIdle, nearest_cons, foldl_nearer (by omega) (by simp), foldl_nearer (by omega) (by simp),
    foldl_nearer (by omega) (by simp), foldl_nearer (by omega) (by simp), List.foldl_nil]
  split_ifs <;> omega

theorem clampTiming_applied (c : List Byte) :
    TimingApplied c (clampTiming (natAt c 0 1) (natAt c 1 1) (natAt c 2 1) (natAt c 3 1)) := by
  have byte : natAt c 2 1 < 256 := natAt_lt c 2 1
  refine ⟨nearest_stabilization _, nearest_boot _, ?_, rfl⟩
  simp only [clampTiming, clamp]
  omega

theorem resetBays_applied (r : Retained) (presence activity : BaySet) :
    BaysApplied (r.contents 7) (resetBays r presence activity) := by
  refine ⟨rfl, fun i => ?_⟩
  have settings : (resetBays r presence activity).bays[i].settings =
      clampBay (clamp 1 8 (natAt (r.contents 7) 16 1)) (natAt (r.contents 7) (4 * i.val) 1)
        (natAt (r.contents 7) (4 * i.val + 1) 1) (natAt (r.contents 7) (4 * i.val + 2) 1)
        ((activityEdgeOf (byteAt (r.contents 7) (4 * i.val + 3))).getD .rising) := by
    simp [resetBays, parseBays]
  rw [settings, clampBay, clampIdle_eq, activityEdgeOf_getD, ← natAt_one]
  rfl

/-- A reset applies every retained record (R182, Table 11.2). -/
theorem resetAll_applies (presence activity : BaySet) (clock : Clock) (s : State) :
    RetainedApplied s.ret (resetAll presence activity clock s) := by
  intro c gives
  obtain rfl : s.ret.contents = c := funext fun i => contents_eq gives i
  refine ⟨rfl, resetPartition_applied, rfl, resetPower_behaviour .., resetSource_lan _,
    resetSource_applied _ (by decide), resetSource_applied _ (by decide), resetSource_applied _ (by decide),
    resetSource_applied _ (by decide), buttonEdgeOf_getD _, presenceEdgeOf_getD _, clampTiming_applied _, rfl, rfl,
    resetBays_applied .., fun i => Vector.getElem_ofFn ..⟩

/-- A bay after a reset: OFF or ABSENT by its presence line, with its timers stopped (R92). -/
theorem resetBays_bay (r : Retained) (presence activity : BaySet) (i : Bay) :
    (resetBays r presence activity).bays[i].state = (if hasBay presence i then .off else .absent) ∧
      (resetBays r presence activity).bays[i].pwr = false ∧ (resetBays r presence activity).bays[i].needed = 0 ∧
      (resetBays r presence activity).bays[i].spinTimer = none ∧
      (resetBays r presence activity).bays[i].idleTimer = none := by
  simp [resetBays]

theorem holdReset_unpowered (presence activity : BaySet) (clock : Clock) (ms : Nat) (s : State) (i : Bay) :
    (holdReset presence activity clock ms s).bay.bays[i].pwr = false := by
  simp [holdReset, resetBays]

/-- Settles O5: a part held in reset is at rest, and its reset ends in the reset state. -/
theorem powerOnResetsEveryBlock : Obligations.PowerOnResetsEveryBlock := by
  refine ⟨fun presence activity s => ?_, fun presence activity held s => ?_⟩
  · refine ⟨_, _, rfl, rfl, rfl, holdReset_unpowered _ _ _ _ s, rfl, rfl,
      fun c notPowerOn notPanelReset => holdReset_atRest.exec notPowerOn notPanelReset, step_holdReset,
      rfl, rfl, rfl, rfl, rfl, rfl, rfl, rfl, rfl, rfl, rfl, rfl, rfl, rfl, rfl, rfl, rfl, rfl, rfl, rfl, rfl, rfl, rfl,
      rfl, rfl, rfl, rfl, rfl, rfl, fun i => ?_, rfl, rfl, rfl, rfl, ?_, rfl, rfl,
      resetAll_applies presence activity _ s, fun i => ?_⟩
    · exact resetBays_bay s.ret presence activity i
    · obtain ⟨-, -, -, -, asleep, waking⟩ :=
        resetPower_behaviour s.ret { minute := 0, count := 0, set := false, due := false }
      split
      · exact (asleep ‹_›).1
      · exact (waking ‹_›).1
    · exact Vector.getElem_replicate ..
  · refine ⟨_, _, _, _, rfl, rfl, rfl, rfl, holdReset_unpowered _ _ _ _ s, rfl, rfl,
      fun c notPowerOn notPanelReset => holdReset_atRest.exec notPowerOn notPanelReset, step_holdReset, step_holdReset,
      rfl, ?_, fun unset => runOn_unset unset, fun set => ?_⟩
    · cases set : s.pow.clock.set with
      | true => exact (runOn_set set).1
      | false => exact (congrArg Clock.set (runOn_unset set)).trans set
    · rw [Nat.add_assoc _ (s.pow.held.getD 0)]
      exact (runOn_set set).2

end Sys2Proof.Machine
end

section
/-! SUPPORT and proofs: every step keeps the power controller's state agreed (O55). -/

namespace Sys2Proof.Machine

/-! ## What the host link unit leaves of the H-port -/

section
variable (s : State)

@[simp] theorem hostKick_host_up : (hostKick s).host.up = s.host.up := by
  unfold hostKick
  repeat' split
  all_goals rfl

@[simp] theorem queueResponse_host_up (data : List Byte) : (queueResponse data s).host.up = s.host.up := by
  unfold queueResponse
  split <;> simp

@[simp] theorem handDirect_host_up (data : List Byte) : (handDirect data s).host.up = s.host.up := by
  unfold handDirect
  split <;> simp

@[simp] theorem handReleased_host_up (data : List Byte) : (handReleased data s).host.up = s.host.up := by
  simp [handReleased]

@[simp] theorem respond_host_up (r : Request) (code : ResultCode) (data : List Byte) :
    (respond r code data s).host.up = s.host.up := by
  simp [respond]

theorem buildNotice_host_up (kind : NoticeKind) : (buildNotice kind s).host.up = s.host.up := by
  unfold buildNotice
  split <;> simp

@[simp] theorem buildNotices_host_up : (buildNotices s).host.up = s.host.up :=
  buildNotices_keeps (P := fun t => t.host.up = s.host.up) (fun kind t h => (buildNotice_host_up t kind).trans h) rfl

@[simp] theorem release_host_up : (release s).host.up = s.host.up := by
  refine releaseN_keeps (P := fun t => t.host.up = s.host.up) (fun r rest t _ _ h => ?_) (fun r rest t _ _ _ h => ?_)
    _ s rfl
  · simpa using h
  · simpa using h

@[simp] theorem heldSent_host_up : (heldSent s).host.up = s.host.up := by
  simp [heldSent]

@[simp] theorem startDelivery_host_up : (startDelivery s).host.up = s.host.up := by
  unfold startDelivery
  repeat' split
  all_goals simp

@[simp] theorem deliverySent_host_up : (deliverySent s).host.up = s.host.up := by
  unfold deliverySent
  repeat' split
  all_goals simp

@[simp] theorem reportSent_host_up (sent : HostSending) : (reportSent sent s).host.up = s.host.up := by
  cases sent <;> simp [reportSent]

@[simp] theorem portDown_host_up : (portDown s).host.up = false := by
  unfold portDown
  split
  · simp
  · simpa using ‹¬s.host.up = true›

@[simp] theorem railOff_host_up : (railOff s).host.up = false := by
  simp [railOff]

theorem railOff_pow : (railOff s).pow = { s.pow with rst := true, pwrEn := false } := by
  simp [railOff]

end

/-! ## The conditions on the power controller -/

/-- Lines, timers and latches agree with the box state (Figure 3.1, R35, R47, R164). -/
def PowerAgrees (s : State) : Prop :=
  LinesAgree s ∧ TimersAgree s ∧ LatchesAgree s

/-- Two states with the same power controller and the H-port alike. -/
structure SamePower (s t : State) : Prop where
  pow : t.pow = s.pow
  up : t.host.up = s.host.up

section
variable {s t u : State}

theorem SamePower.refl (s : State) : SamePower s s := ⟨rfl, rfl⟩

theorem SamePower.trans (h : SamePower s t) (k : SamePower t u) : SamePower s u :=
  ⟨k.pow.trans h.pow, k.up.trans h.up⟩

/-- The conditions are about the power controller and the H-port alone. -/
theorem PowerAgrees.of_same (h : PowerAgrees s) (same : SamePower s t) : PowerAgrees t := by
  simpa only [PowerAgrees, LinesAgree, TimersAgree, LatchesAgree, same.pow, same.up] using h

/-- With the H-port DOWN the conditions are about the power controller alone. -/
theorem powerAgrees_down (up : t.host.up = false)
    (lines : t.pow.pwrEn = t.pow.box.powered ∧ t.pow.rst = t.pow.box.heldInReset) (timers : TimersAgree t)
    (latches : LatchesAgree t) : PowerAgrees t :=
  ⟨⟨lines.1, lines.2, by simp [up]⟩, timers, latches⟩

/-- While the host is held in reset the H-port is DOWN (R164). -/
theorem PowerAgrees.down (h : PowerAgrees s) (held : s.pow.box.heldInReset = true) : s.host.up = false := by
  obtain ⟨⟨-, rst, up⟩, -, -⟩ := h
  rw [Bool.eq_false_iff]
  intro isUp
  have released := (up isUp).2
  rw [rst, held] at released
  nomatch released

end

end Sys2Proof.Machine
end

section
/-! SUPPORT and proofs: every operation of the power controller keeps its state agreed (O55). -/

namespace Sys2Proof.Machine

/-! ## What the operations make of the power controller -/

section
variable (s : State)

theorem enterRetryOff_pow : (enterRetryOff s).pow =
    { s.pow with
      rst := true, pwrEn := false, bootTimer := none, retryTimer := some 2000, box := .waking .retryOff } := by
  simp [enterRetryOff, railOff_pow]

@[simp] theorem enterRetryOff_host_up : (enterRetryOff s).host.up = false := by
  simp [enterRetryOff]

/-- The part in SLEEP at the end of sleep entry, before a pending source has started a wake (R38). -/
def entryDone (s : State) : State :=
  sleepReached { railOff s with pow.box := .sleep, pow.entryTimer := none }

theorem entryDone_pow : (entryDone s).pow =
    { s.pow with rst := true, pwrEn := false, box := .sleep, entryTimer := none } := by
  simp [entryDone, railOff_pow]

@[simp] theorem entryDone_host_up : (entryDone s).host.up = false := by
  simp [entryDone]

theorem completeEntry_eq : completeEntry s = if s.pow.anyPending then startWake (entryDone s) else entryDone s := by
  have pending : (entryDone s).pow.anyPending = s.pow.anyPending := by rw [entryDone_pow]; rfl
  rw [← pending]
  rfl

theorem wakeFault_pow : (wakeFault s).pow = { s.pow with box := .sleep, latch := true, retryTimer := none } := by
  simp [wakeFault]

/-- The part in RUN at the end of a wake, HOST_RECOVERED raised where the host was lost, before the units act (R44). -/
def awake (s : State) : State :=
  let t : State :=
    { s with
      pow.box := .run, pow.latch := false,
      pow.heartbeatTimer := if s.pow.timing.heartbeat = 0 then none else some (s.pow.timing.heartbeat * 1000) }
  if s.pow.record.causes = .hostLost then raise .hostRecovered (.hostRecovered s.pow.record.attempts) t else t

theorem runReached_eq : runReached s = startDelivery (releaseAndNotify (awake s)) := rfl

theorem awake_pow : (awake s).pow =
    { s.pow with
      box := .run, latch := false,
      heartbeatTimer :=
        if s.pow.timing.heartbeat = 0 then none else some (s.pow.timing.heartbeat * 1000) } := by
  unfold awake
  dsimp only
  split <;> simp

@[simp] theorem awake_host : (awake s).host = s.host := by
  unfold awake
  dsimp only
  split <;> simp

@[simp] theorem releaseAndNotify_host_up : (releaseAndNotify s).host.up = s.host.up := by
  unfold releaseAndNotify inEitherOrder
  dsimp only
  repeat' split
  all_goals simp

theorem runReached_pow : (runReached s).pow = (awake s).pow := by
  simp [runReached_eq]

@[simp] theorem runReached_host_up : (runReached s).host.up = s.host.up := by
  simp [runReached_eq]

/-- All that an event on a wake source does (R46, R47, Table 3.1). -/
theorem wakeEvent_cases (name : WakeName) (bays : BaySet) :
    wakeEvent name bays s = s ∨ (s.pow.box = .sleepEntry ∧ wakeEvent name bays s = latchWake name bays s) ∨
      (s.pow.box = .sleep ∧ wakeEvent name bays s = startWake (latchWake name bays s)) := by
  unfold wakeEvent
  split
  · cases box : s.pow.box <;> simp
  · exact .inl rfl

end

/-! ## The operations keep the conditions -/

section
variable {s : State}

/-- The end of sleep entry leaves a box in SLEEP, all agreed but what is pending. -/
theorem startWake_agrees (lines : LinesAgree s) (timers : TimersAgree s) (asleep : s.pow.box = .sleep) :
    PowerAgrees (startWake s) := by
  obtain ⟨entry, stab, boot, retry, heart⟩ := timers
  obtain ⟨-, rst, up⟩ := lines
  refine powerAgrees_down ?_ ?_ ⟨?_, ?_, ?_, ?_, ?_⟩ ⟨?_, ?_⟩
  · rw [startWake_host, Bool.eq_false_iff]
    intro isUp
    have released := (up isUp).2
    rw [rst, asleep] at released
    nomatch released
  all_goals
    rw [startWake_pow]
    simp_all [BoxState.powered, BoxState.heldInReset, Power.anyPending, WakeSource.spent]

theorem latchWake_lines (name : WakeName) (bays : BaySet) (h : LinesAgree s) : LinesAgree (latchWake name bays s) := by
  cases name <;> exact h

theorem latchWake_timers (name : WakeName) (bays : BaySet) (h : TimersAgree s) :
    TimersAgree (latchWake name bays s) := by
  cases name <;> exact h

theorem latchWake_box (name : WakeName) (bays : BaySet) (s : State) :
    (latchWake name bays s).pow.box = s.pow.box := by
  cases name <;> rfl

theorem latchWake_latch (name : WakeName) (bays : BaySet) (s : State) :
    (latchWake name bays s).pow.latch = s.pow.latch := by
  cases name <;> rfl

theorem wakeEvent_agrees (name : WakeName) (bays : BaySet) (h : PowerAgrees s) :
    PowerAgrees (wakeEvent name bays s) := by
  obtain ⟨lines, timers, latch, -⟩ := id h
  obtain eq | ⟨entry, eq⟩ | ⟨asleep, eq⟩ := wakeEvent_cases s name bays
  · rwa [eq]
  · rw [eq]
    refine ⟨latchWake_lines _ _ lines, latchWake_timers _ _ timers, ?_, fun _ => (latchWake_box ..).trans entry⟩
    rwa [latchWake_latch, latchWake_box]
  · rw [eq]
    exact startWake_agrees (latchWake_lines _ _ lines) (latchWake_timers _ _ timers) ((latchWake_box ..).trans asleep)

theorem completeEntry_agrees (h : PowerAgrees s) (entry : s.pow.box = .sleepEntry) :
    PowerAgrees (completeEntry s) := by
  obtain ⟨-, ⟨-, stab, boot, retry, heart⟩, latch, -⟩ := h
  have lines : LinesAgree (entryDone s) := by
    refine ⟨?_, ?_, by simp⟩ <;> simp [entryDone_pow, BoxState.powered, BoxState.heldInReset]
  have timers : TimersAgree (entryDone s) := by
    simp_all [TimersAgree, entryDone_pow]
  have box : (entryDone s).pow.box = .sleep := by rw [entryDone_pow]
  rw [completeEntry_eq]
  split
  · exact startWake_agrees lines timers box
  · rename_i idle
    refine ⟨lines, timers, by simp [box], fun pending => absurd ?_ idle⟩
    rw [entryDone_pow] at pending
    exact pending

/-- Nothing is pending outside SLEEP_ENTRY (R47, R59). -/
theorem PowerAgrees.idle (h : PowerAgrees s) (box : s.pow.box ≠ .sleepEntry) : s.pow.anyPending = false := by
  obtain ⟨-, -, -, pending⟩ := h
  exact Bool.eq_false_iff.mpr fun isPending => box (pending isPending)

theorem enterRetryOff_agrees (timers : s.pow.entryTimer = none ∧ s.pow.stabTimer = none ∧ s.pow.heartbeatTimer = none)
    (idle : s.pow.anyPending = false) : PowerAgrees (enterRetryOff s) := by
  obtain ⟨entry, stab, heart⟩ := timers
  refine powerAgrees_down (by simp) ?_ ?_ ⟨?_, fun pending => ?_⟩
  · simp [enterRetryOff_pow, BoxState.powered, BoxState.heldInReset]
  · simp [TimersAgree, enterRetryOff_pow, entry, stab, heart]
  · simp [enterRetryOff_pow]
  · rw [enterRetryOff_pow] at pending
    exact nomatch idle.symm.trans pending

/-- The boot deadline's end (R43). -/
theorem bootExpired_agrees (h : PowerAgrees s) (boot : s.pow.box = .waking .hostBoot) :
    PowerAgrees (enterRetryOff s) := by
  refine enterRetryOff_agrees ?_ (h.idle (by simp [boot]))
  obtain ⟨-, ⟨entry, stab, -, -, heart⟩, -⟩ := h
  simpa [boot] using And.intro entry (And.intro stab heart)

/-- The lapse of the heartbeat window (R57). -/
theorem hostLost_agrees (h : PowerAgrees s) (run : s.pow.box = .run) : PowerAgrees (enterRetryOff (leaveRun s)) := by
  have idle := h.idle (by simp [run])
  obtain ⟨-, ⟨entry, stab, -, -, -⟩, -⟩ := h
  simp only [run, reduceCtorEq, decide_false, Option.isSome_eq_false_iff, Option.isNone_iff_eq_none] at entry stab
  exact enterRetryOff_agrees ⟨entry, stab, rfl⟩ idle

/-- The second attempt (R43). -/
theorem secondAttempt_agrees (h : PowerAgrees s) (off : s.pow.box = .waking .retryOff) :
    PowerAgrees (enterRailSettle { s with pow.attempts := 2, pow.retryTimer := none }) := by
  have down := h.down (by simp [off, BoxState.heldInReset])
  have idle := h.idle (by simp [off])
  obtain ⟨-, ⟨entry, -, boot, -, heart⟩, -⟩ := h
  simp only [off] at entry boot heart
  exact powerAgrees_down down ⟨rfl, rfl⟩ ⟨entry, rfl, boot, rfl, heart⟩
    ⟨fun _ => ⟨nofun, nofun⟩, fun pending => nomatch idle.symm.trans pending⟩

/-- The end of the stabilization interval (R40). -/
theorem stabilized_agrees (h : PowerAgrees s) (settle : s.pow.box = .waking .railSettle) :
    PowerAgrees
      { s with
        pow.rst := false, pow.stabTimer := none, pow.box := .waking .hostBoot,
        pow.bootTimer := some (s.pow.timing.boot * 1000) } := by
  have down := h.down (by simp [settle, BoxState.heldInReset])
  have idle := h.idle (by simp [settle])
  obtain ⟨⟨pwrEn, -, -⟩, ⟨entry, -, -, retry, heart⟩, -⟩ := h
  simp only [settle] at pwrEn entry retry heart
  exact powerAgrees_down down ⟨pwrEn, rfl⟩ ⟨entry, rfl, rfl, retry, heart⟩
    ⟨fun _ => ⟨nofun, nofun⟩, fun pending => nomatch idle.symm.trans pending⟩

theorem wakeFault_agrees (h : PowerAgrees s) (off : s.pow.box = .waking .retryOff) : PowerAgrees (wakeFault s) := by
  have down := h.down (by simp [off, BoxState.heldInReset])
  have idle := h.idle (by simp [off])
  obtain ⟨⟨pwrEn, rst, -⟩, ⟨entry, stab, boot, -, heart⟩, -⟩ := h
  simp only [off] at pwrEn rst entry stab boot heart
  refine powerAgrees_down (by simpa using down) ?_ ⟨?_, ?_, ?_, ?_, ?_⟩ ⟨?_, fun pending => ?_⟩
  case refine_8 =>
    rw [wakeFault_pow] at pending
    exact nomatch idle.symm.trans pending
  all_goals rw [wakeFault_pow]
  · exact ⟨pwrEn, rst⟩
  · exact entry
  · exact stab
  · exact boot
  · rfl
  · exact heart
  · exact fun _ => ⟨nofun, nofun⟩

/-- RUN reached from HOST_BOOT, whose boot deadline READY has stopped (R42, R44). -/
theorem runReached_agrees (h : PowerAgrees s) (boot : s.pow.box = .waking .hostBoot) {t : State}
    (stopped : t.pow = { s.pow with bootTimer := none, record := t.pow.record }) (up : t.host.up = s.host.up) :
    PowerAgrees (runReached t) := by
  have idle := h.idle (by simp [boot])
  obtain ⟨⟨pwrEn, rst, link⟩, ⟨entry, stab, -, retry, -⟩, -⟩ := h
  rw [boot] at pwrEn rst entry stab retry
  have pow : (runReached t).pow =
      { s.pow with
        bootTimer := none, record := t.pow.record, box := .run, latch := false,
        heartbeatTimer :=
          if s.pow.timing.heartbeat = 0 then none else some (s.pow.timing.heartbeat * 1000) } := by
    rw [runReached_pow, awake_pow, stopped]
  refine ⟨⟨?_, ?_, fun isUp => ?_⟩, ⟨?_, ?_, ?_, ?_, ?_⟩, ?_, fun pending => ?_⟩
  case refine_10 =>
    rw [pow] at pending
    exact nomatch idle.symm.trans pending
  all_goals rw [pow]
  · exact pwrEn
  · exact rst
  · rw [runReached_host_up, up] at isUp
    exact link isUp
  · exact entry
  · exact stab
  · rfl
  · exact retry
  · dsimp only
    split <;> simp [*]
  · nofun

/-- SLEEP taken in RUN (R37). -/
theorem sleepEntered_agrees (h : PowerAgrees s) (run : s.pow.box = .run) (entry : Nat) :
    PowerAgrees { leaveRun s with pow.box := .sleepEntry, pow.entryTimer := some entry } := by
  obtain ⟨⟨pwrEn, rst, link⟩, ⟨-, stab, boot, retry, -⟩, latch, -⟩ := h
  rw [run] at pwrEn rst stab boot retry latch
  exact ⟨⟨pwrEn, rst, link⟩, ⟨rfl, stab, boot, retry, rfl⟩, fun set => absurd rfl (latch set).1, fun _ => rfl⟩

/-- The H-port DOWN by the host's own doing (R169). -/
theorem portDown_agrees (h : PowerAgrees s) : PowerAgrees (portDown s) := by
  obtain ⟨⟨pwrEn, rst, -⟩, timers, latches⟩ := h
  have pow := portDown_pow s
  refine powerAgrees_down (portDown_host_up s) ?_ ?_ ?_
  · rw [pow]
    exact ⟨pwrEn, rst⟩
  · simpa only [TimersAgree, pow] using timers
  · simpa only [LatchesAgree, pow] using latches

theorem enterMinute_agrees (h : PowerAgrees s) : PowerAgrees (enterMinute s) := by
  unfold enterMinute
  split
  · dsimp only
    split
    · exact h
    · split
      · exact h
      · exact wakeEvent_agrees .alarm 0 h
  · exact h

end

end Sys2Proof.Machine
end

section
/-! SUPPORT and proofs: every step keeps the power controller's state agreed (O55): the commands. -/

namespace Sys2Proof.Machine

/-! ## Resets and time -/

section
variable {s : State}

theorem resetAll_agrees (presence activity : BaySet) (clock : Clock) (s : State) :
    PowerAgrees (resetAll presence activity clock s) := by
  have pow : (resetAll presence activity clock s).pow = resetPower s.ret clock := rfl
  refine powerAgrees_down rfl ?_ ⟨?_, ?_, ?_, ?_, ?_⟩ ⟨?_, ?_⟩ <;> rw [pow] <;> unfold resetPower <;>
    generalize decide (byteAt _ 0 ≠ 1) = wake <;> cases wake <;>
    simp [BoxState.powered, BoxState.heldInReset, Power.anyPending, resetSource]

theorem holdReset_agrees (presence activity : BaySet) (clock : Clock) (ms : Nat) (s : State) :
    PowerAgrees (holdReset presence activity clock ms s) :=
  powerAgrees_down rfl ⟨rfl, rfl⟩ ⟨rfl, rfl, rfl, rfl, rfl⟩ ⟨fun _ => ⟨nofun, nofun⟩, nofun⟩

theorem beforeClock_agrees (h : PowerAgrees s) : PowerAgrees (beforeClock s) := by
  have running (timer : Option Nat) : (runDown timer).isSome = timer.isSome := Option.isSome_map
  obtain ⟨lines, ⟨entry, stab, boot, retry, heart⟩, latches⟩ := h
  exact ⟨lines, ⟨(running _).trans entry, (running _).trans stab, (running _).trans boot, (running _).trans retry,
    (running _).trans heart⟩, latches⟩

theorem tickClock_agrees (h : PowerAgrees s) : PowerAgrees (tickClock s) := by
  obtain ⟨-, eq⟩ | ⟨-, -, eq⟩ | ⟨-, -, eq, -⟩ := tickClock_cases s <;> rw [eq]
  · exact h
  · exact h
  · exact enterMinute_agrees h

theorem idle_agrees (h : PowerAgrees s) : PowerAgrees (idle s) := by
  unfold idle
  split
  · exact resetAll_agrees ..
  · unfold tick
    dsimp only
    split
    · exact tickClock_agrees (beforeClock_agrees h)
    · exact h

/-! ## A LAN frame -/

theorem dispatchPass_same (f : FrameInHand) (m : MatchResult) : SamePower s (dispatchPass f m s) := by
  refine ⟨by simp, ?_⟩
  unfold dispatchPass
  dsimp only
  repeat' split
  all_goals simp

theorem dispatch_same (f : FrameInHand) (m : MatchResult) : SamePower s (dispatch f m s) := by
  refine ⟨by simp, ?_⟩
  unfold dispatch
  cases m.action with
  | pass => exact (dispatchPass_same f m).up
  | share =>
    dsimp only
    split
    · simpa using (dispatchPass_same f m).up
    · exact (dispatchPass_same f m).up
  | backup profile =>
    dsimp only
    split
    · rfl
    · exact (dispatchPass_same f m).up
  | proxy answer =>
    dsimp only
    split
    · exact (dispatchPass_same f m).up
    · simp
  | drop => rfl

theorem inEitherOrder_keeps {P : State → Prop} {f g : State → State}
    (counting : ∀ t n, P t → P { t with choices := n })
    (first : ∀ t, P t → P (f t)) (second : ∀ t, P t → P (g t)) (h : P s) : P (inEitherOrder f g s) := by
  unfold inEitherOrder
  dsimp only
  split
  · exact second _ (first _ (counting _ _ h))
  · exact first _ (second _ (counting _ _ h))

theorem eitherOrder_agrees {f g : State → State} (first : ∀ t, PowerAgrees t → PowerAgrees (f t))
    (second : ∀ t, PowerAgrees t → PowerAgrees (g t)) (h : PowerAgrees s) : PowerAgrees (inEitherOrder f g s) :=
  inEitherOrder_keeps (fun _ _ counted => counted) first second h

theorem raiseWakes_agrees (box : BoxState) (k : FrameKey) (m : MatchResult) (h : PowerAgrees s) :
    PowerAgrees (raiseWakes box k m s) := by
  have event (name : WakeName) (bays : BaySet) (t : State) : PowerAgrees t → PowerAgrees (wakeEvent name bays t) :=
    wakeEvent_agrees name bays
  unfold raiseWakes
  dsimp only
  split
  · split
    · exact eitherOrder_agrees (event _ _) (event _ _) h
    · exact event _ _ _ (event _ _ _ h)
  · split
    · exact event _ _ _ h
    · split
      · exact event _ _ _ h
      · exact h

theorem classifyFrame_agrees (frame : List Byte) (h : PowerAgrees s) : PowerAgrees (classifyFrame frame s) := by
  have taken (c : Classifier) : PowerAgrees { s with cls := c } := h
  unfold classifyFrame
  exact raiseWakes_agrees _ _ _ ((taken _).of_same (dispatch_same _ _))

/-! ## Bays -/

theorem presenceReport_agrees (edge : PresenceEdge) (h : PowerAgrees s) : PowerAgrees (presenceReport edge s) := by
  unfold presenceReport
  split
  · exact wakeEvent_agrees _ _ h
  · exact h

theorem withReport_agrees (edge : PresenceEdge) {other : State → State} (same : ∀ t, SamePower t (other t))
    (h : PowerAgrees s) : PowerAgrees (withReport edge other s) := by
  unfold withReport
  split
  · exact eitherOrder_agrees (fun _ => presenceReport_agrees edge) (fun t ht => ht.of_same (same t)) h
  · exact (presenceReport_agrees edge h).of_same (same _)

/-! ## Requests -/

theorem respond_same (r : Request) (code : ResultCode) (data : List Byte) : SamePower s (respond r code data s) :=
  ⟨by simp, by simp⟩

theorem dequeue_same (r : Request) (rest : List (List Byte)) : SamePower s (dequeue r rest s) :=
  ⟨rfl, rfl⟩

theorem takeRequest_agrees {kind : ReqKind} {act : Request → List Byte → State → Reply} {after : State → State}
    (acting : ∀ r p t, admission t.pow.box kind = .taken → PowerAgrees t → PowerAgrees (act r p t).state)
    (following : ∀ t, PowerAgrees t → PowerAgrees (after t)) (h : PowerAgrees s) :
    PowerAgrees (takeRequest kind act after s) :=
  takeRequest_keeps (fun r rest _ ht => ht.of_same (dequeue_same r rest))
    (fun _ _ _ _ ht => ht.of_same (respond_same _ _ _)) acting following h

theorem takePlain_agrees {kind : ReqKind} {act : List Byte → State → Reply}
    (acting : ∀ p t, admission t.pow.box kind = .taken → PowerAgrees t → PowerAgrees (act p t).state)
    (h : PowerAgrees s) : PowerAgrees (takePlain kind act s) :=
  takeRequest_agrees (fun _ p t => acting p t) (fun _ ht => ht) h

/-- A request whose rule leaves the power controller and the H-port. -/
theorem takePlain_same {kind : ReqKind} {act : List Byte → State → Reply}
    (acting : ∀ p t, SamePower t (act p t).state) (h : PowerAgrees s) : PowerAgrees (takePlain kind act s) :=
  takePlain_agrees (fun p t _ ht => ht.of_same (acting p t)) h

/-- The kinds of request that only RUN takes (Table 10.3). -/
theorem admission_run {box : BoxState} {kind : ReqKind} (setting : kind.isRead = false) (other : kind ≠ .ready)
    (h : admission box kind = .taken) : box = .run := by
  cases box with
  | run => rfl
  | sleepEntry => simp [admission, setting] at h
  | sleep => nomatch h
  | waking sub => cases sub <;> simp [admission, other] at h

theorem admission_ready {box : BoxState} (h : admission box .ready = .taken) : box = .waking .hostBoot := by
  cases box with
  | run | sleepEntry | sleep => nomatch h
  | waking sub =>
    cases sub with
    | hostBoot => rfl
    | railSettle | retryOff => nomatch h

end

end Sys2Proof.Machine
end

section
/-! SUPPORT and proofs: every step keeps the power controller's state agreed (O55): the requests and the step. -/

namespace Sys2Proof.Machine

section
variable {s : State} (p : List Byte)

/-! ## Requests that leave the power controller -/

theorem same_storeEntries (es : List FlowEntry) : SamePower s (storeEntries es s).state := ⟨rfl, rfl⟩

theorem same_actLoadFlows : SamePower s (actLoadFlows p s).state := by
  unfold actLoadFlows
  dsimp only
  repeat' split
  all_goals exact ⟨rfl, rfl⟩

theorem same_actContinueFlows : SamePower s (actContinueFlows p s).state := by
  unfold actContinueFlows
  split <;> exact ⟨rfl, rfl⟩

theorem same_actReadFlow : SamePower s (actReadFlow p s).state := by
  unfold actReadFlow
  dsimp only
  repeat' split
  all_goals exact ⟨rfl, rfl⟩

theorem same_actReadFlowStatus : SamePower s (actReadFlowStatus p s).state := by
  unfold actReadFlowStatus
  split <;> exact ⟨rfl, rfl⟩

theorem same_actSetDefaultAction : SamePower s (actSetDefaultAction p s).state := by
  unfold actSetDefaultAction
  split <;> exact ⟨rfl, rfl⟩

theorem same_actSetPartition : SamePower s (actSetPartition p s).state := by
  unfold actSetPartition
  dsimp only
  repeat' split
  all_goals exact ⟨rfl, rfl⟩

theorem same_actLoadAnswer : SamePower s (actLoadAnswer p s).state := by
  unfold actLoadAnswer
  dsimp only
  repeat' split
  all_goals exact ⟨rfl, rfl⟩

theorem same_actClearAnswer : SamePower s (actClearAnswer p s).state := by
  unfold actClearAnswer
  split <;> exact ⟨rfl, rfl⟩

theorem same_actReadAnswer : SamePower s (actReadAnswer p s).state := by
  unfold actReadAnswer
  dsimp only [Reply.ok]
  repeat' split
  all_goals exact ⟨rfl, rfl⟩

theorem same_actReadHold : SamePower s (actReadHold p s).state := by
  unfold actReadHold
  split <;> exact ⟨rfl, rfl⟩

theorem same_actSpinUp : SamePower s (actSpinUp p s).state := by
  unfold actSpinUp
  split
  · exact .refl s
  · exact ⟨by simp [Reply.ok], by simp [Reply.ok]⟩

theorem same_actSpinDown : SamePower s (actSpinDown p s).state := by
  unfold actSpinDown
  dsimp only [Reply.ok, Reply.refuse]
  repeat' split
  all_goals exact ⟨by simp, by simp⟩

theorem same_actSetBays : SamePower s (actSetBays p s).state := by
  unfold actSetBays
  repeat' split
  all_goals exact ⟨rfl, rfl⟩

theorem same_actSetProfile : SamePower s (actSetProfile p s).state := by
  unfold actSetProfile
  repeat' split
  all_goals exact ⟨rfl, rfl⟩

theorem same_actReadSession : SamePower s (actReadSession p s).state := by
  unfold actReadSession
  dsimp only [Reply.ok]
  repeat' split
  all_goals exact ⟨rfl, rfl⟩

theorem same_actHaltSession : SamePower s (actHaltSession p s).state := by
  unfold actHaltSession
  dsimp only [Reply.ok, Reply.refuse]
  repeat' split
  all_goals exact ⟨by simp, by simp⟩

theorem same_actSetNotices (r : Request) : SamePower s (actSetNotices r p s).state := by
  unfold actSetNotices
  split <;> exact ⟨rfl, rfl⟩

theorem same_actProgramRetained (r : Request) : SamePower s (actProgramRetained r p s).state := by
  unfold actProgramRetained
  repeat' split
  all_goals exact ⟨rfl, rfl⟩

theorem same_actReadRetained : SamePower s (actReadRetained p s).state := by
  unfold actReadRetained
  split <;> exact ⟨rfl, rfl⟩

theorem same_takeUnknown : SamePower s (takeUnknown s) := by
  unfold takeUnknown
  split
  · exact .refl s
  · split
    · exact .refl s
    · split
      · exact .refl s
      · split
        · exact (dequeue_same _ _).trans (respond_same _ _ _)
        · exact dequeue_same _ _

theorem same_discardShort : SamePower s (discardShort s) := by
  unfold discardShort
  repeat' split
  all_goals exact ⟨rfl, rfl⟩

/-! ## Requests about the power controller -/

/-- A setting taken in RUN keeps the conditions where it leaves all that they compare with the box state, but for a
heartbeat timer that runs while its window is not 0. -/
theorem setting_agrees (h : PowerAgrees s) (run : s.pow.box = .run) {q : Power}
    (stored : (q.box, q.latch, q.pwrEn, q.rst) = (s.pow.box, s.pow.latch, s.pow.pwrEn, s.pow.rst))
    (timers : (q.entryTimer, q.stabTimer, q.bootTimer, q.retryTimer) =
      (s.pow.entryTimer, s.pow.stabTimer, s.pow.bootTimer, s.pow.retryTimer))
    (heart : q.heartbeatTimer.isSome = decide (q.timing.heartbeat ≠ 0)) (pending : q.anyPending = s.pow.anyPending) :
    PowerAgrees { s with pow := q } := by
  simp only [Prod.mk.injEq] at stored timers
  obtain ⟨box, latch, pwrEn, rst⟩ := stored
  obtain ⟨entry, stab, boot, retry⟩ := timers
  obtain ⟨lines, ⟨hentry, hstab, hboot, hretry, -⟩, latches⟩ := h
  refine ⟨?_, ⟨?_, ?_, ?_, ?_, ?_⟩, ?_⟩
  · simpa only [LinesAgree, box, pwrEn, rst] using lines
  · simpa only [entry, box] using hentry
  · simpa only [stab, box] using hstab
  · simpa only [boot, box] using hboot
  · simpa only [retry, box] using hretry
  · simpa only [box, run, decide_true, Bool.true_and] using heart
  · simpa only [LatchesAgree, latch, box, pending] using latches

/-- The heartbeat timer runs in RUN while its window is not 0 (R56). -/
theorem PowerAgrees.heart (h : PowerAgrees s) (run : s.pow.box = .run) :
    s.pow.heartbeatTimer.isSome = decide (s.pow.timing.heartbeat ≠ 0) := by
  obtain ⟨-, ⟨-, -, -, -, heart⟩, -⟩ := h
  simpa only [run, decide_true, Bool.true_and] using heart

theorem actSleep_agrees (h : PowerAgrees s) (run : s.pow.box = .run) : PowerAgrees (actSleep p s).state := by
  unfold actSleep
  split
  · exact sleepEntered_agrees h run _
  · exact h

theorem actHeartbeat_agrees (h : PowerAgrees s) (run : s.pow.box = .run) : PowerAgrees (actHeartbeat p s).state := by
  unfold actHeartbeat
  split
  · exact h
  · rename_i window
    exact setting_agrees h run rfl rfl (by simp [window]) rfl

theorem setSource_anyPending (q : Power) (name : WakeName) (w : WakeSource) (h : w.pending = (q.source name).pending) :
    (q.setSource name w).anyPending = q.anyPending := by
  cases name <;> simp [Power.anyPending, Power.setSource, h, Power.source]

theorem actSetWake_agrees (h : PowerAgrees s) (run : s.pow.box = .run) : PowerAgrees (actSetWake p s).state := by
  unfold actSetWake
  split
  · rename_i name arm bays _ _ _
    split
    · exact h
    · refine setting_agrees h run ?_ ?_ ?_ (setSource_anyPending s.pow name _ rfl)
      · cases name <;> rfl
      · cases name <;> rfl
      · cases name <;> exact h.heart run
  · exact h

theorem actSetClock_agrees (h : PowerAgrees s) : PowerAgrees (actSetClock p s).state := h

theorem actSetAlarms_agrees (h : PowerAgrees s) : PowerAgrees (actSetAlarms p s).state := h

theorem actSetTiming_agrees (h : PowerAgrees s) (run : s.pow.box = .run) : PowerAgrees (actSetTiming p s).state := by
  refine setting_agrees h run rfl rfl ?_ rfl
  have heart := h.heart run
  dsimp only [heartbeatAfter]
  split
  · simp [*]
  · split
    · simp [*]
    · simp_all

/-- READY taken in HOST_BOOT stops the boot deadline, and RUN is reached behind the response (R42, R44). -/
theorem execReady_agrees (h : PowerAgrees s) : PowerAgrees (takeRequest .ready actReady runReached s) := by
  unfold takeRequest
  split
  · exact h
  · rename_i f rest _
    split
    · exact h
    · rename_i r _
      split
      · have taken : PowerAgrees (dequeue r rest s) := h
        unfold decideRequest
        split
        · exact taken
        · exact taken.of_same (respond_same ..)
        · rename_i admitted
          split
          · exact taken.of_same (respond_same ..)
          · split
            · exact taken.of_same (respond_same ..)
            · dsimp only [actReady, Reply.ok]
              exact runReached_agrees taken (admission_ready admitted) (by simp) (by simp)
      · exact h

end

/-! ## The commands -/

section
variable {s t : State}

theorem PowerAgrees.of_next {u : State} (h : PowerAgrees t)
    (next : (Host.Outcome.next t : Host.Outcome State Fault Refusal) = .next u) : PowerAgrees u := by
  cases next
  exact h

/-- Of the operations behind a command, one that leaves the power controller and the H-port keeps the conditions. -/
theorem PowerAgrees.of_unchanged (h : PowerAgrees s) (pow : t.pow = s.pow) (up : t.host.up = s.host.up) :
    PowerAgrees t :=
  h.of_same ⟨pow, up⟩

theorem takeHandover_agrees (message : Option MsgKind) {act : Handover → State → State}
    (acting : ∀ h t, SamePower t (act h t)) (h : PowerAgrees s) : PowerAgrees (takeHandover message act s) := by
  have taken (rest : List Handover) : PowerAgrees { s with pac.incoming := rest } := h
  unfold takeHandover
  split
  · exact h
  · split
    · exact (taken _).of_same (acting _ _)
    · exact h

theorem takeBlock_same (h : Handover) : SamePower s (takeBlock h s) := by
  refine ⟨by simp, ?_⟩
  unfold takeBlock acceptBlock
  dsimp only
  repeat' split
  all_goals simp

theorem inAnyOrder_same {f g h : State → State} (hf : ∀ t, SamePower t (f t)) (hg : ∀ t, SamePower t (g t))
    (hh : ∀ t, SamePower t (h t)) : SamePower s (inAnyOrder f g h s) := by
  have counted : SamePower s { s with choices := s.choices + 3 } := ⟨rfl, rfl⟩
  unfold inAnyOrder
  dsimp only
  split
  · exact ((counted.trans (hf _)).trans (hg _)).trans (hh _)
  · exact ((counted.trans (hf _)).trans (hh _)).trans (hg _)
  · exact ((counted.trans (hh _)).trans (hf _)).trans (hg _)
  · exact ((counted.trans (hh _)).trans (hg _)).trans (hf _)
  · exact ((counted.trans (hg _)).trans (hh _)).trans (hf _)
  · exact ((counted.trans (hg _)).trans (hf _)).trans (hh _)

/-- The H-port UP, with the rail on and the host out of reset (R164). -/
theorem portUp_agrees (h : PowerAgrees s) (rail : s.pow.pwrEn = true ∧ s.pow.rst = false) :
    PowerAgrees { s with host.up := true } := by
  obtain ⟨⟨pwrEn, rst, -⟩, timers, latches⟩ := h
  exact ⟨⟨pwrEn, rst, fun _ => rail⟩, timers, latches⟩

/-- Every command keeps the power controller's state agreed. -/
theorem exec_agrees {c : Instr} (h : PowerAgrees s) (next : exec c s = .next t) : PowerAgrees t := by
  cases c with
  | powerOn presence activity => exact (holdReset_agrees ..).of_next next
  | panelReset presence activity ms => exact (holdReset_agrees ..).of_next next
  | lanFrameTaken frame =>
    refine PowerAgrees.of_next ?_ next
    split
    · exact classifyFrame_agrees frame h
    · exact h
  | questionTaken =>
    refine PowerAgrees.of_next ?_ next
    split
    · exact h
    · exact h.of_unchanged (by simp) (by simp)
  | holdoffExpiry record =>
    refine PowerAgrees.of_next ?_ next
    split
    · exact h
    · exact h
  | offer => exact (takeHandover_agrees _ (fun _ _ => ⟨by simp, by simp⟩) h).of_next next
  | block => exact (takeHandover_agrees _ (fun h _ => takeBlock_same h) h).of_next next
  | withdraw => exact (takeHandover_agrees _ (fun _ _ => ⟨by simp, by simp⟩) h).of_next next
  | pacingFrameMalformed =>
    exact (takeHandover_agrees none (act := fun _ t => protocolError t) (fun _ _ => ⟨rfl, rfl⟩) h).of_next next
  | grantIssue => exact (h.of_unchanged (by simp) (by simp)).of_next next
  | seqExhausted slot => exact (h.of_unchanged (by simp) (by simp)).of_next next
  | grantExpiry slot seq =>
    refine PowerAgrees.of_next ?_ next
    repeat' split
    all_goals exact h.of_unchanged (by simp) (by simp)
  | stallExpiry slot => exact (h.of_unchanged (by simp) (by simp)).of_next next
  | shareWindowExpiry =>
    refine PowerAgrees.of_next ?_ next
    split
    · exact h
    · exact h
  | recordStale position =>
    refine PowerAgrees.of_next ?_ next
    exact h
  | hostDownAsserted =>
    refine PowerAgrees.of_next ?_ next
    split
    · rename_i entry
      exact completeEntry_agrees h entry
    · exact h
  | entryDeadlineExpiry =>
    refine PowerAgrees.of_next ?_ next
    split
    · rename_i due
      exact completeEntry_agrees (s := raise _ _ s) h due.1
    · exact h
  | stabilizationExpiry =>
    refine PowerAgrees.of_next ?_ next
    split
    · rename_i due
      exact stabilized_agrees h due.1
    · exact h
  | bootDeadlineExpiry =>
    refine PowerAgrees.of_next ?_ next
    split
    · rename_i due
      exact bootExpired_agrees h due.1
    · exact h
  | retryOffExpiry =>
    refine PowerAgrees.of_next ?_ next
    split
    · rename_i due
      split
      · exact secondAttempt_agrees h due.1
      · split
        · exact wakeFault_agrees h due.1
        · exact h
    · exact h
  | heartbeatLapse =>
    refine PowerAgrees.of_next ?_ next
    split
    · rename_i due
      exact hostLost_agrees h due.1
    · exact h
  | buttonEvent edge =>
    refine PowerAgrees.of_next ?_ next
    split
    · split
      · exact h
      · exact wakeEvent_agrees _ _ h
    · exact h
  | minuteEntered =>
    refine PowerAgrees.of_next ?_ next
    split
    · exact enterMinute_agrees h
    · exact h
  | bayInsertion bay =>
    refine PowerAgrees.of_next ?_ next
    split
    · dsimp only
      split
      · exact withReport_agrees _ (fun _ => ⟨by simp, by simp⟩) (h.of_unchanged (by simp) (by simp))
      · exact presenceReport_agrees _ (h.of_unchanged (by simp) (by simp))
    · exact h
  | bayRemoval bay =>
    refine PowerAgrees.of_next ?_ next
    dsimp only
    split
    · exact h
    · split
      · exact withReport_agrees _ (fun _ => ⟨by simp, by simp⟩) (h.of_unchanged (by simp) (by simp))
      · exact presenceReport_agrees _ (h.of_unchanged (by simp) (by simp))
  | spinExpiry bay =>
    refine PowerAgrees.of_next ?_ next
    split
    · exact h.of_unchanged (by simp) (by simp)
    · exact h
  | idleExpiry bay =>
    refine PowerAgrees.of_next ?_ next
    split
    · exact h
    · exact h
  | activityEdge bay edge =>
    refine PowerAgrees.of_next ?_ next
    split
    · exact h
    · exact h
  | lanLinkDown =>
    refine PowerAgrees.of_next ?_ next
    split
    · exact h.of_unchanged (by simp) (by simp)
    · exact h
  | lanLinkUp =>
    refine PowerAgrees.of_next ?_ next
    split
    · exact h
    · exact h.of_unchanged (by simp) (by simp)
  | lanFrameSent =>
    refine PowerAgrees.of_next ?_ next
    split
    · exact h
    all_goals exact h.of_unchanged (by simp) (by simp)
  | hostFrameReceived frame =>
    refine PowerAgrees.of_next ?_ next
    dsimp only
    repeat' split
    all_goals exact h.of_unchanged (by simp) (by simp)
  | hPortUp =>
    refine PowerAgrees.of_next ?_ next
    split
    · rename_i may
      simp only [Bool.and_eq_true, Bool.not_eq_true'] at may
      have up : PowerAgrees (hostKick (raise .linkChange (.linkChange .host true) { s with host.up := true })) :=
        (portUp_agrees h may.1).of_unchanged (by simp) (by simp)
      dsimp only
      split
      · exact up.of_same (inAnyOrder_same (fun _ => ⟨by simp, by simp⟩) (fun _ => ⟨by simp, by simp⟩)
          fun _ => ⟨by simp, by simp⟩)
      · exact up
    · exact h
  | hPortDown => exact (portDown_agrees h).of_next next
  | hostLinkFrameSent =>
    refine PowerAgrees.of_next ?_ next
    split
    · exact h
    · dsimp only
      split
      all_goals exact h.of_unchanged (by simp) (by simp)
  | noticeBuild => exact (h.of_unchanged (by simp) (by simp)).of_next next
  | programmingComplete =>
    refine PowerAgrees.of_next ?_ next
    split
    · exact h
    · dsimp only
      split
      all_goals exact h.of_unchanged (by simp) (by simp)
  | programResponseBuilt =>
    refine PowerAgrees.of_next ?_ next
    split
    · exact h
    · split
      all_goals exact h.of_unchanged (by simp) (by simp)
  | unknownRequest => exact (h.of_same same_takeUnknown).of_next next
  | mgmtFrameTooShort => exact (h.of_same same_discardShort).of_next next
  | loadFlows => exact (takePlain_same (fun p _ => same_actLoadFlows p) h).of_next next
  | continueFlows => exact (takePlain_same (fun p _ => same_actContinueFlows p) h).of_next next
  | settleFlows => exact (takePlain_same (act := actSettleFlows) (fun _ _ => ⟨rfl, rfl⟩) h).of_next next
  | unsettleFlows => exact (takePlain_same (act := actUnsettleFlows) (fun _ _ => ⟨rfl, rfl⟩) h).of_next next
  | readFlow => exact (takePlain_same (fun p _ => same_actReadFlow p) h).of_next next
  | readFlowStatus => exact (takePlain_same (fun p _ => same_actReadFlowStatus p) h).of_next next
  | setDefaultAction => exact (takePlain_same (fun p _ => same_actSetDefaultAction p) h).of_next next
  | setPartition => exact (takePlain_same (fun p _ => same_actSetPartition p) h).of_next next
  | readPartition => exact (takePlain_same (act := actReadPartition) (fun _ t => .refl t) h).of_next next
  | loadAnswer => exact (takePlain_same (fun p _ => same_actLoadAnswer p) h).of_next next
  | clearAnswer => exact (takePlain_same (fun p _ => same_actClearAnswer p) h).of_next next
  | readAnswer => exact (takePlain_same (fun p _ => same_actReadAnswer p) h).of_next next
  | readWake => exact (takePlain_same (act := actReadWake) (fun _ t => .refl t) h).of_next next
  | readHold => exact (takePlain_same (fun p _ => same_actReadHold p) h).of_next next
  | clearHold => exact (takePlain_same (act := actClearHold) (fun _ _ => ⟨rfl, rfl⟩) h).of_next next
  | spinUp => exact (takePlain_same (fun p _ => same_actSpinUp p) h).of_next next
  | spinDown => exact (takePlain_same (fun p _ => same_actSpinDown p) h).of_next next
  | setBays => exact (takePlain_same (fun p _ => same_actSetBays p) h).of_next next
  | readBays => exact (takePlain_same (act := actReadBays) (fun _ t => .refl t) h).of_next next
  | setProfile => exact (takePlain_same (fun p _ => same_actSetProfile p) h).of_next next
  | readSession => exact (takePlain_same (fun p _ => same_actReadSession p) h).of_next next
  | haltSession => exact (takePlain_same (fun p _ => same_actHaltSession p) h).of_next next
  | setShare => exact (takePlain_same (act := actSetShare) (fun _ _ => ⟨rfl, rfl⟩) h).of_next next
  | readNotices => exact (takePlain_same (act := actReadNotices) (fun _ _ => ⟨rfl, rfl⟩) h).of_next next
  | readRetained => exact (takePlain_same (fun p _ => same_actReadRetained p) h).of_next next
  | setNotices =>
    exact (takeRequest_agrees (fun r p _ _ ht => ht.of_same (same_actSetNotices p r))
      (fun _ ht => ht.of_unchanged (by simp) (by simp)) h).of_next next
  | programRetained =>
    exact (takeRequest_agrees (fun r p _ _ ht => ht.of_same (same_actProgramRetained p r)) (fun _ ht => ht) h).of_next
      next
  | ready => exact (execReady_agrees h).of_next next
  | sleep =>
    refine PowerAgrees.of_next (takePlain_agrees (fun p _ taken ht => ?_) h) next
    exact actSleep_agrees p ht (admission_run (kind := .sleep) rfl nofun taken)
  | heartbeat =>
    refine PowerAgrees.of_next (takePlain_agrees (fun p _ taken ht => ?_) h) next
    exact actHeartbeat_agrees p ht (admission_run (kind := .heartbeat) rfl nofun taken)
  | setWake =>
    refine PowerAgrees.of_next (takePlain_agrees (fun p _ taken ht => ?_) h) next
    exact actSetWake_agrees p ht (admission_run (kind := .setWake) rfl nofun taken)
  | setClock => exact (takePlain_agrees (fun p _ _ ht => actSetClock_agrees p ht) h).of_next next
  | setAlarms => exact (takePlain_agrees (fun p _ _ ht => actSetAlarms_agrees p ht) h).of_next next
  | setTiming =>
    refine PowerAgrees.of_next (takePlain_agrees (fun p _ taken ht => ?_) h) next
    exact actSetTiming_agrees p ht (admission_run (kind := .setTiming) rfl nofun taken)

theorem step_agrees (h : PowerAgrees s) (next : step s = .next t) : PowerAgrees t := by
  unfold step at next
  split at next
  · exact (idle_agrees h).of_next next
  · have waiting (rest : List Instr) : PowerAgrees { s with pending := rest } := h
    exact exec_agrees (waiting _) next

end

/-- Settles O55: by the commands, each of which keeps the conditions. -/
theorem stepsKeepPowerAgreed : Obligations.StepsKeepPowerAgreed :=
  fun _ _ kept next => step_agrees kept next

end Sys2Proof.Machine
end

section
/-! SUPPORT and proofs: the requests of the power controller: SLEEP (O19), the settings (O27), SET_WAKE (O28). -/

namespace Sys2Proof.Machine

/-! ## SLEEP -/

theorem allSlots_all (p : Slot → Bool) : allSlots.all p = true ↔ ∀ i : Slot, p i = true := by
  have slots : ∀ i : Slot, i ∈ allSlots := by decide
  simp [slots]

/-- Settles O19. -/
theorem sleepNeedsEverySlotIdle : Obligations.SleepNeedsEverySlotIdle := by
  intro s r p rest h
  have idle : (allSlots.all fun i => (dequeue r rest s).pac.slots[i].session.isNone) = true ↔
      ∀ i : Slot, s.pac.slots[i].session = none := by
    rw [allSlots_all]
    simp [dequeue]
  refine ⟨fun ⟨i, busy⟩ => ?_, fun free => ⟨(leaveRun s).pac.slots, ?_, fun i => ?_⟩⟩
  · refine congrArg Host.Outcome.next (takePlain_refuse h (by decide) ?_)
    exact if_neg fun all => busy (idle.mp all i)
  · refine congrArg Host.Outcome.next (takePlain_ok h ?_)
    exact if_pos (idle.mpr free)
  · have unheld := free i
    simp only [leaveRun, fallSessions, Fin.getElem_fin, getElem_vecMap] at unheld ⊢
    rw [unheld, Option.map_none, ← unheld]

/-! ## The settings -/

theorem clampMinute_eq (minute : Nat) : clampMinute minute = min minute 10079 := by
  unfold clampMinute clamp
  omega

/-- A clock just set, as its response carries it (R54). -/
theorem carried_setClock (minute : Nat) :
    Clock.carried { minute := minute, count := 0, set := true, due := false } = num 2 minute ++ [0, 0] ++ [1] :=
  have zero : num 2 0 = [0, 0] := by decide
  congrArg (num 2 minute ++ · ++ [1]) zero

/-- The eight entries of an alarm table as a response carries them (R55). -/
theorem alarmsCarried_eq (alarms : Vector Alarm 8) :
    alarmsCarried alarms = ((List.finRange 8).map fun i => flag alarms[i].on ++ num 2 alarms[i].minute).flatten := by
  unfold alarmsCarried
  congr 1
  refine List.ext_getElem (by simp) fun i hi _ => ?_
  simp

/-- The alarm table that SET_ALARMS stores (R55). -/
def storedAlarms (p : List Byte) : Vector Alarm 8 :=
  Vector.ofFn fun i =>
    { on := decide (byteAt p (3 * i.val) ≠ 0), minute := clampMinute (natAt p (3 * i.val + 1) 2) }

/-- The nearest of the four stabilization settings, the larger of two equally near (R58). -/
theorem nearest_stabilization_least (n : Nat) : nearest [8, 16, 32, 64] n ∈ [8, 16, 32, 64] ∧
    ∀ v ∈ [8, 16, 32, 64],
      (max (nearest [8, 16, 32, 64] n) n - min (nearest [8, 16, 32, 64] n) n < max v n - min v n) ∨
      (max (nearest [8, 16, 32, 64] n) n - min (nearest [8, 16, 32, 64] n) n = max v n - min v n ∧
        v ≤ nearest [8, 16, 32, 64] n) := by
  rw [nearest_stabilization]
  simp only [List.mem_cons, List.not_mem_nil, or_false, forall_eq_or_imp, forall_eq]
  split_ifs <;> omega

/-- The nearest of the five boot deadlines, the larger of two equally near (R58). -/
theorem nearest_boot_least (n : Nat) : nearest [2, 5, 10, 30, 60] n ∈ [2, 5, 10, 30, 60] ∧
    ∀ v ∈ [2, 5, 10, 30, 60],
      (max (nearest [2, 5, 10, 30, 60] n) n - min (nearest [2, 5, 10, 30, 60] n) n < max v n - min v n) ∨
      (max (nearest [2, 5, 10, 30, 60] n) n - min (nearest [2, 5, 10, 30, 60] n) n = max v n - min v n ∧
        v ≤ nearest [2, 5, 10, 30, 60] n) := by
  rw [nearest_boot]
  simp only [List.mem_cons, List.not_mem_nil, or_false, forall_eq_or_imp, forall_eq]
  split_ifs <;> omega

/-- Settles O27. -/
theorem powerSettingsAreStored : Obligations.PowerSettingsAreStored := by
  refine ⟨fun kind listed box => ?_, fun s r p rest h => ?_, fun s r p rest h => ?_, fun s r p rest h => ?_,
    fun s r p rest h => ?_⟩
  · simp only [List.mem_cons, List.not_mem_nil, or_false] at listed
    obtain rfl | rfl | rfl | rfl := listed <;>
      exact ⟨fun taken => admission_run (by rfl) (by decide) taken, fun run => run ▸ rfl⟩
  · refine congrArg Host.Outcome.next (takePlain_ok h ?_)
    rw [← clampMinute_eq, ← carried_setClock]
    rfl
  · refine ⟨storedAlarms p, congrArg Host.Outcome.next (takePlain_ok h ?_), fun i => ?_⟩
    · rw [← alarmsCarried_eq]
      rfl
    · rw [← clampMinute_eq]
      exact Vector.getElem_ofFn ..
  · obtain ⟨-, -, heartbeat, entry⟩ := clampTiming_applied p
    obtain ⟨stabilization, stabilizationLeast⟩ := nearest_stabilization_least (natAt p 0 1)
    obtain ⟨boot, bootLeast⟩ := nearest_boot_least (natAt p 1 1)
    exact ⟨clampTiming (natAt p 0 1) (natAt p 1 1) (natAt p 2 1) (natAt p 3 1),
      congrArg Host.Outcome.next (takePlain_ok h rfl), stabilization, boot, heartbeat, entry, stabilizationLeast,
      bootLeast⟩
  · exact congrArg Host.Outcome.next (takePlain_ok h rfl)

/-! ## SET_WAKE -/

theorem armModeOf_eq (b : Byte) :
    armModeOf b = if b.toNat ≤ 1 then some (if b.toNat = 0 then .oneShot else .continuous) else none := by
  revert b
  decide

theorem buttonEdgeOf_eq (b : Byte) :
    buttonEdgeOf b = if b.toNat ≤ 1 then some (if b.toNat = 0 then .press else .release) else none := by
  revert b
  decide

theorem presenceEdgeOf_eq (b : Byte) :
    presenceEdgeOf b = if b.toNat ≤ 1 then some (if b.toNat = 0 then .insert else .remove) else none := by
  revert b
  decide

theorem wakeNameOf_eq_none {b : Byte} (h : 4 < b.toNat) : wakeNameOf b = none := by
  unfold wakeNameOf
  split
  case h_6 => rfl
  all_goals omega

section
variable {p : List Byte} {s : State}

/-- The source after SET_WAKE has stored its enable, arm mode and, but for LAN, its bay set (R59). -/
def storedSource (p : List Byte) (name : WakeName) (w : WakeSource) : WakeSource :=
  { w with
    enable := decide (natAt p 1 1 ≠ 0), arm := if natAt p 2 1 = 0 then .oneShot else .continuous,
    bays := if name = .lan then w.bays else BitVec.ofNat 4 (natAt p 3 1) }

/-- The power controller after SET_WAKE has stored the settings of a source and the edge selects (R59). -/
def storedPower (p : List Byte) (name : WakeName) (edges : ButtonEdge × PresenceEdge) (q : Power) : Power :=
  { q.setSource name (storedSource p name (q.source name)) with buttonEdge := edges.1, bayEdge := edges.2 }

theorem nonzero_iff (b : Byte) : b ≠ 0 ↔ b.toNat ≠ 0 := by
  revert b
  decide

/-- SET_WAKE with a source, an arm mode, a bay set and an edge select that name something allowed (R59). -/
theorem actSetWake_stores {name : WakeName} {edges : ButtonEdge × PresenceEdge} (arm : natAt p 2 1 ≤ 1)
    (bays : natAt p 3 1 ≤ 15) (named : wakeNameOf (byteAt p 0) = some name)
    (edge : storeEdges s.pow name (byteAt p 4) = some edges) :
    actSetWake p s =
      .ok { s with pow := storedPower p name edges s.pow } ((storedPower p name edges s.pow).sourceSettings name) := by
  rw [natAt_one] at arm bays
  have set : strictBays (byteAt p 3) = some (BitVec.ofNat 4 (byteAt p 3).toNat) := if_pos (by omega)
  simp only [actSetWake, named, armModeOf_eq, if_pos arm, set, edge, storedPower, storedSource, natAt_one,
    nonzero_iff]

/-- SET_WAKE with a value that names nothing allowed (R59). -/
theorem actSetWake_refuses (bad : 4 < natAt p 0 1 ∨ 1 < natAt p 2 1 ∨ 15 < natAt p 3 1 ∨
    ((natAt p 0 1 = 2 ∨ natAt p 0 1 = 4) ∧ 1 < natAt p 4 1)) : actSetWake p s = .refuse s .badArgument := by
  simp only [natAt_one] at bad
  unfold actSetWake
  split
  · rename_i name arm bays named armed set
    have source : ¬4 < (byteAt p 0).toNat := fun high => nomatch named.symm.trans (wakeNameOf_eq_none high)
    have mode : (byteAt p 2).toNat ≤ 1 := by
      by_contra high
      simp [armModeOf_eq, high] at armed
    have within : (byteAt p 3).toNat < 16 := by
      by_contra high
      simp [strictBays, high] at set
    obtain ⟨selects, high⟩ : ((byteAt p 0).toNat = 2 ∨ (byteAt p 0).toNat = 4) ∧ 1 < (byteAt p 4).toNat := by omega
    have edge : storeEdges s.pow name (byteAt p 4) = none := by
      obtain button | bay := selects
      · obtain rfl : .button = name := by simpa [wakeNameOf, button] using named
        simp [storeEdges, buttonEdgeOf_eq, Nat.not_le.mpr high]
      · obtain rfl : .bay = name := by simpa [wakeNameOf, bay] using named
        simp [storeEdges, presenceEdgeOf_eq, Nat.not_le.mpr high]
    rw [edge]
  · rfl

/-- The edge selects that SET_WAKE stores: that of the source alone, where it has one (R59). -/
theorem storeEdges_button {q : Power} {b : Byte} (h : b.toNat ≤ 1) :
    storeEdges q .button b = some (if b.toNat = 0 then .press else .release, q.bayEdge) := by
  simp [storeEdges, buttonEdgeOf_eq, h]

theorem storeEdges_bay {q : Power} {b : Byte} (h : b.toNat ≤ 1) :
    storeEdges q .bay b = some (q.buttonEdge, if b.toNat = 0 then .insert else .remove) := by
  simp [storeEdges, presenceEdgeOf_eq, h]

end

/-- A request SET_WAKE that is stored, answered with the source's settings. -/
theorem execSetWake_stores {s : State} {r : Request} {p : List Byte} {rest : List (List Byte)} {name : WakeName}
    {edges : ButtonEdge × PresenceEdge} (h : Taken s .setWake r p rest) (arm : natAt p 2 1 ≤ 1)
    (bays : natAt p 3 1 ≤ 15) (named : wakeNameOf (byteAt p 0) = some name)
    (edge : storeEdges s.pow name (byteAt p 4) = some edges) :
    exec .setWake s =
      .next
        (respond r .ok ((storedPower p name edges s.pow).sourceSettings name)
          { dequeue r rest s with pow := storedPower p name edges s.pow }) :=
  congrArg Host.Outcome.next (takePlain_ok h (actSetWake_stores (s := dequeue r rest s) arm bays named edge))

/-- Settles O28: by the source that the request names. -/
theorem setWakeReplacesOneSource : Obligations.SetWakeReplacesOneSource := by
  intro s r p rest h
  refine ⟨fun bad => congrArg Host.Outcome.next (takePlain_refuse h (by decide) (actSetWake_refuses bad)),
    fun arm bays => ?_⟩
  have stores {name : WakeName} {edges : ButtonEdge × PresenceEdge} :=
    execSetWake_stores (name := name) (edges := edges) h arm bays
  have named {n : Nat} (source : natAt p 0 1 = n) : (byteAt p 0).toNat = n := (natAt_one p 0).symm.trans source
  rw [natAt_one p 4]
  refine ⟨fun source => ⟨_, stores (name := .lan) ?_ rfl⟩, fun source => ⟨_, stores (name := .signature) ?_ rfl⟩,
    fun source edge => ⟨_, stores (name := .button) ?_ (storeEdges_button edge)⟩,
    fun source => ⟨_, stores (name := .alarm) ?_ rfl⟩,
    fun source edge => ⟨_, stores (name := .bay) ?_ (storeEdges_bay edge)⟩⟩
  all_goals simp [wakeNameOf, named source]

end Sys2Proof.Machine
end

section
/-! SUPPORT and proofs: the wake sequence (O21), the loss of the host (O24), sleep entry (O20). -/

namespace Sys2Proof.Machine

/-! ## What the loss of the H-port and of the rail leaves -/

section
variable (s : State)

@[simp] theorem railOff_hold_records : (railOff s).hold.records = s.hold.records := by
  unfold railOff portDown
  dsimp only
  split
  · simp
  · rfl

/-- Of the notice kinds the loss of the host link raises LINK_CHANGE alone (R169). -/
theorem railOff_kind {k : Fin 9} (other : k ≠ NoticeKind.linkChange.index) :
    (railOff s).note.kinds[k] = s.note.kinds[k] := by
  have raised (detail : Detail) (t : State) (note : t.note = s.note) :
      (raise .linkChange detail t).note.kinds[k] = s.note.kinds[k] :=
    (getElem_vecMod_ne _ _ _ _ other).trans (congrArg (fun n : Notices => n.kinds[k]) note)
  unfold railOff portDown
  dsimp only
  split
  · exact raised _ _ (by simp)
  · rfl

end

/-! ## The wake sequence -/

/-- Settles O21. -/
theorem theWakeSequenceRunsByItsTimers : Obligations.TheWakeSequenceRunsByItsTimers := by
  refine ⟨fun s box expired => congrArg Host.Outcome.next (if_pos ⟨box, expired⟩),
    fun s box expired => ⟨_, congrArg Host.Outcome.next (if_pos ⟨box, expired⟩), ?_⟩,
    fun s box expired first => ?_, fun s => ⟨fun other => ?_, fun other => ?_, fun other => ?_⟩⟩
  · rw [enterRetryOff_pow]
    exact ⟨rfl, rfl, rfl, rfl, rfl, rfl, rfl, enterRetryOff_host_up s, by simp, railOff_hold_records s, railOff_slots⟩
  · exact congrArg Host.Outcome.next ((if_pos ⟨box, expired⟩).trans (if_pos first))
  · exact congrArg Host.Outcome.next (if_neg (by tauto))
  · exact congrArg Host.Outcome.next (if_neg (by tauto))
  · exact congrArg Host.Outcome.next (if_neg (by tauto))

/-! ## The loss of the host -/

/-- Settles O24. -/
theorem heartbeatLapseLosesTheHost : Obligations.HeartbeatLapseLosesTheHost := by
  refine ⟨fun s other => congrArg Host.Outcome.next (if_neg (by tauto)), fun s run expired => ?_⟩
  refine ⟨_, congrArg Host.Outcome.next (if_pos ⟨run, expired⟩), ?_⟩
  have sessions (i : Slot) : (enterRetryOff (leaveRun s)).pac.slots[i].session =
      s.pac.slots[i].session.map Session.fallen := by
    have slots : (enterRetryOff (leaveRun s)).pac.slots = (leaveRun s).pac.slots := railOff_slots
    rw [slots]
    simp [leaveRun, fallSessions]
  have share : (enterRetryOff (leaveRun s)).share = (leaveRun s).share := by simp
  dsimp only
  rw [enterRetryOff_pow, share]
  refine ⟨rfl, rfl, rfl, rfl, rfl, rfl, rfl, enterRetryOff_host_up _, rfl, rfl, by simp, ?_, by simp, sessions⟩
  exact railOff_hold_records _

/-! ## The bays at the reaching of SLEEP -/

/-- The part with every bay that is not ABSENT switched off (R106). -/
def baysOff (s : State) : State :=
  { s with
    bay.bays := vecMap (fun b => if b.state = .absent then b else b.unpowered .off) s.bay.bays,
    bay.queue := [] }

/-- A property of the part with its bays off that the loss of a READY bay keeps, the reaching of SLEEP has. -/
theorem sleepReached_keeps {P : State → Prop} (telling : ∀ b t, P t → P (reportUnready b t)) {s : State}
    (h : P (baysOff s)) : P (sleepReached s) := by
  have fold : ∀ (l : List Bay) (t : State), P t →
      P (l.foldl (fun t bay => if s.bay.bays[bay].state = .ready then reportUnready bay t else t) t) := by
    intro l
    induction l with
    | nil => exact fun t ht => ht
    | cons b bs ih =>
      intro t ht
      refine ih _ ?_
      beta_reduce
      split
      · exact telling b t ht
      · exact ht
  exact fold _ _ h

@[simp] theorem sleepReached_bay (s : State) : (sleepReached s).bay = (baysOff s).bay :=
  sleepReached_keeps (P := fun t => t.bay = (baysOff s).bay) (fun b t h => (reportUnready_bay b t).trans h) rfl

/-! ## Sleep entry -/

section
variable {s : State}

theorem entryDone_bay (s : State) : (entryDone s).bay = (baysOff s).bay := by
  have rail : (railOff s).bay = s.bay := railOff_bay s
  simp only [entryDone, sleepReached_bay, baysOff, rail]

@[simp] theorem completeEntry_host_up (s : State) : (completeEntry s).host.up = false := by
  rw [completeEntry_eq]
  split <;> simp

theorem completeEntry_kind (s : State) {k : Fin 9} (other : k ≠ NoticeKind.linkChange.index) :
    (completeEntry s).note.kinds[k] = s.note.kinds[k] := by
  have note : (completeEntry s).note = (railOff s).note := by
    rw [completeEntry_eq]
    split <;> simp [entryDone]
  exact (congrArg (fun n : Notices => n.kinds[k]) note).trans (railOff_kind s other)

/-- Sleep entry with nothing pending ends in SLEEP (R38, R106). -/
theorem completeEntry_asleep (idle : s.pow.anyPending = false) : completeEntry s = entryDone s := by
  rw [completeEntry_eq, idle]
  rfl

/-- Sleep entry with a source pending starts a wake (R39). -/
theorem completeEntry_wakes (pending : s.pow.anyPending = true) : completeEntry s = startWake (entryDone s) := by
  rw [completeEntry_eq, if_pos pending]

/-- A bay at the reaching of SLEEP (R106). -/
theorem baysOff_bay (s : State) (i : Bay) :
    (baysOff s).bay.bays[i].state = (if s.bay.bays[i].state = .absent then .absent else .off) ∧
      (baysOff s).bay.bays[i].needed = s.bay.bays[i].needed := by
  simp only [baysOff, Fin.getElem_fin, getElem_vecMap]
  split
  · exact ⟨by assumption, rfl⟩
  · exact ⟨rfl, rfl⟩

theorem spent_eq {spent : WakeSource → WakeSource} (h : ∀ w : WakeSource, spent w =
    { w with pending := false, enable := if w.pending = true ∧ w.arm = .oneShot then false else w.enable }) :
    spent = WakeSource.spent := by
  funext w
  rw [h, WakeSource.spent]
  congr 1
  cases w.enable <;> cases w.pending <;> cases w.arm <;> rfl

theorem hasBay_carried (w : WakeSource) (b : Bay) : hasBay w.carried b = (w.pending && hasBay w.bays b) := by
  unfold WakeSource.carried
  cases w.pending with
  | true => simp
  | false => exact hasBay_zero b

theorem wakeBays_eq {p : Power} {demanded : BaySet} (h : ∀ b : Bay, hasBay demanded b =
    ((p.lan.pending && hasBay p.lan.bays b) || (p.signature.pending && hasBay p.signature.bays b) ||
      (p.button.pending && hasBay p.button.bays b) || (p.alarm.pending && hasBay p.alarm.bays b) ||
      (p.bay.pending && hasBay p.bay.bays b))) : demanded = p.wakeBays := by
  refine baySet_eq fun b => ?_
  simp only [h, Power.wakeBays, hasBay_or, hasBay_carried]

/-- What the completion of sleep entry leaves (R38, R39, R39a, R106). -/
theorem completeEntry_leaves (s : State) :
    (completeEntry s).pow.rst = true ∧ (completeEntry s).pow.entryTimer = none ∧
      (completeEntry s).pow.anyPending = false := by
  cases pending : s.pow.anyPending with
  | true =>
    rw [completeEntry_wakes pending, startWake_pow, entryDone_pow]
    exact ⟨rfl, rfl, by simp [Power.anyPending, WakeSource.spent]⟩
  | false =>
    rw [completeEntry_asleep pending, entryDone_pow]
    exact ⟨rfl, rfl, pending⟩

/-- Settles O20: sleep entry completes in the same way by either command, but for the notice. -/
theorem sleepEntryCompletes : Obligations.SleepEntryCompletes := by
  refine ⟨fun s other => congrArg Host.Outcome.next (if_neg other),
    fun s other => congrArg Host.Outcome.next (if_neg (by tauto)), fun s c entry command => ?_⟩
  obtain ⟨v, run, pow, bay, forced⟩ : ∃ v : State, exec c s = .next (completeEntry v) ∧ v.pow = s.pow ∧
      v.bay = s.bay ∧ (c = .entryDeadlineExpiry → v.note.kinds[(6 : Fin 9)].pending = true ∧
        v.note.kinds[(6 : Fin 9)].detail = some (.entryForced s.pow.timing.entry)) := by
    obtain rfl | ⟨rfl, expired⟩ := command
    · exact ⟨s, congrArg Host.Outcome.next (if_pos entry), rfl, rfl, nofun⟩
    · exact ⟨_, congrArg Host.Outcome.next (if_pos ⟨entry, expired⟩), rfl, rfl, fun _ => by
        simp [getElem_vecMod, NoticeKind.index]⟩
  obtain ⟨rst, timer, idle⟩ := completeEntry_leaves v
  refine ⟨_, run, completeEntry_host_up v, rst, timer, idle, ?_, fun none => ?_,
    fun pending demanded spent union used => ?_⟩
  · rwa [completeEntry_kind v (by decide)]
  · rw [completeEntry_asleep (by rwa [pow]), entryDone_pow, entryDone_bay, pow]
    refine ⟨rfl, rfl, fun i => ?_⟩
    rw [← bay]
    exact baysOff_bay v i
  · obtain rfl := spent_eq used
    obtain rfl := wakeBays_eq union
    have woken : (startWake (entryDone v)).pow.record.demanded = s.pow.wakeBays := by
      rw [startWake_pow, entryDone_pow, pow]
      rfl
    rw [completeEntry_wakes (by rwa [pow])]
    refine ⟨?_, ?_⟩
    · rw [startWake_pow, entryDone_pow, pow]
      rfl
    · rw [← woken]
      refine startWake_demands ?_
      rw [entryDone_bay, baysOff, bay]
      rfl

end

end Sys2Proof.Machine
end

section
/-! SUPPORT and proofs: the wake fault (O22), and the events of the button (O25) and the clock (O26). -/

namespace Sys2Proof.Machine

/-! ## The halt of many sessions -/

/-- A session slot after the halt of its session, where a test names it (R130). -/
def SessionSlot.haltedWhere (p : Session → Bool) (cause : HaltCause) (slot : SessionSlot) : SessionSlot :=
  match slot.session with
  | some x =>
    if p x then
      { session := none, leftBehind := if cause = .wakeFault then slot.leftBehind else slot.leftBehind + x.undelivered }
    else slot
  | none => slot

/-- One turn of halting the sessions that a test names. -/
def haltTurn (p : Session → Bool) (cause : HaltCause) (i : Slot) (s : State) : State :=
  match s.pac.slots[i].session with
  | some x => if p x then haltSession i cause s else s
  | none => s

section
variable (p : Session → Bool) (cause : HaltCause) {s : State}

theorem haltWhere_eq : haltWhere p cause s = allSlots.foldl (fun t i => haltTurn p cause i t) s := rfl

theorem haltTurn_slots (i j : Slot) : (haltTurn p cause i s).pac.slots[j] =
    if j = i then s.pac.slots[j].haltedWhere p cause else s.pac.slots[j] := by
  have halted : ∀ x, s.pac.slots[i].session = some x → (haltSession i cause s).pac.slots[j] =
      if j = i then
        { session := none,
          leftBehind :=
            if cause = .wakeFault then s.pac.slots[j].leftBehind else s.pac.slots[j].leftBehind + x.undelivered }
      else s.pac.slots[j] := by
    intro x session
    rw [haltSession_slots session]
    by_cases own : j = i
    · subst own
      simp
    · rw [if_neg own]
      exact getElem_vecMod_ne _ _ _ _ own
  unfold haltTurn
  split
  · rename_i x session
    split
    · rename_i named
      rw [halted x session]
      split
      · rename_i own
        subst own
        simp only [SessionSlot.haltedWhere, session, named, if_true]
      · rfl
    · rename_i other
      split
      · rename_i own
        subst own
        simp only [SessionSlot.haltedWhere, session, other]
        rfl
      · rfl
  · rename_i session
    split
    · rename_i own
      subst own
      simp only [SessionSlot.haltedWhere, session]
    · rfl

/-- What the halt of the sessions that a test names leaves in each slot (R130). -/
theorem haltWhere_slots (i : Slot) :
    (haltWhere p cause s).pac.slots[i] = s.pac.slots[i].haltedWhere p cause := by
  have fold : ∀ (l : List Slot) (t : State), l.Nodup →
      (l.foldl (fun t j => haltTurn p cause j t) t).pac.slots[i] =
        if i ∈ l then t.pac.slots[i].haltedWhere p cause else t.pac.slots[i] := by
    intro l
    induction l with
    | nil => exact fun t _ => rfl
    | cons j js ih =>
      intro t distinct
      obtain ⟨fresh, distinct⟩ := List.nodup_cons.mp distinct
      rw [List.foldl_cons, ih _ distinct, haltTurn_slots]
      by_cases own : i = j
      · subst own
        simp [fresh]
      · simp [own]
  have all : ∀ j : Slot, j ∈ allSlots := by decide
  rw [haltWhere_eq, fold _ _ (by decide), if_pos (all i)]

end

/-- A halt gives up the session's bay set, and does nothing else to the bays (R102, R130). -/
theorem haltSession_bay {i : Slot} {cause : HaltCause} {s : State} {x : Session}
    (session : s.pac.slots[i].session = some x) :
    (haltSession i cause s).bay = (changeNeeded x.bays 0 s).bay := by
  have same {t : State} (bay : t.bay = s.bay) : (changeNeeded x.bays 0 t).bay = (changeNeeded x.bays 0 s).bay := by
    simp only [changeNeeded, bay]
  unfold haltSession
  rw [session]
  refine same ?_
  by_cases down : cause = .linkDown <;> simp [down]

/-- Two records of a bay alike but for the needed count and the idle timer, which follow the sessions (R102). -/
def BayRecord.alike (b c : BayRecord) : Prop :=
  c = { b with needed := c.needed, idleTimer := c.idleTimer }

theorem BayRecord.alike.state {b c : BayRecord} (h : b.alike c) : c.state = b.state := by
  rw [h]

theorem BayRecord.alike.present {b c : BayRecord} (h : b.alike c) : c.present = b.present := by
  rw [h]

theorem haltSession_alike (i : Slot) (cause : HaltCause) (s : State) (b : Bay) :
    s.bay.bays[b].alike (haltSession i cause s).bay.bays[b] := by
  cases session : s.pac.slots[i].session with
  | none =>
    rw [haltSession_idle session]
    rfl
  | some x =>
    have recounted : (haltSession i cause s).bay.bays[b] = s.bay.bays[b].recount (hasBay x.bays b) (hasBay 0 b) :=
      (congrArg (fun c : BayControl => c.bays[b]) (haltSession_bay session)).trans (Vector.getElem_ofFn ..)
    rw [recounted]
    rfl

/-- The halt of the sessions that a test names leaves the bays but for their needed counts and idle timers. -/
theorem haltWhere_alike (p : Session → Bool) (cause : HaltCause) (s : State) (b : Bay) :
    s.bay.bays[b].alike (haltWhere p cause s).bay.bays[b] := by
  refine haltWhere_keeps (P := fun t => s.bay.bays[b].alike t.bay.bays[b]) (fun i t kept => ?_) p rfl
  unfold BayRecord.alike at kept ⊢
  rw [haltSession_alike i cause t b, kept]

/-! ## The wake fault -/

/-- The part at a wake fault with its sessions halted and its stage slots discarded (R45, R73, R133). -/
def faulted (s : State) : State :=
  discardStaged
    (haltWhere (fun _ => true) .wakeFault
      (flushHeld { s with pow.box := .sleep, pow.latch := true, pow.retryTimer := none }))

theorem faulted_slots (s : State) (i : Slot) : (faulted s).pac.slots[i] = { session := none, leftBehind := 0 } := by
  rw [faulted, discardStaged_pac_slots]
  refine (getElem_vecMap _ _ _ _).trans ?_
  congr 1
  have halted := haltWhere_slots (fun _ => true) .wakeFault
    (s := flushHeld { s with pow.box := .sleep, pow.latch := true, pow.retryTimer := none }) i
  refine (congrArg SessionSlot.session halted).trans ?_
  unfold SessionSlot.haltedWhere
  split
  · rfl
  · assumption

theorem reportUnready_slots_idle (b : Bay) {s : State}
    (idle : ∀ i : Slot, s.pac.slots[i] = { session := none, leftBehind := 0 }) (i : Slot) :
    (reportUnready b s).pac.slots[i] = { session := none, leftBehind := 0 } := by
  have slot := idle i
  simp_all [reportUnready, fallSessions]

/-- The pacing engine at the end of a wake fault: no session, nothing left behind, no FILLED slot (R133). -/
theorem sleepReached_faulted (s : State) :
    (∀ i : Slot, (sleepReached (faulted s)).pac.slots[i] = { session := none, leftBehind := 0 }) ∧
      (∀ slot ∈ (sleepReached (faulted s)).pac.stage, slot.isFilled = false) ∧
      (sleepReached (faulted s)).pac.fifo = [] := by
  refine sleepReached_keeps (P := fun t => (∀ i : Slot, t.pac.slots[i] = { session := none, leftBehind := 0 }) ∧
    (∀ slot ∈ t.pac.stage, slot.isFilled = false) ∧ t.pac.fifo = []) (fun b t ⟨slots, stage, fifo⟩ => ?_)
    ⟨faulted_slots s, fun slot kept => ?_, rfl⟩
  · obtain ⟨old, -, rfl⟩ := List.mem_map.mp kept
    split
    · rfl
    · exact Bool.eq_false_iff.mpr (by assumption)
  · exact ⟨reportUnready_slots_idle b slots, stage, fifo⟩

/-- With every slot IDLE the stage arbiter has nobody to serve. -/
theorem wakeFault_eq (s : State) : wakeFault s = sleepReached (faulted s) := by
  refine arbitrate_none (s := sleepReached (faulted s)) fun i x session => ?_
  rw [(sleepReached_faulted s).1 i] at session
  nomatch session

/-- Settles O22. -/
theorem wakeFaultDiscardsWhatWaited : Obligations.WakeFaultDiscardsWhatWaited := by
  intro s box expired second
  refine ⟨wakeFault s, congrArg Host.Outcome.next ((if_pos ⟨box, expired⟩).trans ?_), ?_⟩
  · rw [if_neg (by omega), if_pos second]
  have pow := wakeFault_pow s
  rw [pow]
  rw [wakeFault_eq]
  obtain ⟨slots, stage, fifo⟩ := sleepReached_faulted s
  have hold : (sleepReached (faulted s)).hold = (flushHeld s).hold := by simp [faulted]; rfl
  have cells : (sleepReached (faulted s)).cells = (flushHeld s).cells := by simp [faulted]; rfl
  rw [hold, cells]
  refine ⟨rfl, rfl, rfl, rfl, rfl, rfl, rfl, rfl, rfl, rfl, rfl, slots, stage, fifo, ?_, fun i => ?_⟩
  · simp [baysOff]
  · have states : (faulted s).bay.bays[i].state = s.bay.bays[i].state :=
      (haltWhere_alike _ _ _ i).state
    rw [← states, ← (baysOff_bay (faulted s) i).1]
    exact congrArg (fun b : BayControl => b.bays[i].state) (sleepReached_bay _)

/-! ## Wake events -/

section
variable {s : State} {name : WakeName}

/-- An event that the power controller hears: the source enabled, and the latch clear but for BUTTON (R47). -/
theorem wakeEvent_heard (bays : BaySet) (enabled : (s.pow.source name).enable = true)
    (latch : s.pow.latch = false ∨ name = .button) :
    (s.pow.box = .sleepEntry → wakeEvent name bays s = latchWake name bays s) ∧
      (s.pow.box = .sleep → wakeEvent name bays s = startWake (latchWake name bays s)) := by
  have heard : ((s.pow.source name).enable && (!s.pow.latch || decide (name = .button))) = true := by
    simpa [enabled] using latch
  exact ⟨fun box => by simp only [wakeEvent, heard, box, if_true],
    fun box => by simp only [wakeEvent, heard, box, if_true]⟩

theorem anyPending_false (idle : s.pow.anyPending = false) (name : WakeName) : (s.pow.source name).pending = false := by
  simp only [Power.anyPending, Bool.or_eq_false_iff] at idle
  obtain ⟨⟨⟨⟨lan, signature⟩, button⟩, alarm⟩, bay⟩ := idle
  cases name
  · exact lan
  · exact signature
  · exact button
  · exact alarm
  · exact bay

/-- A wake by one source alone, other than LAN, whose bay set accumulates (R39a, R48). -/
theorem startWake_fromSource (own : name ≠ .lan) (idle : s.pow.anyPending = false)
    (enabled : (s.pow.source name).enable = true) :
    (startWake (latchWake name 0 s)).pow.record =
        { causes :=
            .sources false (decide (name = .signature)) (decide (name = .button)) (decide (name = .alarm))
              (decide (name = .bay)),
          attempts := 1, fault := s.pow.latch, demanded := (s.pow.source name).bays } ∧
      ((startWake (latchWake name 0 s)).pow.source name).enable = decide ((s.pow.source name).arm = .continuous) := by
  have none := anyPending_false idle
  have lan : s.pow.lan.pending = false := none .lan
  have signature : s.pow.signature.pending = false := none .signature
  have button : s.pow.button.pending = false := none .button
  have alarm : s.pow.alarm.pending = false := none .alarm
  have bay : s.pow.bay.pending = false := none .bay
  have spent (w : WakeSource) (on : w.enable = true) :
      ({ w with pending := true } : WakeSource).spent.enable = decide (w.arm = .continuous) := by
    simp only [WakeSource.spent, on]
    cases w.arm <;> rfl
  rw [startWake_pow]
  cases name with
  | lan => exact absurd rfl own
  | signature | button | alarm | bay =>
    exact ⟨by simp [latchWake, Power.setSource, Power.source, Power.wakeBays, WakeSource.carried, *], spent _ enabled⟩

end

/-! ## The button -/

/-- Settles O25: the event by the box state (Table 3.1). -/
theorem buttonEventsByBoxState : Obligations.ButtonEventsByBoxState := by
  intro edge s
  refine ⟨fun other => congrArg Host.Outcome.next (if_neg (by tauto)), fun selected free => ?_⟩
  have event (asleep : s.pow.box ≠ .run) : exec (.buttonEvent edge) s = .next (wakeEvent .button 0 s) :=
    congrArg Host.Outcome.next ((if_pos ⟨selected, free⟩).trans (if_neg asleep))
  refine ⟨fun run => congrArg Host.Outcome.next ((if_pos ⟨selected, free⟩).trans (if_pos run)), fun deaf => ?_,
    fun entry enabled => ?_, fun asleep enabled idle => ?_⟩
  · obtain ⟨sub, waking⟩ | ⟨asleep, disabled⟩ := deaf
    · rw [event (by simp [waking]), wakeEvent_awake _ (.inr ⟨sub, waking⟩)]
    · rw [event asleep, wakeEvent_unheard _ (by simp [Power.source, disabled])]
  · rw [event (by simp [entry]), (wakeEvent_heard (name := .button) 0 enabled (.inr rfl)).1 entry]
    rfl
  · have woken := (wakeEvent_heard (name := .button) 0 enabled (.inr rfl)).2 asleep
    obtain ⟨record, enable⟩ := startWake_fromSource (name := .button) nofun idle enabled
    have started := startWake_started (s := s) (v := latchWake .button 0 s) rfl rfl
    have demands := started.demands
    rw [record] at demands
    refine ⟨_, event (by simp [asleep]), ?_⟩
    rw [woken]
    refine ⟨started.box, started.attempts, record, ?_, started.pwrEn, started.rst, enable, demands, by simp, by simp⟩
    rw [startWake_pow]
    rfl

/-! ## The clock -/

section
variable {s : State}

/-- The part with its clock in a minute just entered (R52). -/
def inMinute (minute : Nat) (s : State) : State :=
  { s with pow.clock := { minute := minute, count := 0, set := true, due := false } }

theorem alarmAt_none {alarms : Vector Alarm 8} {minute : Nat}
    (none : ∀ i : Fin 8, alarms[i].on = true → alarms[i].minute ≠ minute) : alarmAt alarms minute = .none := by
  refine List.find?_eq_none.mpr fun i _ => ?_
  simpa using none i

/-- The lowest enabled entry of a minute is found (R53). -/
theorem alarmAt_lowest {alarms : Vector Alarm 8} {minute : Nat} {i : Fin 8} (on : alarms[i].on = true)
    (names : alarms[i].minute = minute)
    (lowest : ∀ j : Fin 8, j < i → alarms[j].on = true → alarms[j].minute ≠ minute) :
    alarmAt alarms minute = some i := by
  refine List.find?_eq_some_iff_getElem.mpr ⟨by simpa using ⟨on, names⟩, i.val, by simp, by simp, fun j hj => ?_⟩
  have below := lowest ⟨j, hj.trans i.isLt⟩ hj
  rw [Bool.not_eq_true', Bool.and_eq_false_imp]
  simpa using below

/-- A minute entered, with its alarms (R52, R53). -/
theorem enterMinute_eq {minute : Nat} (set : s.pow.clock.set = true)
    (next : minute = if s.pow.clock.minute < 10079 then s.pow.clock.minute + 1 else 0) :
    enterMinute s =
      match alarmAt s.pow.alarms minute with
      | none => inMinute minute s
      | some i =>
        if s.pow.box = .run then raise .alarm (.alarm i minute) (inMinute minute s)
        else wakeEvent .alarm 0 (inMinute minute s) := by
  subst next
  exact if_pos set

end

/-- Settles O26: by whether an enabled entry names the minute, and then by the box state (Table 3.1). -/
theorem minutesAndAlarms : Obligations.MinutesAndAlarms := by
  refine ⟨fun s other => congrArg Host.Outcome.next ?_, fun s u minute set due free next eq => ?_⟩
  · split
    · rename_i taken
      have unset : ¬s.pow.clock.set = true := by simpa [taken] using other
      exact if_neg unset
    · rfl
  obtain rfl : u = inMinute minute s := eq
  have entered : exec .minuteEntered s = .next (enterMinute s) := congrArg Host.Outcome.next (if_pos ⟨due, free⟩)
  refine ⟨fun none => ?_, fun i on names lowest => ?_⟩
  · rw [entered, enterMinute_eq set next, alarmAt_none none]
  rw [entered, enterMinute_eq set next, alarmAt_lowest on names lowest]
  dsimp only
  refine ⟨fun run => by rw [if_pos run], fun deaf => ?_, fun entry enabled latch => ?_,
    fun asleep enabled latch idle => ?_⟩
  · obtain ⟨sub, waking⟩ | ⟨asleep, deaf⟩ := deaf
    · rw [if_neg (by simp [waking]), wakeEvent_awake (s := inMinute minute s) _ (.inr ⟨sub, waking⟩)]
    · rw [if_neg asleep, wakeEvent_unheard]
      obtain disabled | latch := deaf
      · simp [inMinute, Power.source, disabled]
      · simp [inMinute, latch]
  · rw [if_neg (by simp [entry]),
      (wakeEvent_heard (s := inMinute minute s) (name := .alarm) 0 enabled (.inl latch)).1 entry]
    rfl
  · have woken := (wakeEvent_heard (s := inMinute minute s) (name := .alarm) 0 enabled (.inl latch)).2 asleep
    obtain ⟨record, enable⟩ := startWake_fromSource (s := inMinute minute s) (name := .alarm) nofun idle enabled
    have started := startWake_started (s := s) (v := latchWake .alarm 0 (inMinute minute s)) rfl rfl
    have demands := started.demands
    rw [record] at demands
    rw [if_neg (by simp [asleep]), woken]
    refine ⟨_, rfl, started.box, started.attempts, record.trans ?_, started.pwrEn, started.rst, started.spent, enable,
      by simp, demands, ?_, by simp [inMinute], by simp [inMinute], by simp [inMinute], by simp [inMinute]⟩
    · simp [inMinute, latch, Power.source]
    · rw [startWake_pow]
      rfl

end Sys2Proof.Machine
end

section
/-! SUPPORT and proofs: READY and the reaching of RUN (O23). -/

namespace Sys2Proof.Machine

/-! ## The intake of the host link -/

/-- The request queue and the host address, which what is sent to the host leaves. -/
def State.intake (s : State) : List (List Byte) × MacAddr :=
  (s.host.requests, s.host.hostAddr)

section
variable (s : State)

@[simp] theorem hostKick_intake : (hostKick s).intake = s.intake := by
  unfold hostKick
  repeat' split
  all_goals rfl

@[simp] theorem queueResponse_intake (data : List Byte) : (queueResponse data s).intake = s.intake := by
  unfold queueResponse
  split
  · exact hostKick_intake _
  · rfl

@[simp] theorem respond_intake (r : Request) (code : ResultCode) (data : List Byte) :
    (respond r code data s).intake = s.intake :=
  queueResponse_intake _ _

@[simp] theorem buildNotices_intake : (buildNotices s).intake = s.intake := by
  refine buildNotices_keeps (P := fun t => t.intake = s.intake) (fun kind t kept => ?_) rfl
  unfold buildNotice
  split
  · exact (queueResponse_intake _ _).trans kept
  · exact kept

@[simp] theorem release_intake : (release s).intake = s.intake := by
  refine releaseN_keeps (P := fun t => t.intake = s.intake) (fun r rest t _ _ kept => ?_)
    (fun r rest t _ _ _ kept => ?_) _ s rfl
  · refine Eq.trans ?_ kept
    simp [State.intake]
  · exact (hostKick_intake _).trans kept

@[simp] theorem startDelivery_intake : (startDelivery s).intake = s.intake := by
  unfold startDelivery
  split
  · split
    · rfl
    · split
      · exact hostKick_intake _
      · rfl
  · rfl

/-- What either order of two operations keeps, the operations of release and notice building keep. -/
theorem releaseAndNotify_keeps {P : State → Prop} {s : State} (counting : P s → P { s with choices := s.choices + 1 })
    (releasing : ∀ t, P t → P (release t)) (notifying : ∀ t, P t → P (buildNotices t)) (h : P s) :
    P (releaseAndNotify s) := by
  unfold releaseAndNotify inEitherOrder
  dsimp only
  split
  · split
    · exact notifying _ (releasing _ (counting h))
    · exact releasing _ (notifying _ (counting h))
  · exact releasing _ (notifying _ h)

theorem runReached_intake : (runReached s).intake = s.intake := by
  rw [runReached_eq, startDelivery_intake]
  refine releaseAndNotify_keeps (P := fun t => t.intake = s.intake) (fun kept => kept)
    (fun t kept => (release_intake t).trans kept) (fun t kept => (buildNotices_intake t).trans kept) ?_
  simp [State.intake]

end

/-! ## The response queue of a busy host link -/

/-- The H-port UP, the link busy, and certain frames in front of the response queue. -/
structure QueuedBusy (front : List (List Byte)) (s : State) : Prop where
  up : s.host.up = true
  busy : s.host.sending.isSome = true
  front : front <+: s.host.responses

section
variable {front : List (List Byte)} {s : State}

theorem QueuedBusy.queueResponse (h : QueuedBusy front s) (data : List Byte) :
    QueuedBusy front (queueResponse data s) := by
  rw [queueResponse_busy data h.up h.busy]
  exact ⟨h.up, h.busy, h.front.trans (List.prefix_append _ _)⟩

theorem QueuedBusy.buildNotice (h : QueuedBusy front s) (kind : NoticeKind) :
    QueuedBusy front (buildNotice kind s) := by
  unfold Machine.buildNotice
  split
  · exact QueuedBusy.queueResponse (s := { s with note := clearKind kind s.note }) ⟨h.up, h.busy, h.front⟩ _
  · exact h

theorem QueuedBusy.buildNotices (h : QueuedBusy front s) : QueuedBusy front (buildNotices s) :=
  buildNotices_keeps (fun kind _ kept => kept.buildNotice kind) h

theorem handReleased_busy {data : List Byte} (busy : s.host.sending.isSome = true) :
    handReleased data s = { s with host.lpath := s.host.lpath ++ [{ released := true, data := data }] } :=
  hostKick_busy (s := { s with host.lpath := _ }) busy

/-- Release leaves the response queue of a busy link. -/
theorem release_busy (busy : s.host.sending.isSome = true) :
    (release s).host.responses = s.host.responses ∧ (release s).host.sending = s.host.sending := by
  refine releaseN_keeps
    (P := fun t => t.host.responses = s.host.responses ∧ t.host.sending = s.host.sending)
    (fun r rest t _ _ kept => ?_) (fun r rest t _ _ _ kept => ?_) _ s ⟨rfl, rfl⟩
  · simpa using kept
  · rw [handReleased_busy (by simpa [kept.2] using busy)]
    exact kept

theorem QueuedBusy.release (h : QueuedBusy front s) : QueuedBusy front (release s) := by
  obtain ⟨responses, sending⟩ := release_busy h.busy
  exact ⟨(release_host_up s).trans h.up, sending ▸ h.busy, responses ▸ h.front⟩

theorem QueuedBusy.runReached (h : QueuedBusy front s) : QueuedBusy front (runReached s) := by
  have woken : QueuedBusy front (releaseAndNotify (awake s)) := by
    refine releaseAndNotify_keeps (fun kept => ⟨kept.up, kept.busy, kept.front⟩) (fun _ kept => kept.release)
      (fun _ kept => kept.buildNotices) ⟨?_, ?_, ?_⟩ <;> rw [awake_host]
    · exact h.up
    · exact h.busy
    · exact h.front
  have host : (Machine.runReached s).host = (releaseAndNotify (awake s)).host := startDelivery_host_busy woken.busy
  exact ⟨host ▸ woken.up, host ▸ woken.busy, host ▸ woken.front⟩

end

/-! ## The notice kinds -/

theorem allNotices_index (kind : NoticeKind) : allNotices.getD kind.index.val .button = kind := by
  cases kind <;> rfl

theorem index_injective {kind other : NoticeKind} (same : kind.index = other.index) : kind = other := by
  rw [← allNotices_index kind, same, allNotices_index]

section
variable {s : State} {k : Fin 9}

theorem clearKind_other {kind : NoticeKind} (n : Notices) (other : k ≠ kind.index) :
    (clearKind kind n).kinds[k] = n.kinds[k] := by
  unfold clearKind
  dsimp only
  split <;> exact getElem_vecMod_ne _ _ _ _ other

theorem clearKind_own (kind : NoticeKind) (n : Notices) : (clearKind kind n).kinds[kind.index] =
    { n.kinds[kind.index] with pending := false, count := 0, detail := none } := by
  unfold clearKind
  dsimp only
  split <;> simp

theorem buildNotice_other {kind : NoticeKind} (other : k ≠ kind.index) :
    (buildNotice kind s).note.kinds[k] = s.note.kinds[k] := by
  unfold buildNotice
  split
  · refine Eq.trans ?_ (clearKind_other s.note other)
    exact congrArg (fun n : Notices => n.kinds[k]) (queueResponse_note _ _)
  · rfl

/-- A kind that does not qualify stays as it is while notices are built (R178). -/
theorem buildNotices_silent {kind : NoticeKind}
    (silent : s.note.kinds[kind.index].enable = false ∨ s.host.up = false) :
    (buildNotices s).note.kinds[kind.index] = s.note.kinds[kind.index] := by
  refine (buildNotices_keeps
    (P := fun t => t.note.kinds[kind.index] = s.note.kinds[kind.index] ∧ t.host.up = s.host.up)
    (fun built t kept => ⟨?_, (buildNotice_host_up t built).trans kept.2⟩) ⟨rfl, rfl⟩).1
  by_cases own : kind = built
  · subst own
    have unbuilt : buildNotice kind t = t := by
      refine if_neg fun qualifies => ?_
      simp only [noticeQualifies, Bool.and_eq_true, kept.1, kept.2] at qualifies
      obtain ⟨⟨⟨⟨-, enabled⟩, -⟩, up⟩, -⟩ := qualifies
      obtain disabled | down := silent
      · exact nomatch enabled.symm.trans disabled
      · exact nomatch up.symm.trans down
    rw [unbuilt]
    exact kept.1
  · exact (buildNotice_other fun same => own (index_injective same)).trans kept.1

/-- Of the notice kinds release raises STALE_DROPPED alone (R68). -/
theorem release_kind (other : k ≠ NoticeKind.staleDropped.index) :
    (release s).note.kinds[k] = s.note.kinds[k] := by
  refine releaseN_keeps (P := fun t => t.note.kinds[k] = s.note.kinds[k]) (fun r rest t _ _ kept => ?_)
    (fun r rest t _ _ _ kept => ?_) _ s rfl
  · refine (getElem_vecMod_ne _ _ _ _ other).trans (Eq.trans ?_ kept)
    exact congrArg (fun n : Notices => n.kinds[k]) (popHeld_note t)
  · exact (congrArg (fun n : Notices => n.kinds[k]) (handReleased_note _ _)).trans kept

end

/-! ## HOST_RECOVERED -/

section
variable {s : State}

/-- At most one frame joins the response queue with each notice. -/
theorem buildNotice_length (busy : s.host.sending.isSome = true) (up : s.host.up = true) (kind : NoticeKind) :
    (buildNotice kind s).host.responses.length ≤ s.host.responses.length + 1 := by
  unfold buildNotice
  split
  · rw [queueResponse_busy (s := { s with note := clearKind kind s.note }) _ up busy]
    simp
  · exact Nat.le_succ _

/-- A notice that qualifies, on a busy link: its frame joins the response queue and its kind is cleared (R178). -/
theorem buildNotice_builds {kind : NoticeKind} (busy : s.host.sending.isSome = true)
    (qualifies : noticeQualifies s kind = true) :
    (buildNotice kind s).host.responses = s.host.responses ++ [noticeFrame s kind] ∧
      (buildNotice kind s).note = clearKind kind s.note := by
  have up : s.host.up = true := by
    simp only [noticeQualifies, Bool.and_eq_true] at qualifies
    exact qualifies.1.2
  unfold buildNotice
  rw [if_pos qualifies, queueResponse_busy (s := { s with note := clearKind kind s.note }) _ up busy]
  exact ⟨rfl, rfl⟩

/-- HOST_RECOVERED pending on a busy link with few frames waiting, in RUN. -/
structure Recovered (kind : NoticeState) (attempts : Nat) (dst : MacAddr) (s : State) : Prop where
  run : s.pow.box = .run
  up : s.host.up = true
  busy : s.host.sending.isSome = true
  dst : s.host.hostAddr = dst
  pending : kind.pending = true
  enabled : kind.enable = true
  detail : kind.detail = some (.hostRecovered attempts)
  state : s.note.kinds[(7 : Fin 9)] = kind

/-- The notice of HOST_RECOVERED (Table 12.3). -/
def recoveredFrame (cfg : InForce) (kind : NoticeState) (attempts : Nat) (dst : MacAddr) : List Byte :=
  mgmtFrame cfg dst 0 0xFF08 .ok (num 1 kind.count.toNat ++ num 1 1 ++ num 1 attempts)

section
variable {kind : NoticeState} {attempts : Nat} {dst : MacAddr}

theorem noticeFrame_recovered (h : Recovered kind attempts dst s) :
    noticeFrame s .hostRecovered = recoveredFrame s.cfg kind attempts dst := by
  have state : s.note.kinds[NoticeKind.hostRecovered.index] = kind := h.state
  simp only [noticeFrame, state, h.detail, h.dst, recoveredFrame]
  rfl

/-- The kinds before HOST_RECOVERED take a place of the response queue each at most. -/
theorem Recovered.buildNotice (h : Recovered kind attempts dst s) {built : NoticeKind}
    (other : built ≠ .hostRecovered) : Recovered kind attempts dst (buildNotice built s) := by
  have queue := (QueuedBusy.mk (front := []) h.up h.busy List.nil_prefix).buildNotice built
  refine ⟨?_, queue.up, queue.busy, ?_, h.pending, h.enabled, h.detail, ?_⟩
  · rw [buildNotice_pow]
    exact h.run
  · refine Eq.trans ?_ h.dst
    unfold Machine.buildNotice
    split
    · exact congrArg Prod.snd (queueResponse_intake _ _)
    · rfl
  · refine (buildNotice_other (kind := built) fun same => other ?_).trans h.state
    exact (index_injective (kind := .hostRecovered) same).symm

/-- Other notices built first leave HOST_RECOVERED pending, and take a place of the response queue each at most. -/
theorem Recovered.buildOthers : ∀ (l : List NoticeKind) (t : State), NoticeKind.hostRecovered ∉ l →
    Recovered kind attempts dst t →
    Recovered kind attempts dst (l.foldl (fun t k => Machine.buildNotice k t) t) ∧
      (l.foldl (fun t k => Machine.buildNotice k t) t).host.responses.length ≤ t.host.responses.length + l.length ∧
      (l.foldl (fun t k => Machine.buildNotice k t) t).cfg = t.cfg := by
  intro l
  induction l with
  | nil => exact fun t _ ht => ⟨ht, Nat.le_refl _, rfl⟩
  | cons k ks ih =>
    intro t absent ht
    rw [List.mem_cons, not_or] at absent
    obtain ⟨other, absent⟩ := absent
    obtain ⟨kept, length, cfg⟩ := ih (Machine.buildNotice k t) absent (ht.buildNotice (Ne.symm other))
    have one := buildNotice_length ht.busy ht.up k
    refine ⟨kept, ?_, cfg.trans (buildNotice_cfg k t)⟩
    rw [List.foldl_cons, List.length_cons]
    omega

/-- The notice of HOST_RECOVERED built (R178). -/
theorem Recovered.built (h : Recovered kind attempts dst s) (room : s.host.responses.length < 16) :
    recoveredFrame s.cfg kind attempts dst ∈ (Machine.buildNotice .hostRecovered s).host.responses ∧
      (Machine.buildNotice .hostRecovered s).note.kinds[(7 : Fin 9)] =
        { kind with pending := false, count := 0, detail := none } := by
  have qualifies : noticeQualifies s .hostRecovered = true := by
    have state : s.note.kinds[NoticeKind.hostRecovered.index] = kind := h.state
    simp only [noticeQualifies, state, h.pending, h.enabled, h.run, h.up, room, decide_true, Bool.and_self]
  obtain ⟨responses, note⟩ := buildNotice_builds h.busy qualifies
  refine ⟨?_, ?_⟩
  · rw [responses, noticeFrame_recovered h]
    exact List.mem_append_right _ (List.mem_singleton_self _)
  · refine (congrArg (fun n : Notices => n.kinds[(7 : Fin 9)]) note).trans ?_
    refine (clearKind_own .hostRecovered s.note).trans ?_
    exact congrArg (fun k : NoticeState => { k with pending := false, count := 0, detail := none }) h.state

/-- The kinds that come before HOST_RECOVERED in the order of Table 11.1. -/
def beforeRecovered : List NoticeKind :=
  [.button, .alarm, .bayChange, .sessionEnd, .holdOverflow, .staleDropped, .entryForced]

theorem buildNotices_order (s : State) : buildNotices s =
    buildNotice .linkChange
      (buildNotice .hostRecovered (beforeRecovered.foldl (fun t k => Machine.buildNotice k t) s)) := by
  have split : allNotices = beforeRecovered ++ [.hostRecovered, .linkChange] := rfl
  rw [buildNotices, split, List.foldl_append, List.foldl_cons, List.foldl_cons, List.foldl_nil]

/-- The building of notices builds the one of HOST_RECOVERED where at most 8 frames wait (R178). -/
theorem buildNotices_recovered (h : Recovered kind attempts dst s) (room : s.host.responses.length ≤ 8) :
    recoveredFrame s.cfg kind attempts dst ∈ (buildNotices s).host.responses ∧
      (buildNotices s).note.kinds[(7 : Fin 9)] = { kind with pending := false, count := 0, detail := none } := by
  obtain ⟨waits, length, cfg⟩ := h.buildOthers beforeRecovered s (by decide)
  rw [buildNotices_order]
  generalize beforeRecovered.foldl _ _ = w at waits length cfg
  have seven : beforeRecovered.length = 7 := rfl
  obtain ⟨built, cleared⟩ := waits.built (by omega)
  have queue := (QueuedBusy.mk (front := []) waits.up waits.busy List.nil_prefix).buildNotice .hostRecovered
  have last := (QueuedBusy.mk queue.up queue.busy (List.prefix_refl _)).buildNotice .linkChange
  rw [← cfg]
  exact ⟨last.front.subset built, (buildNotice_other (kind := .linkChange) (by decide)).trans cleared⟩

/-- Release leaves HOST_RECOVERED pending. -/
theorem Recovered.release (h : Recovered kind attempts dst s) : Recovered kind attempts dst (release s) := by
  refine ⟨?_, ?_, ?_, ?_, h.pending, h.enabled, h.detail, (release_kind (by decide)).trans h.state⟩
  · rw [release_pow]
    exact h.run
  · rw [release_host_up]
    exact h.up
  · rw [(release_busy h.busy).2]
    exact h.busy
  · exact (congrArg Prod.snd (release_intake s)).trans h.dst

/-- In either order of release and notice building the notice of HOST_RECOVERED is built. -/
theorem releaseAndNotify_recovered (h : Recovered kind attempts dst s) (room : s.host.responses.length ≤ 8) :
    recoveredFrame s.cfg kind attempts dst ∈ (releaseAndNotify s).host.responses ∧
      (releaseAndNotify s).note.kinds[(7 : Fin 9)] = { kind with pending := false, count := 0, detail := none } := by
  have notified (t : State) (ht : Recovered kind attempts dst t) (few : t.host.responses.length ≤ 8) :
      recoveredFrame t.cfg kind attempts dst ∈ (release (buildNotices t)).host.responses ∧
        (release (buildNotices t)).note.kinds[(7 : Fin 9)] =
          { kind with pending := false, count := 0, detail := none } := by
    obtain ⟨built, cleared⟩ := buildNotices_recovered ht few
    have busy := (QueuedBusy.mk (front := []) ht.up ht.busy List.nil_prefix).buildNotices.busy
    refine ⟨?_, (release_kind (by decide)).trans cleared⟩
    rw [(release_busy busy).1]
    exact built
  have counted : Recovered kind attempts dst { s with choices := s.choices + 1 } :=
    ⟨h.run, h.up, h.busy, h.dst, h.pending, h.enabled, h.detail, h.state⟩
  unfold releaseAndNotify inEitherOrder
  dsimp only
  split
  · split
    · have built := buildNotices_recovered counted.release (by rw [(release_busy counted.busy).1]; exact room)
      rw [release_cfg] at built
      exact built
    · exact notified _ counted room
  · exact notified s h room

end

end

end Sys2Proof.Machine
end

section
/-! SUPPORT and proofs: READY (O23). -/

namespace Sys2Proof.Machine

/-! ## The part as RUN is reached -/

section
variable {s : State}

/-- HOST_RECOVERED raised with the attempts of a wake (R44, R177). -/
def NoticeState.recovered (attempts : Nat) (n : NoticeState) : NoticeState :=
  { n with pending := true, count := satAdd n.count 1, detail := some (.hostRecovered attempts) }

theorem awake_kind_lost (lost : s.pow.record.causes = .hostLost) :
    (awake s).note.kinds[(7 : Fin 9)] = s.note.kinds[(7 : Fin 9)].recovered s.pow.record.attempts := by
  unfold awake
  rw [if_pos lost]
  exact (getElem_vecMod _ _ _ _ _).trans (if_pos rfl)

theorem awake_note_other (other : s.pow.record.causes ≠ .hostLost) : (awake s).note = s.note := by
  unfold awake
  rw [if_neg other]

theorem awake_blocks (s : State) : (awake s).hold = s.hold ∧ (awake s).pac = s.pac ∧ (awake s).cfg = s.cfg := by
  unfold awake
  dsimp only
  split <;> exact ⟨rfl, rfl, rfl⟩

theorem runReached_note (s : State) : (runReached s).note = (releaseAndNotify (awake s)).note := by
  rw [runReached_eq, startDelivery_note]

/-- HOST_RECOVERED stays as RUN is reached while its kind is disabled or the H-port DOWN (R44, R178). -/
theorem runReached_silent (silent : (awake s).note.kinds[(7 : Fin 9)].enable = false ∨ s.host.up = false) :
    (runReached s).note.kinds[(7 : Fin 9)] = (awake s).note.kinds[(7 : Fin 9)] := by
  refine (congrArg (fun n : Notices => n.kinds[(7 : Fin 9)]) (runReached_note s)).trans ?_
  refine (releaseAndNotify_keeps
    (P := fun t => t.note.kinds[(7 : Fin 9)] = (awake s).note.kinds[(7 : Fin 9)] ∧ t.host.up = s.host.up)
    (fun kept => kept) (fun t kept => ⟨(release_kind (by decide)).trans kept.1, (release_host_up t).trans kept.2⟩)
    (fun t kept => ⟨?_, (buildNotices_host_up t).trans kept.2⟩) ⟨rfl, congrArg HostLink.up (awake_host s)⟩).1
  refine (buildNotices_silent (kind := .hostRecovered) ?_).trans kept.1
  exact silent.imp (fun disabled => (congrArg NoticeState.enable kept.1).trans disabled) fun down => kept.2.trans down

/-- HOST_RECOVERED is built at once where it qualifies and the response queue has room (R44, R178). -/
theorem runReached_builds (lost : s.pow.record.causes = .hostLost)
    (enabled : s.note.kinds[(7 : Fin 9)].enable = true) (up : s.host.up = true) (busy : s.host.sending.isSome = true)
    (room : s.host.responses.length ≤ 8) :
    recoveredFrame s.cfg (s.note.kinds[(7 : Fin 9)].recovered s.pow.record.attempts) s.pow.record.attempts
        s.host.hostAddr ∈ (runReached s).host.responses ∧
      (runReached s).note.kinds[(7 : Fin 9)] =
        { s.note.kinds[(7 : Fin 9)] with pending := false, count := 0, detail := none } := by
  have waits : Recovered (s.note.kinds[(7 : Fin 9)].recovered s.pow.record.attempts) s.pow.record.attempts
      s.host.hostAddr (awake s) := by
    refine ⟨?_, ?_, ?_, ?_, rfl, enabled, rfl, awake_kind_lost lost⟩
    · rw [awake_pow]
    · rw [awake_host, up]
    · rw [awake_host, busy]
    · rw [awake_host]
  obtain ⟨built, cleared⟩ := releaseAndNotify_recovered waits (by rwa [awake_host])
  have linkBusy : (releaseAndNotify (awake s)).host.sending.isSome = true := by
    have queue := QueuedBusy.mk (front := []) waits.up waits.busy List.nil_prefix
    exact (releaseAndNotify_keeps (fun kept => ⟨kept.up, kept.busy, kept.front⟩) (fun _ kept => kept.release)
      (fun _ kept => kept.buildNotices) queue).busy
  have host : (runReached s).host = (releaseAndNotify (awake s)).host := startDelivery_host_busy linkBusy
  obtain ⟨-, -, cfg⟩ := awake_blocks s
  rw [host, ← cfg]
  exact ⟨built, (congrArg (fun n : Notices => n.kinds[(7 : Fin 9)]) (runReached_note s)).trans cleared⟩

/-- A FRESH head of the hold queue takes the release position as RUN is reached (R44, R69). -/
theorem runReached_releases {q : HeldRecord} {qs : List HeldRecord} (up : s.host.up = true)
    (records : s.hold.records = q :: qs) (fresh : q.stale = false) (idle : s.hold.sending = false) :
    (runReached s).hold = { s.hold with sending := true } := by
  obtain ⟨hold, -, -⟩ := awake_blocks s
  have held : (buildNotices (awake s)).hold = s.hold := (buildNotices_hold _).trans hold
  have ordered : releaseAndNotify (awake s) = release (buildNotices (awake s)) := by
    have head : headStale (awake s) = false := by simp [headStale, hold, records, fresh]
    rw [releaseAndNotify, if_neg (Bool.eq_false_iff.mp head)]
  have run : (buildNotices (awake s)).pow.box = .run := by rw [buildNotices_pow, awake_pow]
  have port : (buildNotices (awake s)).host.up = true := by rw [buildNotices_host_up, awake_host, up]
  rw [runReached_eq, startDelivery_hold, ordered]
  generalize buildNotices (awake s) = w at held run port
  rw [release_fresh run port (by rw [held, idle]) (by rw [held, records]) fresh, handReleased_hold, held]

/-- The head of the delivery FIFO becomes SENDING as RUN is reached (R44, R126). -/
theorem runReached_delivers {k n : Nat} {ks : List Nat} {owner : StageOwner} (up : s.host.up = true)
    (empty : s.pac.delivery = none) (fifo : s.pac.fifo = k :: ks)
    (filled : s.pac.stage.getD k .free = .filled owner n) :
    (runReached s).pac =
      { s.pac with stage := s.pac.stage.set k (.sending owner n), fifo := ks, delivery := some k } := by
  obtain ⟨-, pac, -⟩ := awake_blocks s
  have waiting : (releaseAndNotify (awake s)).pac = s.pac := (releaseAndNotify_pac _).trans pac
  have run : (releaseAndNotify (awake s)).pow.box = .run := by rw [releaseAndNotify_pow, awake_pow]
  have port : (releaseAndNotify (awake s)).host.up = true := by rw [releaseAndNotify_host_up, awake_host, up]
  rw [runReached_eq,
    startDelivery_starts run port (by rw [waiting, empty]) (by rw [waiting, fifo]) (by rw [waiting, filled]),
    hostKick_pac, ← waiting]
  rfl

end

/-! ## READY -/

/-- READY taken and answered, RUN not yet reached (R42). -/
def readied (r : Request) (rest : List (List Byte)) (s : State) : State :=
  respond r .ok ({ s.pow.record with attempts := s.pow.attempts, fault := s.pow.latch } : WakeRecord).carried
    { dequeue r rest s with
      pow.bootTimer := none,
      pow.record := { s.pow.record with attempts := s.pow.attempts, fault := s.pow.latch } }

section
variable {s : State} {r : Request} {p : List Byte} {rest : List (List Byte)}

theorem execReady_eq (h : Taken s .ready r p rest) : exec .ready s = .next (runReached (readied r rest s)) :=
  congrArg Host.Outcome.next (takeRequest_taken h actReady runReached)

/-- The response of READY in the response queue, behind what stood there (R42). -/
theorem readied_responses (h : Taken s .ready r p rest) (up : s.host.up = true)
    (busy : s.host.sending.isSome = true) :
    (readied r rest s).host.responses = s.host.responses ++
      [mgmtFrame s.cfg r.src r.tag 0x0402 .ok
        ({ s.pow.record with attempts := s.pow.attempts, fault := s.pow.latch } : WakeRecord).carried] := by
  obtain ⟨⟨-, -, -, f, -, -, kind⟩, -⟩ := h
  unfold readied respond
  rw [queueResponse_busy _ (by exact up) (by exact busy), kind]
  rfl

theorem readied_busy (up : s.host.up = true) (busy : s.host.sending.isSome = true) :
    (readied r rest s).host.sending.isSome = true := by
  unfold readied respond
  rw [queueResponse_busy _ (by exact up) (by exact busy)]
  exact busy

theorem readied_up : (readied r rest s).host.up = s.host.up :=
  respond_host_up ..

end

/-- Settles O23. -/
theorem readyReachesRun : Obligations.ReadyReachesRun := by
  intro s r p rest h
  have up := readied_up (s := s) (r := r) (rest := rest)
  have note : (readied r rest s).note = s.note := respond_note ..
  have pow : (readied r rest s).pow =
      { s.pow with
        bootTimer := none,
        record := { s.pow.record with attempts := s.pow.attempts, fault := s.pow.latch } } := respond_pow ..
  have causes : (readied r rest s).pow.record.causes = s.pow.record.causes := by rw [pow]
  have intake : (runReached (readied r rest s)).intake = (rest, r.src) :=
    (runReached_intake _).trans (respond_intake ..)
  refine ⟨_, _, execReady_eq h, rfl, ?_, fun isUp busy => ?_, fun other silent => ?_, fun lost => ⟨fun silent => ?_,
    fun enabled isUp busy room => ?_⟩, fun isUp q qs records fresh idle => ?_,
    fun isUp empty k ks owner n fifo filled => ?_, congrArg Prod.fst intake, congrArg Prod.snd intake, ?_, ?_, ?_⟩
  · rw [runReached_pow, awake_pow, pow]
  · have queue := QueuedBusy.mk (up.trans isUp) (readied_busy isUp busy) (List.prefix_refl _)
    rw [← readied_responses h isUp busy]
    exact queue.runReached.front
  · have kind : (awake (readied r rest s)).note = s.note := (awake_note_other (by rwa [causes])).trans note
    have same := runReached_silent (s := readied r rest s) (by rw [up, kind]; exact silent)
    exact same.trans (congrArg (fun n : Notices => n.kinds[(7 : Fin 9)]) kind)
  · have kind := awake_kind_lost (s := readied r rest s) (causes.trans lost)
    rw [note, pow] at kind
    have same := runReached_silent (s := readied r rest s) (by rw [up, kind]; exact silent)
    exact same.trans kind
  · have responses := readied_responses h isUp busy
    have address : (readied r rest s).host.hostAddr = r.src := congrArg Prod.snd (respond_intake _ r _ _)
    have cfg : (readied r rest s).cfg = s.cfg := respond_cfg ..
    have built := runReached_builds (s := readied r rest s) (causes.trans lost) (by rw [note]; exact enabled)
      (up.trans isUp) (readied_busy isUp busy) (by rw [responses, List.length_append]; exact Nat.succ_le_succ room)
    rw [note, address, cfg, pow] at built
    exact built
  · have hold : (readied r rest s).hold = s.hold := respond_hold ..
    rw [← hold]
    exact runReached_releases (up.trans isUp) (by rw [hold, records]) fresh (by rw [hold, idle])
  · have pac : (readied r rest s).pac = s.pac := respond_pac ..
    rw [← pac]
    exact runReached_delivers (up.trans isUp) (by rw [pac, empty]) (by rw [pac, fifo]) (by rw [pac, filled])
  · rw [runReached_bay]
    exact respond_bay ..
  · rw [runReached_cls]
    exact respond_cls ..
  · rw [runReached_ans]
    exact respond_ans ..

end Sys2Proof.Machine
end

section
/-! SUPPORT and proofs: insertion and removal of a drive (O33). -/

namespace Sys2Proof.Machine

/-! ## The report of a presence edge -/

section
variable {s : State} {edge : PresenceEdge}

/-- An edge that is no event of the BAY source, or that finds the box awake, changes nothing (R47, R51). -/
theorem presenceReport_deaf (deaf : ¬ BayEventHeard edge s ∨ s.pow.box = .run ∨ ∃ sub, s.pow.box = .waking sub) :
    presenceReport edge s = s := by
  unfold presenceReport
  split
  · rename_i named
    obtain unheard | awake := deaf
    · refine wakeEvent_unheard (name := .bay) 0 (Bool.eq_false_iff.mpr fun event => unheard ⟨named, ?_⟩)
      simpa [Power.source] using event
    · exact wakeEvent_awake 0 awake
  · rfl

theorem presenceReport_entry (heard : BayEventHeard edge s) (entry : s.pow.box = .sleepEntry) :
    presenceReport edge s = { s with pow.bay.pending := true } := by
  obtain ⟨named, enabled, latch⟩ := heard
  exact (if_pos named).trans ((wakeEvent_heard (name := .bay) 0 enabled (.inl latch)).1 entry)

theorem presenceReport_asleep (heard : BayEventHeard edge s) (asleep : s.pow.box = .sleep) :
    presenceReport edge s = startWake (latchWake .bay 0 s) := by
  obtain ⟨named, enabled, latch⟩ := heard
  exact (if_pos named).trans ((wakeEvent_heard (name := .bay) 0 enabled (.inl latch)).2 asleep)

/-- All that the report of a presence edge does. -/
theorem presenceReport_cases (edge : PresenceEdge) (s : State) :
    presenceReport edge s = s ∨ presenceReport edge s = latchWake .bay 0 s ∨
      presenceReport edge s = startWake (latchWake .bay 0 s) := by
  unfold presenceReport
  split
  · exact (wakeEvent_cases s .bay 0).imp_right fun event => event.imp And.right And.right
  · exact .inl rfl

theorem wouldWake_bay (s : State) :
    wouldWake .bay s = true ↔ s.pow.bay.enable = true ∧ s.pow.latch = false ∧ s.pow.box = .sleep := by
  simp [wouldWake, Power.source, and_assoc]

/-- Where the report starts no wake, it comes first (assumption log 4). -/
theorem withReport_ordered (other : State → State) (h : ¬ BayEventHeard edge s ∨ s.pow.box ≠ .sleep) :
    withReport edge other s = other (presenceReport edge s) := by
  refine if_neg fun ⟨named, wakes⟩ => ?_
  obtain ⟨enabled, latch, asleep⟩ := (wouldWake_bay s).mp wakes
  exact h.elim (fun unheard => unheard ⟨named, enabled, latch⟩) fun awake => awake asleep

/-- Where the report starts a wake, either may come first (assumption log 4). -/
theorem withReport_free (other : State → State) (heard : BayEventHeard edge s) (asleep : s.pow.box = .sleep) :
    withReport edge other s = other (presenceReport edge { s with choices := s.choices + 1 }) ∨
      withReport edge other s = presenceReport edge (other { s with choices := s.choices + 1 }) := by
  obtain ⟨named, enabled, latch⟩ := heard
  have wakes := (wouldWake_bay s).mpr ⟨enabled, latch, asleep⟩
  rw [withReport, if_pos ⟨named, wakes⟩, inEitherOrder]
  split
  · exact .inl rfl
  · exact .inr rfl

/-- A wake by the BAY source (R39a, R51). -/
theorem startWake_fromBay {v : State} (pow : v.pow = s.pow) (heard : BayEventHeard edge s)
    (idle : s.pow.anyPending = false) : BayWakeStarted s (startWake (latchWake .bay 0 v)) := by
  obtain ⟨-, enabled, latch⟩ := heard
  rw [← pow] at enabled latch idle
  obtain ⟨record, enable⟩ := startWake_fromSource (name := .bay) nofun idle enabled
  have started := startWake_started (s := v) (v := latchWake .bay 0 v) rfl rfl
  rw [latch] at record
  unfold BayWakeStarted
  rw [← pow]
  exact ⟨started.box, started.attempts, started.pwrEn, started.rst, started.stabTimer, started.spent, record, enable⟩

end

/-! ## Demands -/

section
variable {s : State} {i : Bay}

/-- A property that the effect on each demanded bay and each admission keep, a demand keeps. -/
theorem demand_keeps_demanded {P : State → Prop} {set : BaySet}
    (applying : ∀ b t, hasBay set b = true → P t → P (demandBay b t))
    (admitting : ∀ b rest t, t.bay.queue = b :: rest → P t →
      P (onBay b BayRecord.admitted { t with bay.queue := rest })) (h : P s) : P (demand set s) := by
  have step : ∀ b t, P t → P (if hasBay set b then demandBay b t else t) := by
    intro b t ht
    split
    · rename_i demanded
      exact applying b t demanded ht
    · exact ht
  unfold demand
  split
  · exact h
  · exact tryHeads_keeps (fun b rest t queue _ => admitting b rest t queue) _ _
      (step _ _ (step _ _ (step _ _ (step _ _ h))))

/-- The records of the other bays are left by the effect of a demand on one. -/
theorem demandBay_other {b : Bay} (other : i ≠ b) : (demandBay b s).bay.bays[i] = s.bay.bays[i] := by
  unfold demandBay
  split
  · exact getElem_vecMod_ne _ _ _ _ other
  · exact getElem_vecMod_ne _ _ _ _ other
  · rfl

theorem demandBay_queue (b : Bay) (s : State) :
    (demandBay b s).bay.queue = if s.bay.bays[b].state = .off then s.bay.queue ++ [b] else s.bay.queue := by
  unfold demandBay
  split
  · rename_i off
    rw [if_pos off]
  · rename_i ready
    rw [if_neg (by rw [ready]; nofun)]
    rfl
  · rename_i on _
    rw [if_neg on]

/-- The effect of a demand on a bay itself (R97). -/
theorem demandBay_own (b : Bay) (s : State) : (demandBay b s).bay.bays[b].state =
    if s.bay.bays[b].state = .off then .queued else s.bay.bays[b].state := by
  unfold demandBay
  split
  · rename_i off
    rw [if_pos off]
    simp [onBay]
  · rename_i ready
    rw [if_neg (by rw [ready]; nofun)]
    simp [onBay]
  · rename_i on _
    rw [if_neg on]

theorem admitted_other {b : Bay} {rest : List Bay} (other : i ≠ b) :
    (onBay b BayRecord.admitted { s with bay.queue := rest }).bay.bays[i] = s.bay.bays[i] :=
  getElem_vecMod_ne _ _ _ _ other

/-- A bay's presence line and needed count, which no demand changes. -/
def BayRecord.lines (b : BayRecord) : Bool × Nat :=
  (b.present, b.needed)

theorem demand_lines (set : BaySet) (s : State) (i : Bay) :
    (demand set s).bay.bays[i].lines = s.bay.bays[i].lines := by
  refine demand_keeps_demanded (P := fun t => t.bay.bays[i].lines = s.bay.bays[i].lines)
    (fun b t _ kept => Eq.trans ?_ kept) (fun b rest t _ kept => Eq.trans ?_ kept) rfl
  · by_cases own : i = b
    · subst own
      unfold demandBay
      split <;> simp [onBay, BayRecord.lines]
    · rw [demandBay_other own]
  · by_cases own : i = b
    · subst own
      simp [onBay, BayRecord.lines, BayRecord.admitted]
    · rw [admitted_other own]

/-- A bay out of the spin-up queue and in a state that no demand changes. -/
structure Unqueued (state : BayState) (i : Bay) (s : State) : Prop where
  state : s.bay.bays[i].state = state
  absent : i ∉ s.bay.queue

theorem Unqueued.admitting {state : BayState} {b : Bay} {rest : List Bay} (h : Unqueued state i s)
    (queue : s.bay.queue = b :: rest) :
    Unqueued state i (onBay b BayRecord.admitted { s with bay.queue := rest }) := by
  have absent := h.absent
  rw [queue, List.mem_cons, not_or] at absent
  obtain ⟨other, absent⟩ := absent
  refine ⟨?_, absent⟩
  rw [admitted_other other]
  exact h.state

theorem Unqueued.demandOther {state : BayState} {b : Bay} (h : Unqueued state i s) (other : i ≠ b) :
    Unqueued state i (demandBay b s) := by
  refine ⟨by rw [demandBay_other other, h.state], ?_⟩
  rw [demandBay_queue]
  split
  · simpa [other] using h.absent
  · exact h.absent

/-- A bay that a demand does not name, and that does not wait, stays as it is (R97). -/
theorem Unqueued.demand {state : BayState} {set : BaySet} (h : Unqueued state i s) (unnamed : hasBay set i = false) :
    Unqueued state i (demand set s) := by
  refine demand_keeps_demanded (fun b t named kept => kept.demandOther fun same => ?_)
    (fun b rest t queue kept => kept.admitting queue) h
  subst same
  exact nomatch named.symm.trans unnamed

/-- An ABSENT bay stays so under any demand (R97). -/
theorem Unqueued.demandAbsent (set : BaySet) (h : Unqueued .absent i s) :
    Unqueued .absent i (Machine.demand set s) := by
  refine demand_keeps_demanded (fun b t _ kept => ?_) (fun b rest t queue kept => kept.admitting queue) h
  by_cases own : i = b
  · subst own
    have state := kept.state
    refine ⟨by rw [demandBay_own, state]; rfl, ?_⟩
    rw [demandBay_queue, state]
    exact kept.absent
  · exact kept.demandOther own

/-- A bay that waits for power or has just been given it. -/
def Rising (i : Bay) (s : State) : Prop :=
  s.bay.bays[i].state = .queued ∨ s.bay.bays[i].state = .spinning

theorem Rising.demandBay (h : Rising i s) (b : Bay) : Rising i (demandBay b s) := by
  unfold Rising at h ⊢
  by_cases own : i = b
  · subst own
    obtain h | h := h <;> rw [demandBay_own, h]
    · exact .inl rfl
    · exact .inr rfl
  · rwa [demandBay_other own]

theorem Rising.admitting (h : Rising i s) (b : Bay) (rest : List Bay) :
    Rising i (onBay b BayRecord.admitted { s with bay.queue := rest }) := by
  by_cases own : i = b
  · subst own
    exact .inr (by simp [onBay, BayRecord.admitted])
  · unfold Rising
    rwa [admitted_other own]

theorem Rising.demand (h : Rising i s) (set : BaySet) : Rising i (demand set s) :=
  demand_keeps_demanded (fun b _ _ kept => kept.demandBay b) (fun b rest _ _ kept => kept.admitting b rest) h

/-- A demand puts a bay that is OFF into the queue (R97). -/
theorem demand_rises {set : BaySet} (off : s.bay.bays[i].state = .off) (named : hasBay set i = true) :
    Rising i (demand set s) := by
  have fold : ∀ (l : List Bay) (t : State), i ∈ l → t.bay.bays[i].state = .off ∨ Rising i t →
      Rising i (l.foldl (fun t b => if hasBay set b then demandBay b t else t) t) := by
    have after : ∀ (l : List Bay) (t : State), Rising i t →
        Rising i (l.foldl (fun t b => if hasBay set b then demandBay b t else t) t) := by
      intro l
      induction l with
      | nil => exact fun t ht => ht
      | cons b bs ih =>
        intro t ht
        refine ih _ ?_
        beta_reduce
        split
        · exact ht.demandBay b
        · exact ht
    intro l
    induction l with
    | nil => exact fun t member => nomatch member
    | cons b bs ih =>
      intro t member ht
      rw [List.foldl_cons]
      by_cases own : i = b
      · subst own
        refine after bs _ ?_
        rw [if_pos named]
        obtain off | rising := ht
        · exact .inl (by rw [demandBay_own, off]; rfl)
        · exact rising.demandBay i
      · refine ih _ (List.mem_of_ne_of_mem own member) ?_
        split
        · exact ht.imp (fun off => by rw [demandBay_other own, off]) fun rising => rising.demandBay b
        · exact ht
  have every : ∀ j : Bay, j ∈ allBays := by decide
  have some : set ≠ 0 := fun none => by
    rw [none, hasBay_zero] at named
    nomatch named
  unfold Machine.demand
  rw [if_neg some]
  exact tryHeads_keeps (P := Rising i) (fun b rest t _ _ kept => kept.admitting b rest) _ _
    (fold _ _ (every i) (.inl off))

/-- The bays after the start of a wake: one demand (R98; assumption log 19). -/
theorem startWake_bay (s : State) :
    (startWake s).bay = (demand (s.pow.wakeBays ||| neededOff s.bay) s).bay := by
  rw [startWake, enterRailSettle_bay]
  exact demand_bay_congr _ rfl

end

end Sys2Proof.Machine
end

section
/-! SUPPORT and proofs: insertion and removal of a drive (O33): the halts and the commands. -/

namespace Sys2Proof.Machine

/-! ## The bay-lost report -/

section
variable {s : State} {p : Session → Bool} {cause : HaltCause}

/-- Turns that find no session to halt change nothing. -/
theorem haltTurns_none : ∀ (l : List Slot) (s : State), (∀ i ∈ l, haltTurn p cause i s = s) →
    l.foldl (fun t i => haltTurn p cause i t) s = s := by
  intro l
  induction l with
  | nil => exact fun s _ => rfl
  | cons i is ih =>
    intro s none
    rw [List.foldl_cons, none i List.mem_cons_self]
    exact ih s fun j member => none j (List.mem_cons_of_mem i member)

theorem haltTurn_none {i : Slot} (none : ∀ x, s.pac.slots[i].session = some x → p x = false) :
    haltTurn p cause i s = s := by
  unfold haltTurn
  split
  · rename_i x session
    rw [none x session]
    rfl
  · rfl

theorem haltWhere_none (none : ∀ (j : Slot) x, s.pac.slots[j].session = some x → p x = false) :
    haltWhere p cause s = s :=
  haltTurns_none _ s fun i _ => haltTurn_none (none i)

/-- The first session that the test names halts first (R130). -/
theorem haltWhere_first {j : Slot} {x : Session} (session : s.pac.slots[j].session = some x) (named : p x = true)
    (first : ∀ k : Slot, k < j → ∀ y, s.pac.slots[k].session = some y → p y = false) :
    haltWhere p cause s = haltWhere p cause (haltSession j cause s) := by
  have split : ∀ k : Slot, allSlots = allSlots.filter (· < k) ++ k :: allSlots.filter (k < ·) := by decide
  have own : haltTurn p cause j s = haltSession j cause s := by
    unfold haltTurn
    rw [session]
    exact if_pos named
  have slots (k : Slot) (other : k ≠ j) : (haltSession j cause s).pac.slots[k] = s.pac.slots[k] := by
    rw [haltSession_slots session]
    exact getElem_vecMod_ne _ _ _ _ other
  have idle : (haltSession j cause s).pac.slots[j].session = none := by
    rw [haltSession_slots session]
    simp
  have below (k : Slot) (member : k ∈ allSlots.filter (· < j)) : k < j := by simpa using (List.mem_filter.mp member).2
  rw [haltWhere_eq, haltWhere_eq, split j, List.foldl_append, List.foldl_append, List.foldl_cons, List.foldl_cons,
    haltTurns_none _ s fun k member => haltTurn_none (first k (below k member)),
    haltTurns_none _ (haltSession j cause s) fun k member => haltTurn_none fun y hy => ?_, own,
    haltTurn_none fun y hy => ?_]
  · rw [idle] at hy
    nomatch hy
  · rw [slots k (Fin.ne_of_lt (below k member))] at hy
    exact first k (below k member) y hy

/-- The stage arbiter leaves an IDLE slot. -/
theorem arbitrate_idle {j : Slot} {n : Nat} (h : s.pac.slots[j] = { session := none, leftBehind := n }) :
    (arbitrate s).pac.slots[j] = { session := none, leftBehind := n } := by
  refine arbitrateN_keeps (P := fun t => t.pac.slots[j] = { session := none, leftBehind := n })
    (fun i x k t session _ _ _ kept => ?_) _ s h
  have other : j ≠ i := by
    rintro rfl
    rw [kept] at session
    nomatch session
  rw [issueGrant, queueMsg_slots]
  exact (getElem_vecMod_ne _ _ _ _ other).trans kept

/-- A bay-lost report leaves the slot of each session of the bay IDLE, what was undelivered left behind (R95, R130). -/
theorem bayLost_slot {i : Bay} {j : Slot} {x : Session} (session : s.pac.slots[j].session = some x)
    (lost : hasBay x.bays i = true) : (bayLost i s).pac.slots[j] =
      { session := none, leftBehind := s.pac.slots[j].leftBehind + x.undelivered } := by
  refine arbitrate_idle ?_
  rw [haltWhere_slots, SessionSlot.haltedWhere, session]
  simp [lost]

theorem bayLost_alike (i : Bay) (s : State) (b : Bay) : s.bay.bays[b].alike (bayLost i s).bay.bays[b] := by
  rw [bayLost, arbitrate_bay]
  exact haltWhere_alike _ _ s b

theorem bayLost_queue (i : Bay) (s : State) : (bayLost i s).bay.queue = s.bay.queue := by
  rw [bayLost, arbitrate_bay]
  refine haltWhere_keeps (P := fun t => t.bay.queue = s.bay.queue) (fun j t kept => ?_) _ rfl
  cases session : t.pac.slots[j].session with
  | none => rwa [haltSession_idle session]
  | some x =>
    rw [haltSession_bay session]
    exact kept

end

/-! ## A bay whose drive is gone -/

/-- A bay that is ABSENT, with no drive and out of the spin-up queue. -/
structure Gone (i : Bay) (s : State) : Prop where
  unqueued : Unqueued .absent i s
  present : s.bay.bays[i].present = false

section
variable {s : State} {i : Bay}

theorem Gone.of_bay {t : State} (h : Gone i s) (bay : t.bay = s.bay) : Gone i t := by
  obtain ⟨⟨state, absent⟩, present⟩ := h
  rw [← bay] at state absent present
  exact ⟨⟨state, absent⟩, present⟩

theorem Gone.bayLost (h : Gone i s) (b : Bay) : Gone i (bayLost b s) := by
  have alike := bayLost_alike b s i
  obtain ⟨⟨state, absent⟩, present⟩ := h
  exact ⟨⟨alike.state.trans state, by rwa [bayLost_queue]⟩, alike.present.trans present⟩

theorem Gone.startWake (h : Gone i s) : Gone i (startWake s) := by
  have woken : Gone i (demand (s.pow.wakeBays ||| neededOff s.bay) s) :=
    ⟨h.unqueued.demandAbsent _, (congrArg Prod.fst (demand_lines _ s i)).trans h.present⟩
  exact woken.of_bay (startWake_bay s)

theorem Gone.presenceReport (h : Gone i s) (edge : PresenceEdge) : Gone i (presenceReport edge s) := by
  obtain eq | eq | eq := presenceReport_cases edge s <;> rw [eq]
  · exact h
  · exact h.of_bay (latchWake_bay ..)
  · exact (h.of_bay (t := latchWake .bay 0 s) (latchWake_bay ..)).startWake

end

/-! ## The bay controller at a removal -/

section
variable {s : State} {i : Bay}

/-- The presence line of a bay withdrawn. -/
def withdrawn (i : Bay) (s : State) : State :=
  onBay i (fun b => { b with present := false }) s

theorem vecMod_vecMod {α : Type} {n : Nat} (v : Vector α n) (i : Fin n) (f g : α → α) :
    vecMod (vecMod v i f) i g = vecMod v i fun a => g (f a) := by
  simp [vecMod]

theorem vecMod_comm {α : Type} {n : Nat} (v : Vector α n) (i j : Fin n) {f g : α → α} (comm : ∀ a, f (g a) = g (f a)) :
    vecMod (vecMod v j g) i f = vecMod (vecMod v i f) j g := by
  by_cases own : i = j
  · subst own
    rw [vecMod_vecMod, vecMod_vecMod, funext comm]
  · have apart : (i : Nat) ≠ j := fun same => own (Fin.ext same)
    refine Vector.ext fun k hk => ?_
    simp only [getElem_vecMod, Fin.getElem_fin, if_neg apart, if_neg apart.symm]
    split_ifs with first second
    · exact absurd (first.symm.trans second) apart
    · rfl
    · rfl
    · rfl

theorem spinningCost_withdrawn (i : Bay) (s : State) :
    (withdrawn i s).bay.spinningCost = s.bay.spinningCost := by
  have same (j : Bay) : (withdrawn i s).bay.bays[j].state = s.bay.bays[j].state ∧
      (withdrawn i s).bay.bays[j].settings = s.bay.bays[j].settings := by
    by_cases own : j = i
    · subst own
      simp [withdrawn, onBay]
    · have other : (withdrawn i s).bay.bays[j] = s.bay.bays[j] := getElem_vecMod_ne _ _ _ _ own
      rw [other]
      exact ⟨rfl, rfl⟩
  unfold BayControl.spinningCost
  congr 1
  funext n j
  rw [(same j).1, (same j).2]

/-- Power is given without regard to the presence line (R100). -/
theorem tryHeads_withdrawn (n : Nat) :
    ∀ s : State, tryHeads n (withdrawn i s) = withdrawn i (tryHeads n s) := by
  induction n with
  | zero => exact fun s => rfl
  | succ n ih =>
    intro s
    have queue : (withdrawn i s).bay.queue = s.bay.queue := rfl
    have free : (withdrawn i s).bay.freeBudget = s.bay.freeBudget := by
      rw [BayControl.freeBudget, spinningCost_withdrawn]
      rfl
    unfold tryHeads
    rw [queue, free]
    split
    · rfl
    · rename_i b rest _
      have cost : (withdrawn i s).bay.bays[b].settings.cost = s.bay.bays[b].settings.cost := by
        by_cases own : b = i
        · subst own
          simp [withdrawn, onBay]
        · exact congrArg (fun b : BayRecord => b.settings.cost) (getElem_vecMod_ne _ _ _ _ own)
      rw [cost]
      split
      · rw [← ih]
        have commuted : onBay b BayRecord.admitted { withdrawn i s with bay.queue := rest } =
            withdrawn i (onBay b BayRecord.admitted { s with bay.queue := rest }) := by
          simp only [onBay, withdrawn]
          rw [vecMod_comm _ b i]
          exact fun a => rfl
        rw [commuted]
      · rfl

theorem tryHead_withdrawn (s : State) : tryHead (withdrawn i s) = withdrawn i (tryHead s) :=
  tryHeads_withdrawn _ s

/-- The share of a bay in the cost of the SPINNING bays (R90). -/
def BayRecord.spinCost (b : BayRecord) : Nat :=
  if b.state = .spinning then b.settings.cost else 0

theorem spinningCost_eq (b : BayControl) : b.spinningCost =
    b.bays[(0 : Bay)].spinCost + b.bays[(1 : Bay)].spinCost + b.bays[(2 : Bay)].spinCost +
      b.bays[(3 : Bay)].spinCost := by
  have add (n : Nat) (r : BayRecord) : (if r.state = .spinning then n + r.settings.cost else n) = n + r.spinCost := by
    unfold BayRecord.spinCost
    split <;> rfl
  simp only [BayControl.spinningCost, allBays, List.foldl_cons, List.foldl_nil, add, Nat.zero_add]

/-- One bay changed changes the cost of the SPINNING bays by its own share (R90). -/
theorem spinningCost_vecMod (b : BayControl) (i : Bay) (f : BayRecord → BayRecord) (queue : List Bay) :
    ({ b with bays := vecMod b.bays i f, queue := queue } : BayControl).spinningCost + b.bays[i].spinCost =
      b.spinningCost + (f b.bays[i]).spinCost := by
  have changed (j : Bay) : (vecMod b.bays i f)[j].spinCost =
      if j = i then (f b.bays[i]).spinCost else b.bays[j].spinCost := by
    split
    · rename_i own
      subst own
      simp
    · rename_i other
      rw [getElem_vecMod_ne _ _ _ _ other]
  rw [spinningCost_eq, spinningCost_eq]
  simp only [changed]
  have four : ∀ i : Bay, i = 0 ∨ i = 1 ∨ i = 2 ∨ i = 3 := by decide
  obtain rfl | rfl | rfl | rfl := four i <;> simp <;> omega

end

/-! ## A removal -/

section
variable {s : State} {i : Bay} {slots : Vector SessionSlot 4}

/-- The part with a drive gone, before the head of the spin-up queue is tried (R94). -/
def driveGone (i : Bay) (left : BayState) (slots : Vector SessionSlot 4) (s : State) : State :=
  { s with
    bay.bays := vecMod s.bay.bays i fun b =>
      { b with state := .absent, pwr := false, spinTimer := none, idleTimer := none, present := false },
    bay.queue := s.bay.queue.filter fun b => b ≠ i,
    pac.readySet := if left = .ready then s.pac.readySet &&& ~~~ oneBay i else s.pac.readySet,
    pac.slots := if left = .ready then slots else s.pac.slots }

/-- The part after the removal of a drive, before the report of it (R94). -/
def removed (i : Bay) (left : BayState) (slots : Vector SessionSlot 4) (s : State) : State :=
  raise .bayChange (.bayChange i .remove left)
    (if left = .spinning ∨ (left = .queued ∧ s.bay.queue.head? = some i) then tryHead (driveGone i left slots s)
     else driveGone i left slots s)

theorem unpowered_withdrawn (i : Bay) (s : State) :
    withdrawn i (onBay i (BayRecord.unpowered .absent) s) =
      { s with
        bay.bays := vecMod s.bay.bays i fun b =>
          { b with state := .absent, pwr := false, spinTimer := none, idleTimer := none, present := false } } := by
  simp only [withdrawn, onBay, vecMod_vecMod]
  rfl

theorem queue_filter (agree : BaysAgree s) (left : s.bay.bays[i].state ≠ .queued) :
    (s.bay.queue.filter fun b => b ≠ i) = s.bay.queue := by
  obtain ⟨-, -, -, queued, -⟩ := agree
  refine List.filter_eq_self.mpr fun b member => ?_
  have other : b ≠ i := fun same => left ((queued i).mp (same ▸ member))
  simpa using other

theorem fallen_slots (fallen : ∀ j : Slot, slots[j] =
    { s.pac.slots[j] with
      session := s.pac.slots[j].session.map fun x => if hasBay x.bays i then x.fallen else x }) :
    slots = (fallSessions (fun x => hasBay x.bays i) s).pac.slots := by
  refine Vector.ext fun j hj => ?_
  have slot := fallen ⟨j, hj⟩
  simp only [Fin.getElem_fin] at slot
  simp [fallSessions, slot]

/-- What a removal makes of the bay controller and of the pacing engine, by the state that the bay leaves (R94). -/
theorem takeDown_withdrawn (agree : BaysAgree s) (present : s.bay.bays[i].state ≠ .absent)
    (fallen : ∀ j : Slot, slots[j] =
      { s.pac.slots[j] with
        session := s.pac.slots[j].session.map fun x => if hasBay x.bays i then x.fallen else x }) :
    raise .bayChange (.bayChange i .remove s.bay.bays[i].state) (withdrawn i (takeDown i .absent s)) =
      removed i s.bay.bays[i].state slots s := by
  unfold removed
  congr 1
  unfold takeDown
  cases left : s.bay.bays[i].state with
  | absent => exact absurd left present
  | off =>
    rw [if_neg (by simp)]
    dsimp only
    rw [unpowered_withdrawn, driveGone, queue_filter agree (by rw [left]; nofun)]
    rfl
  | queued =>
    have waited : withdrawn i { onBay i (BayRecord.unpowered .absent) s with
        bay.queue := s.bay.queue.filter fun b => b ≠ i } = driveGone i .queued slots s := by
      simp only [withdrawn, onBay, vecMod_vecMod]
      rfl
    dsimp only
    split
    · rename_i head
      rw [if_pos (.inr ⟨rfl, head⟩), ← tryHead_withdrawn, waited]
    · rename_i behind
      rw [if_neg (by simp [behind]), waited]
  | spinning =>
    rw [if_pos (.inl rfl)]
    dsimp only
    rw [← tryHead_withdrawn, unpowered_withdrawn, driveGone, queue_filter agree (by rw [left]; nofun)]
    rfl
  | ready =>
    rw [if_neg (by simp)]
    dsimp only
    rw [driveGone, queue_filter agree (by rw [left]; nofun), fallen_slots fallen]
    have fell : withdrawn i (reportUnready i (onBay i (BayRecord.unpowered .absent) s)) =
        reportUnready i (withdrawn i (onBay i (BayRecord.unpowered .absent) s)) := rfl
    rw [fell, unpowered_withdrawn]
    rfl

end

end Sys2Proof.Machine
end

section
/-! SUPPORT and proofs: insertion and removal of a drive (O33): the commands. -/

namespace Sys2Proof.Machine

/-! ## The report, and what follows it for a needed bay -/

/-- The report of a presence edge, with the other consequence of the edge for a bay that a session needs (R93, R94). -/
def reported (edge : PresenceEdge) (other : State → State) (needed : Nat) (t : State) : State :=
  if 0 < needed then withReport edge other t else presenceReport edge t

section
variable {s t : State} {edge : PresenceEdge} {other : State → State} {needed : Nat}

/-- Where the report starts no wake, it comes first. -/
theorem reported_ordered (h : ¬ BayEventHeard edge t ∨ t.pow.box ≠ .sleep) :
    reported edge other needed t =
      if needed = 0 then presenceReport edge t else other (presenceReport edge t) := by
  unfold reported
  rw [withReport_ordered other h]
  by_cases unneeded : needed = 0
  · rw [if_pos unneeded, if_neg (by omega)]
  · rw [if_neg unneeded, if_pos (by omega)]

theorem reported_deaf (deaf : ¬ BayEventHeard edge t ∨ t.pow.box = .run ∨ ∃ sub, t.pow.box = .waking sub) :
    reported edge other needed t = if needed = 0 then t else other t := by
  have awake : ¬ BayEventHeard edge t ∨ t.pow.box ≠ .sleep := by
    refine deaf.imp_right fun awake => ?_
    obtain run | ⟨sub, waking⟩ := awake
    · rw [run]
      nofun
    · rw [waking]
      nofun
  rw [reported_ordered awake, presenceReport_deaf deaf]

theorem reported_entry (heard : BayEventHeard edge t) (entry : t.pow.box = .sleepEntry) :
    reported edge other needed t =
      if needed = 0 then { t with pow.bay.pending := true } else other { t with pow.bay.pending := true } := by
  rw [reported_ordered (.inr (by rw [entry]; nofun)), presenceReport_entry heard entry]

/-- In SLEEP a report that is heard starts a wake, before or after the other consequence (assumption log 4). -/
theorem reported_asleep (heard : BayEventHeard edge t) (asleep : t.pow.box = .sleep)
    (pow : ∀ v, (other v).pow = v.pow) :
    (needed = 0 ∧ reported edge other needed t = startWake (latchWake .bay 0 t)) ∨
      (0 < needed ∧ ∃ v : State, v = { t with choices := t.choices + 1 } ∧
        (reported edge other needed t = other (startWake (latchWake .bay 0 v)) ∨
          reported edge other needed t = startWake (latchWake .bay 0 (other v)))) := by
  by_cases unneeded : needed = 0
  · exact .inl ⟨unneeded, (if_neg (by omega)).trans (presenceReport_asleep heard asleep)⟩
  · have isNeeded : 0 < needed := by omega
    refine .inr ⟨isNeeded, _, rfl, ?_⟩
    unfold reported
    rw [if_pos isNeeded]
    refine (withReport_free other heard asleep).imp (fun first => ?_) fun last => ?_
    · rw [first, presenceReport_asleep (s := { t with choices := t.choices + 1 }) heard asleep]
    · have same := pow { t with choices := t.choices + 1 }
      have heardStill : BayEventHeard edge (other { t with choices := t.choices + 1 }) := by
        rw [BayEventHeard, same]
        exact heard
      rw [last, presenceReport_asleep heardStill (by rw [same]; exact asleep)]

/-- What the count of free choices, the report and the other consequence keep, the edge keeps. -/
theorem reported_keeps {P : State → Prop} (counting : ∀ v n, P v → P { v with choices := n })
    (reporting : ∀ v, P v → P (presenceReport edge v)) (following : ∀ v, P v → P (other v)) (h : P t) :
    P (reported edge other needed t) := by
  unfold reported withReport
  split
  · split
    · exact inEitherOrder_keeps counting reporting following h
    · exact following _ (reporting _ h)
  · exact reporting _ h

/-- In SLEEP the edge starts a wake of the BAY source alone (R39a, R51). -/
theorem reported_wakes (tpow : t.pow = s.pow) (heard : BayEventHeard edge s) (asleep : s.pow.box = .sleep)
    (idle : s.pow.anyPending = false) (pow : ∀ v, (other v).pow = v.pow) :
    BayWakeStarted s (reported edge other needed t) := by
  have started (v : State) (vpow : v.pow = s.pow) : BayWakeStarted s (startWake (latchWake .bay 0 v)) :=
    startWake_fromBay vpow heard idle
  have heardStill : BayEventHeard edge t := by
    rw [BayEventHeard, tpow]
    exact heard
  obtain ⟨-, alone⟩ | ⟨-, v, rfl, first | last⟩ := reported_asleep (needed := needed) heardStill (tpow ▸ asleep) pow
  · rw [alone]
    exact started t tpow
  · rw [first, BayWakeStarted, pow]
    exact started { t with choices := t.choices + 1 } tpow
  · rw [last]
    exact started _ ((pow _).trans tpow)

end

/-! ## An insertion -/

section
variable {s : State} {i : Bay}

/-- The part with a drive inserted, before the report of it (R93). -/
def inserted (i : Bay) (s : State) : State :=
  raise .bayChange (.bayChange i .insert .off)
    { s with bay.bays := vecMod s.bay.bays i fun b => { b with state := .off, present := true } }

theorem execBayInsertion_eq (absent : s.bay.bays[i].state = .absent) (free : s.pow.held = none) :
    exec (.bayInsertion i) s =
      .next (reported .insert (demand (oneBay i)) s.bay.bays[i].needed (inserted i s)) :=
  congrArg Host.Outcome.next (if_pos ⟨absent, free⟩)

theorem inserted_bay (i : Bay) (s : State) :
    (inserted i s).bay.bays[i] = { s.bay.bays[i] with state := .off, present := true } := by
  simp [inserted]

/-- The bays that a wake by the BAY source demands: those of its set, and the OFF bays that a session needs (R98). -/
theorem latchBay_wakeBays (idle : s.pow.anyPending = false) (enabled : s.pow.bay.enable = true) :
    (latchWake .bay 0 s).pow.wakeBays = s.pow.bay.bays := by
  obtain ⟨record, -⟩ := startWake_fromSource (name := .bay) nofun idle enabled
  rw [startWake_pow] at record
  exact congrArg WakeRecord.demanded record

theorem startWake_rises (off : s.bay.bays[i].state = .off)
    (named : hasBay s.pow.wakeBays i = true ∨ 0 < s.bay.bays[i].needed) : Rising i (startWake s) := by
  have risen : Rising i (demand (s.pow.wakeBays ||| neededOff s.bay) s) := by
    refine demand_rises off ?_
    rw [hasBay_or, neededOff, hasBay_baysWhere, off]
    simpa using named
  unfold Rising
  rw [startWake_bay]
  exact risen

theorem Rising.startWake (h : Rising i s) : Rising i (startWake s) := by
  unfold Rising
  rw [startWake_bay]
  exact h.demand _

theorem startWake_unnamed (h : Unqueued .off i s) (unnamed : hasBay s.pow.wakeBays i = false)
    (unneeded : s.bay.bays[i].needed = 0) : (startWake s).bay.bays[i].state = .off := by
  have kept : Unqueued .off i (demand (s.pow.wakeBays ||| neededOff s.bay) s) := by
    refine h.demand ?_
    rw [hasBay_or, neededOff, hasBay_baysWhere, unnamed, unneeded]
    simp
  rw [startWake_bay]
  exact kept.state

theorem presenceReport_lines (edge : PresenceEdge) (s : State) (i : Bay) :
    (presenceReport edge s).bay.bays[i].lines = s.bay.bays[i].lines := by
  obtain eq | eq | eq := presenceReport_cases edge s <;> rw [eq]
  · rw [latchWake_bay]
  · rw [startWake_bay, demand_lines, latchWake_bay]

/-- What an insertion leaves as it is, whatever the report does. -/
theorem inserted_reported (i : Bay) (s : State) (needed : Nat) :
    (reported .insert (demand (oneBay i)) needed (inserted i s)).note = (inserted i s).note ∧
      (reported .insert (demand (oneBay i)) needed (inserted i s)).pac = s.pac ∧
      (reported .insert (demand (oneBay i)) needed (inserted i s)).bay.bays[i].lines =
        (true, s.bay.bays[i].needed) := by
  refine reported_keeps
    (P := fun v => v.note = (inserted i s).note ∧ v.pac = s.pac ∧ v.bay.bays[i].lines = (true, s.bay.bays[i].needed))
    (fun v n kept => kept) (fun v ⟨note, pac, lines⟩ => ⟨?_, ?_, ?_⟩) (fun v ⟨note, pac, lines⟩ => ⟨?_, ?_, ?_⟩)
    ⟨rfl, rfl, ?_⟩
  · rw [inserted_bay]
    rfl
  · rw [presenceReport_note, note]
  · rw [presenceReport_pac, pac]
  · rw [presenceReport_lines, lines]
  · rw [demand_note, note]
  · rw [demand_pac, pac]
  · rw [demand_lines, lines]

/-- The bay after an insertion that starts a wake: OFF, or demanded with the wake's bays (R39a, R93, R98). -/
theorem inserted_woken (agree : BaysAgree s) (absent : s.bay.bays[i].state = .absent)
    (heard : BayEventHeard .insert s) (asleep : s.pow.box = .sleep) (idle : s.pow.anyPending = false) :
    (s.bay.bays[i].needed = 0 → hasBay s.pow.bay.bays i = false →
      (reported .insert (demand (oneBay i)) s.bay.bays[i].needed (inserted i s)).bay.bays[i].state = .off) ∧
    (0 < s.bay.bays[i].needed ∨ hasBay s.pow.bay.bays i = true →
      Rising i (reported .insert (demand (oneBay i)) s.bay.bays[i].needed (inserted i s))) := by
  obtain ⟨-, -, -, queued, -⟩ := agree
  have unqueued : i ∉ s.bay.queue := fun member => nomatch absent.symm.trans ((queued i).mp member)
  have bays (v : State) (pow : v.pow = s.pow) : (latchWake .bay 0 v).pow.wakeBays = s.pow.bay.bays := by
    rw [latchBay_wakeBays (by rw [pow]; exact idle) (by rw [pow]; exact heard.2.1), pow]
  have off : (inserted i s).bay.bays[i].state = .off := by rw [inserted_bay]
  have needed : (inserted i s).bay.bays[i].needed = s.bay.bays[i].needed := by rw [inserted_bay]
  have wakes := reported_asleep (t := inserted i s) (needed := s.bay.bays[i].needed) heard asleep
    (fun v => demand_pow (oneBay i) v)
  refine ⟨fun unneeded unnamed => ?_, fun named => ?_⟩
  · obtain ⟨-, alone⟩ | ⟨isNeeded, -⟩ := wakes
    · rw [alone]
      exact startWake_unnamed (s := latchWake .bay 0 (inserted i s)) ⟨off, unqueued⟩
        (by rw [bays (inserted i s) rfl, unnamed])
        (needed.trans unneeded)
    · omega
  · have woken (v : State) (pow : v.pow = s.pow) (bay : v.bay = (inserted i s).bay) :
        Rising i (startWake (latchWake .bay 0 v)) := by
      refine startWake_rises ?_ ?_
      · rw [latchWake_bay, bay, off]
      · rw [bays v pow, latchWake_bay, bay, needed]
        exact named.symm
    obtain ⟨-, alone⟩ | ⟨-, v, rfl, first | last⟩ := wakes
    · rw [alone]
      exact woken (inserted i s) rfl rfl
    · rw [first]
      exact (woken { inserted i s with choices := (inserted i s).choices + 1 } rfl rfl).demand _
    · rw [last]
      have demanded : Rising i (demand (oneBay i) { inserted i s with choices := (inserted i s).choices + 1 }) :=
        demand_rises off (by rw [hasBay_oneBay]; exact decide_eq_true rfl)
      refine Rising.startWake ?_
      unfold Rising
      rw [latchWake_bay]
      exact demanded

end

/-! ## A removal reported -/

section
variable {s : State} {i : Bay} {left : BayState} {slots : Vector SessionSlot 4}

theorem Gone.tryHead (h : Gone i s) : Gone i (tryHead s) := by
  refine tryHeads_keeps (P := Gone i) (fun b rest t queue _ kept => ⟨kept.unqueued.admitting queue, ?_⟩) _ s h
  have absent := kept.unqueued.absent
  rw [queue, List.mem_cons, not_or] at absent
  exact (congrArg BayRecord.present (admitted_other absent.1)).trans kept.present

theorem driveGone_gone : Gone i (driveGone i left slots s) := by
  have bay : (driveGone i left slots s).bay.bays[i] =
      { s.bay.bays[i] with
        state := .absent, pwr := false, spinTimer := none, idleTimer := none, present := false } := by
    simp [driveGone]
  exact ⟨⟨congrArg BayRecord.state bay, by simp [driveGone]⟩, congrArg BayRecord.present bay⟩

theorem removed_gone : Gone i (removed i left slots s) := by
  unfold removed
  refine Gone.of_bay ?_ (raise_bay ..)
  split
  · exact driveGone_gone.tryHead
  · exact driveGone_gone

theorem removed_pow : (removed i left slots s).pow = s.pow := by
  unfold removed
  rw [raise_pow]
  split
  · rw [tryHead_pow]
    rfl
  · rfl

theorem removed_slots : (removed i left slots s).pac.slots = if left = .ready then slots else s.pac.slots := by
  unfold removed
  rw [raise_pac]
  split
  · rw [tryHead_pac]
    rfl
  · rfl

/-- The removal of a drive, with what follows it. -/
theorem execBayRemoval_eq (agree : BaysAgree s) (present : s.bay.bays[i].state ≠ .absent) (free : s.pow.held = none)
    (fallen : ∀ j : Slot, slots[j] =
      { s.pac.slots[j] with
        session := s.pac.slots[j].session.map fun x => if hasBay x.bays i then x.fallen else x }) :
    exec (.bayRemoval i) s =
      .next (reported .remove (bayLost i) s.bay.bays[i].needed (removed i s.bay.bays[i].state slots s)) := by
  rw [← takeDown_withdrawn agree present fallen]
  exact congrArg Host.Outcome.next (if_neg (by simpa [free] using present))

/-- A session of the bay is still in its slot after the drive has gone, whether it has fallen or not. -/
theorem removed_session (fallen : ∀ j : Slot, slots[j] =
      { s.pac.slots[j] with
        session := s.pac.slots[j].session.map fun x => if hasBay x.bays i then x.fallen else x })
    {j : Slot} {x : Session} (session : s.pac.slots[j].session = some x) :
    ∃ y, (removed i left slots s).pac.slots[j].session = some y ∧ y.bays = x.bays ∧ y.undelivered = x.undelivered ∧
      (removed i left slots s).pac.slots[j].leftBehind = s.pac.slots[j].leftBehind := by
  have floor : x.fallen.bays = x.bays ∧ x.fallen.undelivered = x.undelivered := by
    unfold Session.fallen
    split <;> exact ⟨rfl, rfl⟩
  rw [removed_slots]
  split
  · rw [fallen j, session]
    refine ⟨if hasBay x.bays i then x.fallen else x, rfl, ?_, ?_, rfl⟩ <;> split
    · exact floor.1
    · rfl
    · exact floor.2
    · rfl
  · exact ⟨x, session, rfl, rfl, rfl⟩

/-- However the report falls out, a needed bay is reported as lost (R95, R130). -/
theorem reported_lost {t : State} {needed : Nat} (isNeeded : 0 < needed) {j : Slot} {y : Session}
    (session : t.pac.slots[j].session = some y) (lost : hasBay y.bays i = true) :
    (reported .remove (bayLost i) needed t).pac.slots[j] =
      { session := none, leftBehind := t.pac.slots[j].leftBehind + y.undelivered } := by
  have first (v : State) (pac : v.pac = t.pac) : (bayLost i (presenceReport .remove v)).pac.slots[j] =
      { session := none, leftBehind := t.pac.slots[j].leftBehind + y.undelivered } := by
    have reportedPac : (presenceReport .remove v).pac = t.pac := (presenceReport_pac ..).trans pac
    rw [bayLost_slot (by rw [reportedPac]; exact session) lost, reportedPac]
  unfold reported
  rw [if_pos isNeeded]
  by_cases wakes : BayEventHeard .remove t ∧ t.pow.box = .sleep
  · obtain reportFirst | lostFirst := withReport_free (bayLost i) wakes.1 wakes.2
    · rw [reportFirst]
      exact first _ rfl
    · rw [lostFirst, presenceReport_pac]
      exact bayLost_slot (s := { t with choices := t.choices + 1 }) session lost
  · rw [withReport_ordered (bayLost i) (by tauto)]
    exact first t rfl

end

/-- Settles O33: both edges change the bay, raise BAY_CHANGE and are reported with what follows for a needed bay. -/
theorem presenceEdgesChangeTheBay : Obligations.PresenceEdgesChangeTheBay := by
  refine ⟨fun i s => ⟨fun nobody => ?_, fun j x session lost first => ?_⟩,
    fun i s => ⟨fun other => congrArg Host.Outcome.next (if_neg (by tauto)),
      fun other => congrArg Host.Outcome.next (if_pos other)⟩,
    fun i s t agree absent free eq => ?_, fun i s d t slots left agree leftEq present free fallen gone eq => ?_⟩
  · rw [bayLost, haltWhere_none nobody]
  · rw [bayLost, bayLost, haltWhere_first session lost first]
  · obtain rfl : t = inserted i s := eq
    rw [execBayInsertion_eq absent free]
    refine ⟨fun deaf => ?_, fun heard entry => ?_, fun heard asleep idle => ?_⟩
    · exact congrArg Host.Outcome.next (reported_deaf (t := inserted i s) deaf)
    · exact congrArg Host.Outcome.next (reported_entry (t := inserted i s) heard entry)
    · obtain ⟨note, pac, lines⟩ := inserted_reported i s s.bay.bays[i].needed
      obtain ⟨off, rising⟩ := inserted_woken agree absent heard asleep idle
      exact ⟨_, rfl, reported_wakes (t := inserted i s) rfl heard asleep idle fun v => demand_pow _ v, note, pac,
        congrArg Prod.fst lines, congrArg Prod.snd lines, off, rising⟩
  · subst leftEq
    obtain rfl : d = driveGone i s.bay.bays[i].state slots s := gone
    obtain rfl : t = removed i s.bay.bays[i].state slots s := eq
    have pow := removed_pow (s := s) (i := i) (left := s.bay.bays[i].state) (slots := slots)
    have removedGone := removed_gone (s := s) (i := i) (left := s.bay.bays[i].state) (slots := slots)
    have heardStill (edge : PresenceEdge) :
        BayEventHeard edge (removed i s.bay.bays[i].state slots s) ↔ BayEventHeard edge s := by
      simp only [BayEventHeard, pow]
    have finallyGone (needed : Nat) :
        Gone i (reported .remove (bayLost i) needed (removed i s.bay.bays[i].state slots s)) :=
      reported_keeps (fun v n kept => kept.of_bay rfl) (fun v kept => kept.presenceReport .remove)
        (fun v kept => kept.bayLost i) removedGone
    rw [execBayRemoval_eq agree present free fallen]
    refine ⟨fun spinning => ?_, fun deaf => ?_, fun heard entry => ?_, fun heard asleep idle => ?_, fun needed => ?_⟩
    · have cost := spinningCost_vecMod s.bay i
        (fun b => { b with state := .absent, pwr := false, spinTimer := none, idleTimer := none, present := false })
        (s.bay.queue.filter fun b => b ≠ i)
      have own : s.bay.bays[i].spinCost = s.bay.bays[i].settings.cost := if_pos spinning
      rw [own] at cost
      exact cost
    · exact congrArg Host.Outcome.next (reported_deaf (by rw [heardStill, pow]; exact deaf))
    · exact congrArg Host.Outcome.next (reported_entry ((heardStill _).mpr heard) (by rw [pow]; exact entry))
    · exact ⟨_, rfl, reported_wakes pow heard asleep idle fun v => bayLost_pow i v, (finallyGone _).unqueued.state,
        (finallyGone _).present⟩
    · refine ⟨_, rfl, (finallyGone _).unqueued.state, fun j x session lost => ?_⟩
      obtain ⟨y, still, bays, undelivered, leftBehind⟩ := removed_session (left := s.bay.bays[i].state) fallen session
      have slot := reported_lost (i := i) needed still (by rw [bays]; exact lost)
      rw [slot, undelivered, leftBehind]
      exact ⟨rfl, rfl⟩

end Sys2Proof.Machine
end

section
/-! SUPPORT and proofs: every step keeps every queue and list within its capacity (O60): the shared operations. -/

namespace Sys2Proof.Machine

/-! ## The queues and their capacities -/

/-- The queues and lists that have a capacity. -/
inductive Queue where
  | responses
  | requests
  | direct
  | hostFrames
  | messages
  | questions
  | answers
  | records
  | outcomes
  | copies (i : Fin 8)

/-- How much stands in a queue: an answer being sent counts as queued, a programming in flight as a copy. -/
def State.load (s : State) : Queue → Nat
  | .responses => s.host.responses.length
  | .requests => s.host.requests.length
  | .direct => (s.host.lpath.filter fun f => !f.released).length
  | .hostFrames => s.lan.hostFrames.length
  | .messages => s.pac.queue.length
  | .questions => s.ans.questions.length
  | .answers => s.ans.answers.length + s.ans.sending.isSome.toNat
  | .records => s.hold.records.length
  | .outcomes => s.note.outcomes.length
  | .copies i => s.ret.copies[i].length + (s.ret.inFlight.any fun p => decide (p.index = i)).toNat

/-- The capacity of a queue, of the response queue less the places kept `spare`. -/
def Queue.capacity (spare : Nat) : Queue → Nat
  | .responses => 16 - spare
  | .requests => 8
  | .direct => 16
  | .hostFrames => 32
  | .messages => 32
  | .questions => 4
  | .answers => 4
  | .records => 512
  | .outcomes => 8
  | .copies _ => 3

/-- Every queue is within its capacity, and the response queue has `spare` places left. -/
def Fits (spare : Nat) (s : State) : Prop :=
  ∀ q : Queue, s.load q ≤ q.capacity spare

theorem withinCapacities_iff (s : State) : WithinCapacities s ↔ Fits 0 s := by
  constructor
  · rintro ⟨responses, requests, direct, hostFrames, messages, questions, answers, records, outcomes, copies⟩ q
    cases q with
    | responses => exact responses
    | requests => exact requests
    | direct => exact direct
    | hostFrames => exact hostFrames
    | messages => exact messages
    | questions => exact questions
    | answers => exact answers
    | records => exact records
    | outcomes => exact outcomes
    | copies i => exact copies i
  · exact fun h => ⟨h .responses, h .requests, h .direct, h .hostFrames, h .messages, h .questions, h .answers,
      h .records, h .outcomes, fun i => h (.copies i)⟩

section
variable {spare : Nat} {s t : State}

/-- What leaves the parts of the state that hold the queues keeps them within their capacities. -/
theorem Fits.quiet (h : Fits spare s) (host : t.host = s.host := by simp) (lan : t.lan = s.lan := by simp)
    (messages : t.pac.queue = s.pac.queue := by simp) (ans : t.ans = s.ans := by simp)
    (hold : t.hold = s.hold := by simp) (outcomes : t.note.outcomes = s.note.outcomes := by simp)
    (ret : t.ret = s.ret := by simp) : Fits spare t := by
  intro q
  have fits := h q
  cases q <;> simpa only [State.load, host, lan, messages, ans, hold, outcomes, ret] using fits

theorem Fits.of_le (h : Fits spare s) (le : ∀ q, t.load q ≤ s.load q) : Fits spare t :=
  fun q => (le q).trans (h q)

theorem Fits.weaken (h : Fits 1 s) : Fits 0 s := by
  intro q
  have fits := h q
  cases q with
  | responses => exact fits.trans (by decide)
  | _ => exact fits

/-! ## The host link unit -/

theorem hostKick_load (s : State) (q : Queue) : (hostKick s).load q ≤ s.load q := by
  cases q with
  | responses =>
    unfold hostKick
    split
    · split
      · simp [State.load, *]
      all_goals exact le_refl _
    · exact le_refl _
  | direct =>
    unfold hostKick
    split
    · split
      · exact le_refl _
      · rename_i f fs _ lpath
        simpa only [State.load, lpath] using ((List.sublist_cons_self f fs).filter _).length_le
      · exact le_refl _
      · exact le_refl _
    · exact le_refl _
  | requests => exact le_of_eq (congrArg (fun i => i.1.length) (hostKick_intake s))
  | _ => exact le_of_eq (by simp [State.load])

theorem hostKick_fits (h : Fits spare s) : Fits spare (hostKick s) :=
  h.of_le (hostKick_load s)

/-- A response takes the place that was kept for it. -/
theorem queueResponse_fits (data : List Byte) (h : Fits 1 s) : Fits 0 (queueResponse data s) := by
  unfold queueResponse
  split
  · refine hostKick_fits fun q => ?_
    have fits := h q
    cases q with
    | responses =>
      simp only [State.load, Queue.capacity, List.length_append, List.length_singleton] at fits ⊢
      omega
    | _ => exact fits
  · exact h.weaken

/-- Where the response queue is not full it has a place to spare. -/
theorem Fits.spared (h : Fits 0 s) (room : s.host.responses.length < 16) : Fits 1 s := by
  intro q
  have fits := h q
  cases q with
  | responses => exact Nat.le_of_lt_succ room
  | _ => exact fits

theorem handDirect_fits (data : List Byte) (h : Fits spare s) : Fits spare (handDirect data s) := by
  unfold handDirect
  split
  · rename_i may
    simp only [Bool.and_eq_true, decide_eq_true_eq] at may
    refine hostKick_fits fun q => ?_
    have fits := h q
    cases q with
    | direct =>
      have counted := List.length_filter_le (fun f => !LPathFrame.released f) s.host.lpath
      simp only [State.load, Queue.capacity, List.filter_append, List.length_append]
      exact Nat.le_trans (Nat.add_le_add counted (List.length_filter_le _ _)) may.2
    | _ => exact fits
  · exact h

theorem handReleased_fits (data : List Byte) (h : Fits spare s) : Fits spare (handReleased data s) := by
  unfold handReleased
  refine hostKick_fits fun q => ?_
  have fits := h q
  cases q with
  | direct => simpa [State.load] using fits
  | _ => exact fits

theorem clearKind_outcomes (kind : NoticeKind) (n : Notices) :
    (clearKind kind n).outcomes.length ≤ n.outcomes.length := by
  unfold clearKind
  dsimp only
  split <;> simp

theorem clearKind_fits (kind : NoticeKind) (h : Fits spare s) :
    Fits spare { s with note := clearKind kind s.note } := by
  intro q
  have fits := h q
  cases q with
  | outcomes => exact (clearKind_outcomes kind s.note).trans fits
  | _ => exact fits

theorem buildNotices_fits (h : Fits 0 s) : Fits 0 (buildNotices s) := by
  refine buildNotices_keeps (fun kind t kept => ?_) h
  unfold buildNotice
  split
  · rename_i qualifies
    unfold noticeQualifies at qualifies
    simp only [Bool.and_eq_true, decide_eq_true_eq] at qualifies
    exact queueResponse_fits _ (clearKind_fits kind (kept.spared qualifies.2))
  · exact kept

theorem addOutcome_fits (tag : Word16) (outcome : SessionOutcome) (h : Fits spare s) :
    Fits spare (addOutcome tag outcome s) := by
  intro q
  have fits := h q
  cases q with
  | outcomes =>
    have full : s.note.outcomes.length ≤ 8 := fits
    unfold addOutcome
    split
    · rename_i room
      simpa [State.load, Queue.capacity] using room
    · simp only [State.load, Queue.capacity, raise_note_outcomes, List.length_append, List.length_drop,
        List.length_singleton]
      omega
  | _ => simpa [State.load] using fits

/-! ## The LAN port unit and the pacing engine -/

theorem lanKick_load (s : State) (q : Queue) : (lanKick s).load q ≤ s.load q := by
  unfold lanKick
  split
  · split
    all_goals cases q <;> simp [State.load, *]
  · exact le_refl _

theorem lanKick_fits (h : Fits spare s) : Fits spare (lanKick s) :=
  h.of_le (lanKick_load s)

theorem MsgKind.room_le (kind : MsgKind) : kind.room ≤ 32 := by
  cases kind <;> decide

theorem queueMsg_fits (m : PacingMsg) (h : Fits spare s) : Fits spare (queueMsg m s) := by
  unfold queueMsg
  split
  · rename_i room
    refine lanKick_fits fun q => ?_
    have fits := h q
    cases q with
    | messages =>
      have most := m.kind.room_le
      simp only [State.load, Queue.capacity, List.length_append, List.length_singleton]
      omega
    | _ => exact fits
  · exact h

theorem demand_fits (set : BaySet) (h : Fits spare s) : Fits spare (demand set s) :=
  h.quiet

theorem changeNeeded_fits (gives takes : BaySet) (h : Fits spare s) : Fits spare (changeNeeded gives takes s) :=
  h

theorem onSlot_fits (i : Slot) (f : SessionSlot → SessionSlot) (h : Fits spare s) : Fits spare (onSlot i f s) :=
  h

theorem startSession_fits (i : Slot) (gives : BaySet) (peer : MacAddr) (f : FollowOn) (h : Fits spare s) :
    Fits spare (startSession i gives peer f s) := by
  unfold startSession
  exact demand_fits _ (changeNeeded_fits _ _ (queueMsg_fits _ (onSlot_fits _ _ h)))

theorem haltSession_fits (i : Slot) (cause : HaltCause) (h : Fits spare s) : Fits spare (haltSession i cause s) := by
  have declined (x : Session) {t : State} (kept : Fits spare t) : Fits spare (declineFollowOn x t) := by
    unfold declineFollowOn
    split
    · exact queueMsg_fits _ kept
    · exact kept
  unfold haltSession
  split
  · exact h
  · rename_i x _
    by_cases down : cause = .linkDown
    · simp only [down, if_true]
      exact changeNeeded_fits _ _ (addOutcome_fits _ _ h)
    · simp only [down, if_false]
      exact changeNeeded_fits _ _ (declined x (addOutcome_fits _ _ (queueMsg_fits _ h)))

theorem haltWhere_fits (p : Session → Bool) (cause : HaltCause) (h : Fits spare s) :
    Fits spare (haltWhere p cause s) :=
  haltWhere_keeps (fun i _ kept => haltSession_fits i cause kept) p h

theorem arbitrate_fits (h : Fits spare s) : Fits spare (arbitrate s) := by
  refine arbitrateN_keeps (P := Fits spare) (fun i x k t _ _ _ _ kept => ?_) _ s h
  exact queueMsg_fits _ kept

theorem startDelivery_fits (h : Fits spare s) : Fits spare (startDelivery s) := by
  unfold startDelivery
  split
  · split
    · exact h
    · split
      · exact hostKick_fits h
      · exact h
  · exact h

theorem returnDelivery_fits (h : Fits spare s) : Fits spare (returnDelivery s) := by
  unfold returnDelivery
  repeat' split
  all_goals exact h

theorem completeSession_fits (i : Slot) (x : Session) (h : Fits spare s) : Fits spare (completeSession i x s) := by
  have told := addOutcome_fits x.tag .done (queueMsg_fits (tallyMsg x.peer x.tag x.nb) h)
  unfold completeSession
  dsimp only
  split
  · exact startSession_fits _ _ _ _ told
  · exact changeNeeded_fits _ _ (onSlot_fits _ _ told)

theorem deliverySent_fits (h : Fits spare s) : Fits spare (deliverySent s) := by
  have counted (i : Slot) {t : State} (kept : Fits spare t) : Fits spare (countDelivered i t) := by
    unfold countDelivered
    dsimp only
    split
    · exact kept
    · split
      · exact kept
      · split
        · exact completeSession_fits _ _ kept
        · exact kept
  unfold deliverySent
  split
  · exact h
  · split
    · exact startDelivery_fits (arbitrate_fits (counted _ h))
    · exact h

/-! ## The hold queue -/

theorem holdFrame_fits (frame : List Byte) (cls : HeldClass) (entry : Option (Fin 64)) (arrival : Word32)
    (h : Fits spare s) : Fits spare (holdFrame frame cls entry arrival s) := by
  unfold holdFrame
  split
  · exact h
  · split
    · exact h
    · split
      · exact h
      · rename_i room
        split
        · exact h
        · intro q
          have fits := h q
          cases q with
          | records =>
            simp only [State.load, Queue.capacity, appendHeld, List.length_append, List.length_singleton]
            omega
          | _ => exact fits

theorem popHeld_fits (h : Fits spare s) : Fits spare (popHeld s) := by
  unfold popHeld
  split
  · exact h
  · rename_i r rest records
    intro q
    have fits := h q
    cases q with
    | records => exact (Nat.le_succ _).trans (by simpa [State.load, records] using fits)
    | _ => exact fits

theorem release_fits (h : Fits spare s) : Fits spare (release s) :=
  releaseN_keeps (P := Fits spare) (fun _ _ _ _ _ kept => popHeld_fits kept)
    (fun _ _ _ _ _ _ kept => handReleased_fits _ kept) _ s h

theorem flushHeld_fits (h : Fits spare s) : Fits spare (flushHeld s) := by
  intro q
  have fits := h q
  cases q with
  | records => exact Nat.zero_le _
  | _ => exact fits

end

end Sys2Proof.Machine
end

section
/-! SUPPORT and proofs: every step keeps every queue and list within its capacity (O60): the events. -/

namespace Sys2Proof.Machine

section
variable {spare : Nat} {s : State}

/-! ## The power controller -/

theorem raise_fits (kind : NoticeKind) (detail : Detail) (h : Fits spare s) : Fits spare (raise kind detail s) :=
  h

theorem portDown_fits (h : Fits spare s) : Fits spare (portDown s) := by
  unfold portDown
  split
  · have discarded : Fits spare
        { s with
          host.up := false, host.responses := [], host.lpath := [], host.sending := none, host.requests := [],
          mgmt.deferred := [] } := by
      intro q
      have fits := h q
      cases q with
      | responses | requests | direct => exact Nat.zero_le _
      | _ => exact fits
    exact raise_fits _ _ (returnDelivery_fits discarded)
  · exact h

theorem railOff_fits (h : Fits spare s) : Fits spare (railOff s) :=
  portDown_fits (s := { s with pow.rst := true }) h

theorem sleepReached_fits (h : Fits spare s) : Fits spare (sleepReached s) :=
  sleepReached_keeps (P := Fits spare) (fun _ _ kept => kept) h

theorem startWake_fits (h : Fits spare s) : Fits spare (startWake s) :=
  h.quiet

theorem wakeEvent_fits (name : WakeName) (bays : BaySet) (h : Fits spare s) : Fits spare (wakeEvent name bays s) :=
  h.quiet

theorem completeEntry_fits (h : Fits spare s) : Fits spare (completeEntry s) := by
  have done : Fits spare (entryDone s) :=
    sleepReached_fits (s := { railOff s with pow.box := .sleep, pow.entryTimer := none }) (railOff_fits h)
  rw [completeEntry_eq]
  split
  · exact startWake_fits done
  · exact done

theorem enterRetryOff_fits (h : Fits spare s) : Fits spare (enterRetryOff s) :=
  railOff_fits h

theorem discardStaged_fits (h : Fits spare s) : Fits spare (discardStaged s) :=
  h

theorem wakeFault_fits (h : Fits spare s) : Fits spare (wakeFault s) := by
  have latched : Fits spare { s with pow.box := .sleep, pow.latch := true, pow.retryTimer := none } := h
  have discarded := discardStaged_fits (haltWhere_fits (fun _ => true) .wakeFault (flushHeld_fits latched))
  unfold wakeFault
  exact arbitrate_fits (sleepReached_fits discarded)

theorem runReached_fits (h : Fits 0 s) : Fits 0 (runReached s) := by
  have woken : Fits 0 (awake s) := by
    unfold awake
    dsimp only
    split
    · exact h
    · exact h
  exact startDelivery_fits
    (releaseAndNotify_keeps (fun kept => kept) (fun _ => release_fits) (fun _ => buildNotices_fits) woken)

theorem enterMinute_fits (h : Fits spare s) : Fits spare (enterMinute s) := by
  unfold enterMinute
  split
  · dsimp only
    split
    · exact h
    · split
      · exact h
      · exact wakeEvent_fits _ _ h
  · exact h

/-! ## Resets and time -/

theorem resetAll_fits (presence activity : BaySet) (clock : Clock) (h : Fits 0 s) :
    Fits 0 (resetAll presence activity clock s) := by
  intro q
  cases q with
  | copies i => exact (Nat.le_add_right _ _).trans (h (.copies i))
  | _ => exact Nat.zero_le _

theorem holdReset_fits (presence activity : BaySet) (clock : Clock) (ms : Nat) (h : Fits 0 s) :
    Fits 0 (holdReset presence activity clock ms s) :=
  resetAll_fits presence activity clock h

theorem tickTimers_fits (h : Fits spare s) : Fits spare (tickTimers s) := by
  intro q
  have fits := h q
  cases q <;> simpa only [State.load, tickTimers] using fits

theorem markStale_fits (h : Fits spare s) : Fits spare (markStale s) := by
  intro q
  have fits := h q
  cases q with
  | records => simpa [State.load, markStale] using fits
  | _ => exact fits

theorem tickMs_fits (h : Fits spare s) : Fits spare (tickMs s) := by
  have timed : Fits spare (beforeClock s) :=
    tickTimers_fits (markStale_fits (s := { s with time.ms := s.time.ms + 1 }) h)
  rw [tickMs_eq]
  obtain ⟨-, eq⟩ | ⟨-, -, eq⟩ | ⟨-, -, eq, -⟩ := tickClock_cases (beforeClock s)
  · rw [eq]
    exact timed
  · rw [eq]
    exact timed
  · rw [eq]
    exact enterMinute_fits timed

theorem idle_fits (h : Fits 0 s) : Fits 0 (idle s) := by
  unfold idle
  split
  · exact resetAll_fits _ _ _ h
  · unfold tick
    dsimp only
    split
    · exact tickMs_fits h
    · exact h

/-! ## A LAN frame -/

theorem dispatchPass_fits (f : FrameInHand) (m : MatchResult) (h : Fits spare s) : Fits spare (dispatchPass f m s) := by
  have held := holdFrame_fits f.frame m.action.heldClass m.entry f.arrival h
  unfold dispatchPass
  dsimp only
  split
  · split
    · exact held
    · exact handDirect_fits _ h
  · exact held
  · exact held
  · split
    · exact held
    · exact h

theorem handQuestion_fits (asked : Question) (h : Fits spare s) : Fits spare (handQuestion asked s) := by
  unfold handQuestion
  split
  · rename_i room
    intro q
    have fits := h q
    cases q with
    | questions => simpa [State.load, Queue.capacity] using room
    | _ => exact fits
  · split
    · exact h
    · exact h

theorem dispatch_fits (f : FrameInHand) (m : MatchResult) (h : Fits spare s) : Fits spare (dispatch f m s) := by
  have passed := dispatchPass_fits f m h
  unfold dispatch
  cases m.action with
  | pass => exact passed
  | share =>
    dsimp only
    split
    · exact demand_fits _ (passed.quiet (t := shareReport _))
    · exact passed
  | backup profile =>
    dsimp only
    split
    · exact h
    · exact passed
  | proxy answer =>
    dsimp only
    split
    · exact passed
    · exact handQuestion_fits _ h
  | drop => exact h

theorem raiseWakes_fits (box : BoxState) (k : FrameKey) (m : MatchResult) (h : Fits spare s) :
    Fits spare (raiseWakes box k m s) := by
  unfold raiseWakes
  dsimp only
  split
  · split
    · exact inEitherOrder_keeps (fun _ _ kept => kept) (fun _ => wakeEvent_fits _ _) (fun _ => wakeEvent_fits _ _) h
    · exact wakeEvent_fits _ _ (wakeEvent_fits _ _ h)
  · split
    · exact wakeEvent_fits _ _ h
    · split
      · exact wakeEvent_fits _ _ h
      · exact h

theorem classifyFrame_fits (frame : List Byte) (h : Fits spare s) : Fits spare (classifyFrame frame s) :=
  raiseWakes_fits _ _ _ (dispatch_fits _ _ (s := { s with cls := _ }) h)

/-- An answer joins the answer queue while that and the answer being sent are fewer than 4 (R84, R86). -/
theorem answerQuestion_fits (asked : Question) (h : Fits spare s) : Fits spare (answerQuestion asked s) := by
  unfold answerQuestion
  dsimp only
  split
  · exact h
  · split
    · exact h
    · split
      · exact h
      · rename_i room
        simp only [Bool.or_eq_true, decide_eq_true_eq, not_or, not_le] at room
        refine lanKick_fits fun q => ?_
        have fits := h q
        cases q with
        | answers =>
          simp only [State.load, Queue.capacity, onRecord, List.length_append, List.length_singleton]
          omega
        | _ => exact fits

/-! ## Bays -/

theorem presenceReport_fits (edge : PresenceEdge) (h : Fits spare s) : Fits spare (presenceReport edge s) := by
  unfold presenceReport
  split
  · exact wakeEvent_fits _ _ h
  · exact h

theorem withReport_fits (edge : PresenceEdge) {other : State → State}
    (kept : ∀ t, Fits spare t → Fits spare (other t)) (h : Fits spare s) : Fits spare (withReport edge other s) := by
  unfold withReport
  split
  · exact inEitherOrder_keeps (fun _ _ counted => counted) (fun _ => presenceReport_fits edge) kept h
  · exact kept _ (presenceReport_fits edge h)

theorem takeDown_fits (bay : Bay) (target : BayState) (h : Fits spare s) : Fits spare (takeDown bay target s) := by
  unfold takeDown
  dsimp only
  split
  · split
    · exact h.quiet
    · exact h
  · exact h.quiet
  · exact h
  · exact h
  · exact h

theorem bayLost_fits (bay : Bay) (h : Fits spare s) : Fits spare (bayLost bay s) :=
  arbitrate_fits (haltWhere_fits _ _ h)

/-! ## Sessions -/

theorem takeHandover_fits (message : Option MsgKind) {act : Handover → State → State}
    (acting : ∀ h t, Fits spare t → Fits spare (act h t)) (h : Fits spare s) :
    Fits spare (takeHandover message act s) := by
  unfold takeHandover
  split
  · exact h
  · split
    · exact acting _ _ h
    · exact h

theorem takeOffer_fits (offer : Handover) (h : Fits spare s) : Fits spare (takeOffer offer s) := by
  have declined (reason : DeclineReason) : Fits spare (declineOffer offer reason s) := queueMsg_fits _ h
  unfold takeOffer
  split
  · exact declined _
  · split
    · exact declined _
    · split
      · exact declined _
      · split
        · split
          · exact h
          · exact declined _
        · split
          · exact declined _
          · exact startSession_fits _ _ _ _ h

theorem takeBlock_fits (block : Handover) (h : Fits spare s) : Fits spare (takeBlock block s) := by
  unfold takeBlock
  split
  · exact h
  · split
    · split
      · exact startDelivery_fits h
      · exact h
    · exact h

theorem takeWithdraw_fits (withdraw : Handover) (h : Fits spare s) : Fits spare (takeWithdraw withdraw s) := by
  unfold takeWithdraw
  split
  · exact h
  · split
    · exact arbitrate_fits (haltSession_fits _ _ h)
    · split
      · exact h
      · exact h

theorem haltIf_fits (cond : State → Session → Bool) (slot : Slot) (cause : HaltCause) (h : Fits spare s) :
    Fits spare (haltIf cond slot cause s) := by
  unfold haltIf
  split
  · split
    · exact arbitrate_fits (haltSession_fits _ _ h)
    · exact h
  · exact h

theorem expireGrant_fits (slot : Slot) (x : Session) (g : Grant) (h : Fits spare s) :
    Fits spare (expireGrant slot x g s) := by
  unfold expireGrant
  dsimp only
  split
  · exact arbitrate_fits (haltSession_fits _ _ h)
  · exact arbitrate_fits h

/-! ## The links -/

/-- In whatever order the three effects come, each comes once: the flags of `P` say which have come. -/
theorem inAnyOrder_acts {P : Bool → Bool → Bool → State → Prop} {f g k : State → State}
    (first : ∀ b c t, P false b c t → P true b c (f t)) (second : ∀ a c t, P a false c t → P a true c (g t))
    (third : ∀ a b t, P a b false t → P a b true (k t))
    (counted : P false false false { s with choices := s.choices + 3 }) : P true true true (inAnyOrder f g k s) := by
  unfold inAnyOrder
  dsimp only
  split
  · exact third _ _ _ (second _ _ _ (first _ _ _ counted))
  · exact second _ _ _ (third _ _ _ (first _ _ _ counted))
  · exact second _ _ _ (first _ _ _ (third _ _ _ counted))
  · exact first _ _ _ (second _ _ _ (third _ _ _ counted))
  · exact first _ _ _ (third _ _ _ (second _ _ _ counted))
  · exact third _ _ _ (first _ _ _ (second _ _ _ counted))

theorem inAnyOrder_keeps {P : State → Prop} {f g k : State → State}
    (counting : ∀ t n, P t → P { t with choices := n }) (first : ∀ t, P t → P (f t)) (second : ∀ t, P t → P (g t))
    (third : ∀ t, P t → P (k t)) (h : P s) : P (inAnyOrder f g k s) :=
  inAnyOrder_acts (P := fun _ _ _ => P) (fun _ _ => first) (fun _ _ => second) (fun _ _ => third) (counting _ _ h)

theorem reportSent_fits (sent : HostSending) (h : Fits spare s) : Fits spare (reportSent sent s) := by
  cases sent with
  | response wire | direct wire => exact h
  | held wire => exact release_fits (s := { popHeld s with hold.sending := false }) (popHeld_fits h)
  | deliver wire => exact deliverySent_fits h

theorem forwardToLan_fits (data : List Byte) (h : Fits spare s) : Fits spare (forwardToLan data s) := by
  unfold forwardToLan
  split
  · rename_i may
    simp only [Bool.and_eq_true, decide_eq_true_eq] at may
    refine lanKick_fits fun q => ?_
    have fits := h q
    cases q with
    | hostFrames => simpa [State.load, Queue.capacity] using may.2
    | _ => exact fits
  · exact h

end

end Sys2Proof.Machine
end

section
/-! SUPPORT and proofs: every step keeps every queue and list within its capacity (O60): the requests and the step. -/

namespace Sys2Proof.Machine

/-! ## Taking a request -/

section
variable {s : State}

theorem requestHead_some {f : List Byte} {rest : List (List Byte)} (head : requestHead s = some (f, rest)) :
    s.host.requests = f :: rest ∧ s.host.responses.length < 16 := by
  unfold requestHead at head
  split at head
  · rename_i requests
    split at head
    · cases head
      exact ⟨requests, ‹_›⟩
    · nomatch head
  · nomatch head

/-- A request that can be taken leaves the request queue, and its response has a place. -/
theorem requestTaken_fits {f : List Byte} {rest : List (List Byte)} (head : requestHead s = some (f, rest))
    (h : Fits 0 s) : Fits 1 { s with host.requests := rest } := by
  obtain ⟨requests, room⟩ := requestHead_some head
  intro q
  have fits := h.spared room q
  cases q with
  | requests => exact (Nat.le_succ _).trans (by simpa [State.load, requests] using fits)
  | _ => exact fits

theorem dequeue_fits {f : List Byte} {rest : List (List Byte)} (r : Request) (head : requestHead s = some (f, rest))
    (h : Fits 0 s) : Fits 1 (dequeue r rest s) :=
  requestTaken_fits head h

theorem respond_fits (r : Request) (code : ResultCode) (data : List Byte) (h : Fits 1 s) :
    Fits 0 (respond r code data s) :=
  queueResponse_fits _ h

/-- The kind's own rule runs with the place of the response kept, and what follows the response runs behind it. -/
theorem takeRequest_fits {kind : ReqKind} {act : Request → List Byte → State → Reply} {after : State → State}
    (acting : ∀ r p t, Fits 1 t → Fits 1 (act r p t).state) (following : ∀ t, Fits 0 t → Fits 0 (after t))
    (h : Fits 0 s) : Fits 0 (takeRequest kind act after s) := by
  unfold takeRequest
  split
  · exact h
  · rename_i head
    split
    · exact h
    · rename_i r _
      have taken := dequeue_fits r head h
      split
      · unfold decideRequest
        split
        · exact taken.weaken
        · exact respond_fits _ _ _ taken
        · split
          · exact respond_fits _ _ _ taken
          · split
            · exact respond_fits _ _ _ taken
            · dsimp only
              split
              · exact (acting _ _ _ taken).weaken
              · exact following _ (respond_fits _ _ _ (acting _ _ _ taken))
              · exact respond_fits _ _ _ (acting _ _ _ taken)
      · exact h

theorem takePlain_fits {kind : ReqKind} {act : List Byte → State → Reply}
    (acting : ∀ p t, Fits 1 t → Fits 1 (act p t).state) (h : Fits 0 s) : Fits 0 (takePlain kind act s) :=
  takeRequest_fits (fun _ p t => acting p t) (fun _ kept => kept) h

theorem takeUnknown_fits (h : Fits 0 s) : Fits 0 (takeUnknown s) := by
  unfold takeUnknown
  split
  · exact h
  · rename_i head
    split
    · exact h
    · rename_i r _
      have taken := dequeue_fits r head h
      split
      · exact h
      · split
        · exact respond_fits _ _ _ taken
        · exact taken.weaken

theorem discardShort_fits (h : Fits 0 s) : Fits 0 (discardShort s) := by
  unfold discardShort
  split
  · exact h
  · rename_i head
    split
    · exact (requestTaken_fits head h).weaken
    · exact h

end

/-! ## The rules of the kinds -/

section
variable {spare : Nat} {s : State} (p : List Byte)

theorem storeEntries_fits (es : List FlowEntry) (h : Fits spare s) : Fits spare (storeEntries es s).state :=
  h

theorem actLoadFlows_fits (h : Fits spare s) : Fits spare (actLoadFlows p s).state := by
  unfold actLoadFlows
  dsimp only
  split
  · split
    · exact storeEntries_fits _ h
    · exact h
  · exact h

theorem actContinueFlows_fits (h : Fits spare s) : Fits spare (actContinueFlows p s).state := by
  unfold actContinueFlows
  split
  · exact storeEntries_fits _ h
  · exact h

theorem actReadFlow_fits (h : Fits spare s) : Fits spare (actReadFlow p s).state := by
  unfold actReadFlow
  dsimp only
  repeat' split
  all_goals exact h

theorem actReadFlowStatus_fits (h : Fits spare s) : Fits spare (actReadFlowStatus p s).state := by
  unfold actReadFlowStatus
  split <;> exact h

theorem actSetDefaultAction_fits (h : Fits spare s) : Fits spare (actSetDefaultAction p s).state := by
  unfold actSetDefaultAction
  split <;> exact h

theorem actSetPartition_fits (h : Fits spare s) : Fits spare (actSetPartition p s).state := by
  unfold actSetPartition
  dsimp only
  repeat' split
  all_goals exact h

theorem actLoadAnswer_fits (h : Fits spare s) : Fits spare (actLoadAnswer p s).state := by
  unfold actLoadAnswer
  dsimp only
  repeat' split
  all_goals exact h

theorem actClearAnswer_fits (h : Fits spare s) : Fits spare (actClearAnswer p s).state := by
  unfold actClearAnswer
  split <;> exact h

theorem actReadAnswer_fits (h : Fits spare s) : Fits spare (actReadAnswer p s).state := by
  unfold actReadAnswer
  dsimp only [Reply.ok]
  repeat' split
  all_goals exact h

theorem actSleep_fits (h : Fits spare s) : Fits spare (actSleep p s).state := by
  unfold actSleep
  split <;> exact h

theorem actHeartbeat_fits (h : Fits spare s) : Fits spare (actHeartbeat p s).state := by
  unfold actHeartbeat
  split <;> exact h

theorem actSetWake_fits (h : Fits spare s) : Fits spare (actSetWake p s).state := by
  unfold actSetWake
  repeat' split
  all_goals exact h

theorem actReadHold_fits (h : Fits spare s) : Fits spare (actReadHold p s).state := by
  unfold actReadHold
  split <;> exact h

theorem actSpinUp_fits (h : Fits spare s) : Fits spare (actSpinUp p s).state := by
  unfold actSpinUp
  split
  · exact h
  · exact demand_fits _ h

theorem actSpinDown_fits (h : Fits spare s) : Fits spare (actSpinDown p s).state := by
  unfold actSpinDown
  split
  · dsimp only
    split
    · exact h
    · split
      · exact h
      · exact takeDown_fits _ _ h
  · exact h

theorem actSetBays_fits (h : Fits spare s) : Fits spare (actSetBays p s).state := by
  unfold actSetBays
  repeat' split
  all_goals exact h

theorem actSetProfile_fits (h : Fits spare s) : Fits spare (actSetProfile p s).state := by
  unfold actSetProfile
  repeat' split
  all_goals exact h

theorem actReadSession_fits (h : Fits spare s) : Fits spare (actReadSession p s).state := by
  unfold actReadSession
  dsimp only [Reply.ok]
  repeat' split
  all_goals exact h

theorem actHaltSession_fits (h : Fits spare s) : Fits spare (actHaltSession p s).state := by
  unfold actHaltSession
  split
  · dsimp only
    split
    · exact h
    · split
      · exact arbitrate_fits (haltSession_fits _ _ h)
      · exact h
  · exact h

theorem actSetNotices_fits (r : Request) (h : Fits spare s) : Fits spare (actSetNotices r p s).state := by
  unfold actSetNotices
  split <;> exact h

theorem actReadNotices_fits (h : Fits spare s) : Fits spare (actReadNotices p s).state := by
  have cleared : ∀ (l : List NoticeKind) (n : Notices),
      (l.foldl (fun m kind => clearKind kind m) n).outcomes.length ≤ n.outcomes.length := by
    intro l
    induction l with
    | nil => exact fun n => le_refl _
    | cons k ks ih => exact fun n => (ih _).trans (clearKind_outcomes k n)
  intro q
  have fits := h q
  cases q with
  | outcomes => exact (cleared _ _).trans fits
  | _ => exact fits

/-- A programming is begun with fewer than 3 copies of its record and none in flight (R183). -/
theorem actProgramRetained_fits (r : Request) (h : Fits spare s) : Fits spare (actProgramRetained r p s).state := by
  unfold actProgramRetained
  split
  · rename_i index
    split
    · exact h
    · split
      · exact h
      · split
        · exact h
        · rename_i room
          intro q
          have fits := h q
          cases q with
          | copies i =>
            simp only [State.load, Queue.capacity, Option.any_some] at fits ⊢
            by_cases own : (⟨natAt p 0 1, index⟩ : Fin 8) = i
            · subst own
              simpa using room
            · simpa [own] using (Nat.le_add_right _ _).trans fits
          | _ => exact fits
  · exact h

theorem actReadRetained_fits (h : Fits spare s) : Fits spare (actReadRetained p s).state := by
  unfold actReadRetained
  split <;> exact h

end

end Sys2Proof.Machine
end

section
/-! SUPPORT and proofs: every step keeps every queue and list within its capacity (O60): the commands. -/

namespace Sys2Proof.Machine

section
variable {s t : State}

/-- A completed programming becomes a copy, as which it was counted already (R183). -/
theorem programmed_fits {spare : Nat} {p : Programming} (inFlight : s.ret.inFlight = some p) (h : Fits spare s) :
    Fits spare
      { s with ret.copies := vecMod s.ret.copies p.index fun c => c ++ [p.contents], ret.inFlight := none } := by
  intro q
  have fits := h q
  cases q with
  | copies i =>
    simp only [State.load, inFlight, Option.any_some, Option.any_none] at fits ⊢
    by_cases own : i = p.index
    · subst own
      simpa using fits
    · rw [getElem_vecMod_ne _ _ _ _ own]
      exact (Nat.le_add_right _ _).trans fits
  | _ => exact fits

/-- A LAN link gone DOWN has discarded what waited for it (R131, R170). -/
theorem linkDown_fits {spare : Nat} (h : Fits spare s) :
    Fits spare
      { s with
        lan.up := false, lan.sending := none, lan.hostFrames := [], pac.queue := [], ans.answers := [],
        ans.sending := none } := by
  intro q
  have fits := h q
  cases q with
  | hostFrames | messages | answers => exact Nat.zero_le _
  | _ => exact fits

/-- The answer being sent has left (R87). -/
theorem answerSent_fits {spare : Nat} (h : Fits spare s) :
    Fits spare { s with lan.sending := none, ans.sending := none } := by
  intro q
  have fits := h q
  cases q with
  | answers => exact (Nat.le_add_right _ _).trans fits
  | _ => exact fits

theorem questionTaken_fits {spare : Nat} {asked : Question} {rest : List Question}
    (questions : s.ans.questions = asked :: rest) (h : Fits spare s) : Fits spare { s with ans.questions := rest } := by
  intro q
  have fits := h q
  cases q with
  | questions => exact (Nat.le_succ _).trans (by simpa [State.load, questions] using fits)
  | _ => exact fits

theorem Fits.of_next {spare : Nat} {u : State} (h : Fits spare t)
    (next : (Host.Outcome.next t : Host.Outcome State Fault Refusal) = .next u) : Fits spare u := by
  cases next
  exact h

/-- Every command keeps every queue within its capacity. -/
theorem exec_fits {c : Instr} (h : Fits 0 s) (next : exec c s = .next t) : Fits 0 t := by
  cases c with
  | powerOn presence activity => exact (holdReset_fits _ _ _ _ h).of_next next
  | panelReset presence activity ms => exact (holdReset_fits _ _ _ _ h).of_next next
  | lanFrameTaken frame =>
    refine Fits.of_next ?_ next
    split
    · exact classifyFrame_fits frame h
    · exact h
  | questionTaken =>
    refine Fits.of_next ?_ next
    split
    · exact h
    · rename_i questions
      exact answerQuestion_fits _ (questionTaken_fits questions h)
  | holdoffExpiry record =>
    refine Fits.of_next ?_ next
    split <;> exact h
  | offer => exact (takeHandover_fits _ (fun offer _ => takeOffer_fits offer) h).of_next next
  | block => exact (takeHandover_fits _ (fun block _ => takeBlock_fits block) h).of_next next
  | withdraw => exact (takeHandover_fits _ (fun withdraw _ => takeWithdraw_fits withdraw) h).of_next next
  | pacingFrameMalformed =>
    exact (takeHandover_fits none (act := fun _ t => protocolError t) (fun _ _ kept => kept) h).of_next next
  | grantIssue => exact (arbitrate_fits h).of_next next
  | seqExhausted slot => exact (haltIf_fits _ _ _ h).of_next next
  | grantExpiry slot seq =>
    refine Fits.of_next ?_ next
    split
    · exact h
    · split
      · split
        · exact expireGrant_fits _ _ _ h
        · exact h
      · exact h
  | stallExpiry slot => exact (haltIf_fits _ _ _ h).of_next next
  | shareWindowExpiry =>
    refine Fits.of_next ?_ next
    split <;> exact h
  | recordStale position =>
    refine Fits.of_next (fun q => ?_) next
    have fits := h q
    cases q with
    | records => simpa [State.load] using fits
    | _ => exact fits
  | hostDownAsserted =>
    refine Fits.of_next ?_ next
    split
    · exact completeEntry_fits h
    · exact h
  | entryDeadlineExpiry =>
    refine Fits.of_next ?_ next
    split
    · exact completeEntry_fits (raise_fits _ _ h)
    · exact h
  | stabilizationExpiry =>
    refine Fits.of_next ?_ next
    split <;> exact h
  | bootDeadlineExpiry =>
    refine Fits.of_next ?_ next
    split
    · exact enterRetryOff_fits h
    · exact h
  | retryOffExpiry =>
    refine Fits.of_next ?_ next
    split
    · split
      · exact h
      · split
        · exact wakeFault_fits h
        · exact h
    · exact h
  | heartbeatLapse =>
    refine Fits.of_next ?_ next
    split
    · exact enterRetryOff_fits (s := leaveRun s) h
    · exact h
  | buttonEvent edge =>
    refine Fits.of_next ?_ next
    split
    · split
      · exact h
      · exact wakeEvent_fits _ _ h
    · exact h
  | minuteEntered =>
    refine Fits.of_next ?_ next
    split
    · exact enterMinute_fits h
    · exact h
  | bayInsertion bay =>
    refine Fits.of_next ?_ next
    split
    · dsimp only
      split
      · exact withReport_fits _ (fun _ => demand_fits _) h
      · exact presenceReport_fits _ h
    · exact h
  | bayRemoval bay =>
    have taken := takeDown_fits bay .absent h
    refine Fits.of_next ?_ next
    dsimp only
    split
    · exact h
    · split
      · exact withReport_fits _ (fun _ => bayLost_fits bay) taken
      · exact presenceReport_fits _ taken
  | spinExpiry bay =>
    refine Fits.of_next ?_ next
    split
    · exact h.quiet
    · exact h
  | idleExpiry bay =>
    refine Fits.of_next ?_ next
    split <;> exact h
  | activityEdge bay edge =>
    refine Fits.of_next ?_ next
    split <;> exact h
  | lanLinkDown =>
    refine Fits.of_next ?_ next
    split
    · exact raise_fits _ _ (haltWhere_fits _ _ (linkDown_fits h))
    · exact h
  | lanLinkUp =>
    refine Fits.of_next ?_ next
    split
    · exact h
    · exact lanKick_fits (raise_fits _ _ h)
  | lanFrameSent =>
    refine Fits.of_next ?_ next
    split
    · exact h
    · exact lanKick_fits (answerSent_fits h)
    · exact lanKick_fits h
    · exact lanKick_fits h
  | hostFrameReceived frame =>
    refine Fits.of_next ?_ next
    dsimp only
    split
    · split
      · split
        · rename_i room
          intro q
          have fits := h q
          cases q with
          | requests => simpa [State.load, Queue.capacity] using room
          | _ => exact fits
        · exact h
      · exact forwardToLan_fits _ h
    · exact h
  | hPortUp =>
    refine Fits.of_next ?_ next
    split
    · have up := hostKick_fits (s := raise .linkChange (.linkChange .host true) { s with host.up := true }) h
      dsimp only
      split
      · exact inAnyOrder_keeps (fun _ _ kept => kept) (fun _ => buildNotices_fits) (fun _ => release_fits)
          (fun _ => startDelivery_fits) up
      · exact up
    · exact h
  | hPortDown => exact (portDown_fits h).of_next next
  | hostLinkFrameSent =>
    refine Fits.of_next ?_ next
    split
    · exact h
    · rename_i f _
      have sent := hostKick_fits (reportSent_fits (s := { s with host.sending := none }) f h)
      dsimp only
      split
      · exact buildNotices_fits sent
      · exact sent
  | noticeBuild => exact (buildNotices_fits h).of_next next
  | programmingComplete =>
    refine Fits.of_next ?_ next
    split
    · exact h
    · rename_i inFlight
      dsimp only
      split
      · rename_i room
        exact queueResponse_fits _ (programmed_fits inFlight (h.spared room.2))
      · exact programmed_fits inFlight h
  | programResponseBuilt =>
    refine Fits.of_next ?_ next
    split
    · exact h
    · split
      · rename_i room
        exact queueResponse_fits _ (h.spared room)
      · exact h
  | unknownRequest => exact (takeUnknown_fits h).of_next next
  | mgmtFrameTooShort => exact (discardShort_fits h).of_next next
  | loadFlows => exact (takePlain_fits (fun p _ => actLoadFlows_fits p) h).of_next next
  | continueFlows => exact (takePlain_fits (fun p _ => actContinueFlows_fits p) h).of_next next
  | settleFlows => exact (takePlain_fits (act := actSettleFlows) (fun _ _ kept => kept) h).of_next next
  | unsettleFlows => exact (takePlain_fits (act := actUnsettleFlows) (fun _ _ kept => kept) h).of_next next
  | readFlow => exact (takePlain_fits (fun p _ => actReadFlow_fits p) h).of_next next
  | readFlowStatus => exact (takePlain_fits (fun p _ => actReadFlowStatus_fits p) h).of_next next
  | setDefaultAction => exact (takePlain_fits (fun p _ => actSetDefaultAction_fits p) h).of_next next
  | setPartition => exact (takePlain_fits (fun p _ => actSetPartition_fits p) h).of_next next
  | readPartition => exact (takePlain_fits (act := actReadPartition) (fun _ _ kept => kept) h).of_next next
  | loadAnswer => exact (takePlain_fits (fun p _ => actLoadAnswer_fits p) h).of_next next
  | clearAnswer => exact (takePlain_fits (fun p _ => actClearAnswer_fits p) h).of_next next
  | readAnswer => exact (takePlain_fits (fun p _ => actReadAnswer_fits p) h).of_next next
  | sleep => exact (takePlain_fits (fun p _ => actSleep_fits p) h).of_next next
  | ready =>
    exact (takeRequest_fits (act := actReady) (fun _ _ _ kept => kept) (fun _ => runReached_fits) h).of_next next
  | heartbeat => exact (takePlain_fits (fun p _ => actHeartbeat_fits p) h).of_next next
  | setWake => exact (takePlain_fits (fun p _ => actSetWake_fits p) h).of_next next
  | readWake => exact (takePlain_fits (act := actReadWake) (fun _ _ kept => kept) h).of_next next
  | setClock => exact (takePlain_fits (act := actSetClock) (fun _ _ kept => kept) h).of_next next
  | setAlarms => exact (takePlain_fits (act := actSetAlarms) (fun _ _ kept => kept) h).of_next next
  | setTiming => exact (takePlain_fits (act := actSetTiming) (fun _ _ kept => kept) h).of_next next
  | readHold => exact (takePlain_fits (fun p _ => actReadHold_fits p) h).of_next next
  | clearHold => exact (takePlain_fits (act := actClearHold) (fun _ _ kept => kept) h).of_next next
  | spinUp => exact (takePlain_fits (fun p _ => actSpinUp_fits p) h).of_next next
  | spinDown => exact (takePlain_fits (fun p _ => actSpinDown_fits p) h).of_next next
  | setBays => exact (takePlain_fits (fun p _ => actSetBays_fits p) h).of_next next
  | readBays => exact (takePlain_fits (act := actReadBays) (fun _ _ kept => kept) h).of_next next
  | setProfile => exact (takePlain_fits (fun p _ => actSetProfile_fits p) h).of_next next
  | readSession => exact (takePlain_fits (fun p _ => actReadSession_fits p) h).of_next next
  | haltSession => exact (takePlain_fits (fun p _ => actHaltSession_fits p) h).of_next next
  | setShare => exact (takePlain_fits (act := actSetShare) (fun _ _ kept => kept) h).of_next next
  | setNotices =>
    exact (takeRequest_fits (fun r p _ => actSetNotices_fits p r) (fun _ => buildNotices_fits) h).of_next next
  | readNotices => exact (takePlain_fits (fun p _ => actReadNotices_fits p) h).of_next next
  | programRetained =>
    exact (takeRequest_fits (fun r p _ => actProgramRetained_fits p r) (fun _ kept => kept) h).of_next next
  | readRetained => exact (takePlain_fits (fun p _ => actReadRetained_fits p) h).of_next next

theorem step_fits (h : Fits 0 s) (next : step s = .next t) : Fits 0 t := by
  unfold step at next
  split at next
  · exact (idle_fits h).of_next next
  · have waiting (rest : List Instr) : Fits 0 { s with pending := rest } := h
    exact exec_fits (waiting _) next

end

/-- Settles O60: by the commands, each of which keeps every queue within its capacity. -/
theorem stepsKeepCapacities : Obligations.StepsKeepCapacities :=
  fun s t kept next => (withinCapacities_iff t).mpr (step_fits ((withinCapacities_iff s).mp kept) next)

end Sys2Proof.Machine
end

section
/-! SUPPORT and proofs: the release of the head, the stale flag and CLEAR_HOLD (O31). -/

namespace Sys2Proof.Machine

/-! ## Release -/

section
variable {s : State}

/-- Outside RUN, with the H-port DOWN or the position taken, nothing is released (R67). -/
theorem release_closed (closed : s.pow.box ≠ .run ∨ s.host.up = false ∨ s.hold.sending = true) :
    release s = s := by
  unfold release
  cases s.hold.records with
  | nil => rfl
  | cons r rest =>
    rw [List.length_cons, releaseN, if_neg]
    simp only [Bool.and_eq_true, decide_eq_true_eq, Bool.not_eq_true']
    rintro ⟨⟨run, up⟩, free⟩
    simp [run, up, free] at closed

/-- The part with its STALE head `r` discarded, counted and reported, `rest` behind it (R68). -/
def staleDiscarded (r : HeldRecord) (rest : List HeldRecord) (s : State) : State :=
  { s with
    cells.ring.head := (s.cells.ring.head + r.cells) % s.cells.part.hold,
    cells.ring.used := s.cells.ring.used - r.cells,
    hold.records := rest, hold.overflow := s.hold.overflow && !rest.isEmpty,
    hold.stales := satAdd s.hold.stales 1,
    note.kinds := vecMod s.note.kinds 5 fun k =>
      { k with
        pending := true, count := satAdd k.count 1,
        detail := some (.staleDropped r.cls r.entry (s.time.ms - r.arrival).toNat) } }

/-- A STALE head is discarded, and release goes on from the next one (R68). -/
theorem release_stale {r : HeldRecord} {rest : List HeldRecord} (run : s.pow.box = .run) (up : s.host.up = true)
    (free : s.hold.sending = false) (records : s.hold.records = r :: rest) (stale : r.stale = true) :
    release s = release (staleDiscarded r rest s) := by
  have head : release s = releaseN rest.length
      (raise .staleDropped (.staleDropped r.cls r.entry (r.age s.time.ms))
        { popHeld s with hold.stales := satAdd (popHeld s).hold.stales 1 }) := by
    unfold release
    rw [records, List.length_cons]
    simp [releaseN, run, up, free, records, stale]
  rw [head, popHeld_cons records]
  rfl

end

/-! ## The stale flag and the overflow latch -/

theorem getElem_modify_aged {records : List HeldRecord} {limit position k : Nat} {now : Word32}
    (h : k < (records.modify position (HeldRecord.aged limit now)).length) (h' : k < records.length) :
    (records.modify position (HeldRecord.aged limit now))[k] =
      if k = position ∧ limit * 1000 < (now - records[k].arrival).toNat then { records[k] with stale := true }
      else records[k] := by
  rw [List.getElem_modify]
  by_cases own : position = k
  · subst own
    simp only [if_true, true_and]
    rfl
  · simp [own, Ne.symm own]

/-- Settles O31: one lemma for each judgement of the head. -/
theorem releaseJudgesTheHead : Obligations.ReleaseJudgesTheHead := by
  refine ⟨fun s => ⟨fun closed => ?_, fun r rest run up free records =>
      ⟨fun fresh busy => ?_, fun stale => ?_⟩⟩,
    fun position s => ⟨_, rfl, List.length_modify .., fun k h h' => getElem_modify_aged h h'⟩,
    by decide, fun s r p rest taken => ?_⟩
  · obtain box | down | sending | empty := closed
    · exact release_closed (.inl box)
    · exact release_closed (.inr (.inl down))
    · exact release_closed (.inr (.inr sending))
    · exact release_empty empty
  · rw [release_fresh run up free records fresh]
    exact hostKick_busy busy
  · exact release_stale run up free records stale
  · exact congrArg Host.Outcome.next (takePlain_ok (act := actClearHold) taken rfl)

end Sys2Proof.Machine
end

section
/-! SUPPORT and proofs: the H-port UP and DOWN (O48). -/

namespace Sys2Proof.Machine

/-! ## The H-port UP -/

section
variable {s : State}

/-- The part as the H-port's coming UP is reported, before any block acts on it (R164). -/
def portUp (s : State) : State :=
  raise .linkChange (.linkChange .host true) { s with host.up := true }

theorem execHPortUp_eq (rail : s.pow.pwrEn = true) (released : s.pow.rst = false) (down : s.host.up = false) :
    exec .hPortUp s =
      .next
        (if s.pow.box = .run then inAnyOrder buildNotices release startDelivery (hostKick (portUp s))
         else hostKick (portUp s)) := by
  simp only [exec, execHPortUp, rail, released, down, Bool.not_false, Bool.and_self, if_true]
  rfl

/-- An H-port that is UP, with the power controller, the bays and the classifier as they were: what notices, release
and delivery all leave. -/
structure Upward (s t : State) : Prop where
  up : t.host.up = true
  pow : t.pow = s.pow
  bay : t.bay = s.bay
  cls : t.cls = s.cls

theorem portUp_upward : Upward s (hostKick (portUp s)) :=
  ⟨by simp [portUp], by simp [portUp], by simp [portUp], by simp [portUp]⟩

theorem Upward.unchanged {t u : State} (h : Upward s t) (up : u.host.up = t.host.up := by simp)
    (pow : u.pow = t.pow := by simp) (bay : u.bay = t.bay := by simp) (cls : u.cls = t.cls := by simp) : Upward s u :=
  ⟨up.trans h.up, pow.trans h.pow, bay.trans h.bay, cls.trans h.cls⟩

section
variable {t : State} (h : Upward s t)
include h

theorem inAnyOrder_upward : Upward s (inAnyOrder buildNotices release startDelivery t) :=
  inAnyOrder_keeps (P := Upward s) (fun _ _ upward => upward.unchanged) (fun _ upward => upward.unchanged)
    (fun _ upward => upward.unchanged) (fun _ upward => upward.unchanged) h

/-- Release acts on the hold queue as it was, whatever has come before it. -/
theorem inAnyOrder_hold {hold : HoldQueue} (releases : ∀ u, Upward s u → u.hold = t.hold → (release u).hold = hold) :
    (inAnyOrder buildNotices release startDelivery t).hold = hold := by
  have acts := inAnyOrder_acts (s := t)
    (P := fun _ released _ u => Upward s u ∧ u.hold = if released then hold else t.hold)
    (fun _ _ u ⟨upward, same⟩ => ⟨upward.unchanged, (buildNotices_hold u).trans same⟩)
    (fun _ _ u ⟨upward, same⟩ => ⟨upward.unchanged, releases u upward same⟩)
    (fun _ _ u ⟨upward, same⟩ => ⟨upward.unchanged, (startDelivery_hold u).trans same⟩)
    ⟨h.unchanged, rfl⟩
  exact acts.2

/-- The pacing engine acts on its delivery FIFO as it was, whatever has come before it. -/
theorem inAnyOrder_pac {pac : Pacing} (delivers : ∀ u, Upward s u → u.pac = t.pac → (startDelivery u).pac = pac) :
    (inAnyOrder buildNotices release startDelivery t).pac = pac := by
  have acts := inAnyOrder_acts (s := t)
    (P := fun _ _ started u => Upward s u ∧ u.pac = if started then pac else t.pac)
    (fun _ _ u ⟨upward, same⟩ => ⟨upward.unchanged, (buildNotices_pac u).trans same⟩)
    (fun _ _ u ⟨upward, same⟩ => ⟨upward.unchanged, (release_pac u).trans same⟩)
    (fun _ _ u ⟨upward, same⟩ => ⟨upward.unchanged, delivers u upward same⟩)
    ⟨h.unchanged, rfl⟩
  exact acts.2

end

/-- With nothing held and nothing to deliver the notices alone are built, in whatever order. -/
theorem inAnyOrder_notices {t : State} (records : t.hold.records = []) (fifo : t.pac.fifo = []) :
    inAnyOrder buildNotices release startDelivery t = buildNotices { t with choices := t.choices + 3 } := by
  have acts := inAnyOrder_acts (s := t)
    (P := fun built _ _ u => u.hold = t.hold ∧ u.pac = t.pac ∧
      u = if built then buildNotices { t with choices := t.choices + 3 } else { t with choices := t.choices + 3 })
    (f := buildNotices) (g := release) (k := startDelivery)
    (fun _ _ u ⟨hold, pac, same⟩ =>
      ⟨(buildNotices_hold u).trans hold, (buildNotices_pac u).trans pac, congrArg buildNotices same⟩)
    (fun _ _ u ⟨hold, pac, same⟩ => by
      rw [release_empty (by rw [hold, records])]
      exact ⟨hold, pac, same⟩)
    (fun _ _ u ⟨hold, pac, same⟩ => by
      rw [startDelivery_waits (.inl (by rw [pac, fifo]))]
      exact ⟨hold, pac, same⟩)
    ⟨rfl, rfl, rfl⟩
  exact acts.2.2

end

/-! ## The H-port DOWN -/

section
variable {s : State}

/-- The host link cut off: its queues, the frame being sent and the responses not yet built are gone, and the release
position is empty (R169). -/
def linkCut (s : State) : State :=
  heldReturned
    { s with
      host.up := false, host.responses := [], host.lpath := [], host.sending := none, host.requests := [],
      mgmt.deferred := [] }

theorem portDown_eq (up : s.host.up = true) :
    portDown s = raise .linkChange (.linkChange .host false) (returnDelivery (linkCut s)) := by
  unfold portDown
  rw [if_pos up]
  rfl

theorem portDown_isDown (down : s.host.up = false) : portDown s = s := by
  simp [portDown, down]

theorem returnDelivery_none (delivery : s.pac.delivery = none) : returnDelivery s = s := by
  unfold returnDelivery
  rw [delivery]

theorem returnDelivery_sending {k n : Nat} {owner : StageOwner} (delivery : s.pac.delivery = some k)
    (stage : s.pac.stage.getD k .free = .sending owner n) :
    returnDelivery s =
      { setStage k (.filled owner n) s with pac.delivery := none, pac.fifo := k :: s.pac.fifo } := by
  unfold returnDelivery
  simp only [delivery, stage]

theorem returnDelivery_delivery (s : State) : (returnDelivery s).pac.delivery = none := by
  cases delivery : s.pac.delivery with
  | none => rwa [returnDelivery_none delivery]
  | some k =>
    unfold returnDelivery
    rw [delivery]
    dsimp only
    split <;> rfl

end

/-- Settles O48: going UP, release and delivery act in whatever order; going DOWN, each block's part comes back. -/
theorem hPortEvents : Obligations.HPortEvents := by
  refine ⟨fun s off => ?_, fun s u rail released down responses lpath delivery hu => ?_,
    fun s rail released down run => ?_, fun s down => ?_, fun s up => ?_⟩
  · have guard : (s.pow.pwrEn && !s.pow.rst && !s.host.up) = false := by
      obtain h | h | h := off <;> simp [h]
    simp [exec, execHPortUp, guard]
  · have idle : hostKick (portUp s) = u := by
      rw [hu]
      exact hostKick_empty responses lpath delivery
    rw [execHPortUp_eq rail released down, idle]
    refine ⟨fun asleep => by rw [if_neg asleep], fun run records fifo => ?_⟩
    rw [if_pos run, inAnyOrder_notices (by rw [hu]; exact records) (by rw [hu]; exact fifo), hu]
    rfl
  · have upward := portUp_upward (s := s)
    have hold : (hostKick (portUp s)).hold = s.hold := hostKick_hold _
    have pac : (hostKick (portUp s)).pac = s.pac := hostKick_pac _
    obtain ⟨up, pow, bay, cls⟩ := inAnyOrder_upward upward
    refine ⟨_, (execHPortUp_eq rail released down).trans (by rw [if_pos run]), up, pow, bay, cls,
      fun q qs records fresh free => inAnyOrder_hold upward fun v on same => ?_,
      fun records => inAnyOrder_hold upward fun v on same => ?_,
      fun empty k ks owner n fifo stage => inAnyOrder_pac upward fun v on same => ?_,
      fun empty fifo => inAnyOrder_pac upward fun v on same => ?_⟩
    · rw [hold] at same
      rw [release_fresh (by rw [on.pow, run]) on.up (by rw [same, free]) (by rw [same, records]) fresh,
        handReleased_hold, same]
    · rw [hold] at same
      rw [release_empty (by rw [same, records]), same]
    · rw [pac] at same
      rw [startDelivery_starts (by rw [on.pow, run]) on.up (by rw [same, empty]) (by rw [same, fifo])
        (by rw [same, stage]), hostKick_pac, ← same]
      rfl
    · rw [pac] at same
      rw [startDelivery_waits (.inl (by rw [same, fifo])), same]
  · exact congrArg Host.Outcome.next (portDown_isDown down)
  · refine ⟨_, congrArg Host.Outcome.next (portDown_eq up), ?_, ?_, ?_, ?_, fun k owner n delivery bound stage => ?_,
      fun delivery => ?_, ?_, ?_, ?_, ?_, ?_, ?_, ?_⟩
    · simp [linkCut]
    · simp [linkCut]
    · simp [linkCut, heldReturned]
    · exact returnDelivery_delivery _
    · rw [raise_pac, returnDelivery_sending (s := linkCut s) delivery stage]
      exact ⟨rfl, rfl⟩
    · rw [raise_pac, returnDelivery_none (s := linkCut s) delivery]
      rfl
    · exact congrArg NoticeState.pending (getElem_vecMod_self _ _ _)
    · exact congrArg NoticeState.detail (getElem_vecMod_self _ _ _)
    all_goals simp [linkCut]

end Sys2Proof.Machine
end

section
/-! SUPPORT and proofs: LOAD_ANSWER (O17). -/

namespace Sys2Proof.Machine

/-! ## The parameters of LOAD_ANSWER -/

theorem natAt_drop (bytes : List Byte) (m offset n : Nat) : natAt (bytes.drop m) offset n = natAt bytes (m + offset) n :=
  congrArg beNat (slice_drop bytes m offset n)

/-- Check `i` stands 18 bytes behind the one before it (Table 12.5). -/
theorem parseChecks_eq (c : Nat) (b : List Byte) :
    parseChecks c b = (List.range c).map fun i =>
      ({ offset := natAt b (18 * i) 1, expected := slice b (2 + 18 * i) (natAt b (1 + 18 * i) 1) },
        natAt b (1 + 18 * i) 1) := by
  induction c generalizing b with
  | zero => rfl
  | succ c ih =>
    rw [parseChecks, ih, List.range_succ_eq_map, List.map_cons, List.map_map]
    refine congrArg _ (List.map_congr_left fun i _ => ?_)
    simp only [natAt_drop, slice_drop, Function.comp_apply, Nat.mul_succ, Nat.add_left_comm 18, Nat.add_comm 18]

/-- Substitution `i` stands 4 bytes behind the one before it (Table 12.5). -/
theorem parseSubsts_eq (n : Nat) (b : List Byte) :
    parseSubsts n b = (List.range n).map fun i =>
      { offset := natAt b (4 * i) 1, count := natAt b (1 + 4 * i) 1, target := natAt b (2 + 4 * i) 2 } := by
  induction n generalizing b with
  | zero => rfl
  | succ n ih =>
    rw [parseSubsts, ih, List.range_succ_eq_map, List.map_cons, List.map_map]
    refine congrArg _ (List.map_congr_left fun i _ => ?_)
    simp only [natAt_drop, Function.comp_apply, Nat.mul_succ, Nat.add_left_comm 4, Nat.add_comm 4]

/-- The checks that the parameters of LOAD_ANSWER carry behind their first 10 bytes. -/
def loadChecks (p : List Byte) : List (Check × Nat) :=
  parseChecks (natAt p 1 1) (p.drop 10)

/-- The substitutions that they carry behind the checks. -/
def loadSubsts (p : List Byte) : List Subst :=
  parseSubsts (natAt p 2 1) (p.drop (10 + 18 * natAt p 1 1))

/-- The template that they carry behind the substitutions. -/
def loadTemplate (p : List Byte) : List Byte :=
  p.drop (10 + 18 * natAt p 1 1 + 4 * natAt p 2 1)

theorem loadChecks_eq (p : List Byte) :
    loadChecks p = (List.range (natAt p 1 1)).map fun i =>
      ({ offset := natAt p (10 + 18 * i) 1, expected := slice p (12 + 18 * i) (natAt p (11 + 18 * i) 1) },
        natAt p (11 + 18 * i) 1) := by
  simp only [loadChecks, parseChecks_eq, natAt_drop, slice_drop, ← Nat.add_assoc, Nat.reduceAdd]

theorem loadSubsts_eq (p : List Byte) :
    loadSubsts p = (List.range (natAt p 2 1)).map fun i =>
      { offset := natAt p (10 + 18 * natAt p 1 1 + 4 * i) 1, count := natAt p (11 + 18 * natAt p 1 1 + 4 * i) 1,
        target := natAt p (12 + 18 * natAt p 1 1 + 4 * i) 2 } := by
  have one : 10 + 18 * natAt p 1 1 + 1 = 11 + 18 * natAt p 1 1 := Nat.add_right_comm ..
  have two : 10 + 18 * natAt p 1 1 + 2 = 12 + 18 * natAt p 1 1 := Nat.add_right_comm ..
  simp only [loadSubsts, parseSubsts_eq, natAt_drop, ← Nat.add_assoc, one, two]

/-! ## What R81 accepts -/

theorem sourceAllowed_iff (n offset : Nat) : sourceAllowed n offset = true ↔ 1 ≤ n ∧ n ≤ 16 ∧ offset ≤ 127 := by
  simp [sourceAllowed, and_assoc]

/-- No other valid record's cells begin before these end and end after these begin. -/
theorem templateMeets_eq_false (s : State) (index : Fin 16) (offset length : Nat) :
    templateMeets s index offset length = false ↔
      ∀ j : Fin 16, j ≠ index → s.ans.records[j].valid = true →
        offset + cellsFor length ≤ s.ans.records[j].offset ∨
          s.ans.records[j].offset + cellsFor s.ans.records[j].length ≤ offset := by
  simp only [templateMeets, runsMeet, List.any_eq_false, List.mem_finRange, true_imp_iff, Bool.and_eq_true,
    decide_eq_true_eq, not_and, Nat.not_lt]
  refine forall_congr' fun j => ⟨fun h other valid => ?_, fun h ⟨other, valid⟩ before => ?_⟩
  · obtain before | behind := Nat.lt_or_ge offset (s.ans.records[j].offset + cellsFor s.ans.records[j].length)
    · exact .inl (h ⟨other, valid⟩ before)
    · exact .inr behind
  · exact (h other valid).resolve_right (Nat.not_le.mpr before)

/-- What R81 asks of a request to load record `index`: the counts fit the parameters, the template fits its field, the
region and the other templates, and each check and substitution reads an allowed source. -/
structure LoadAllowed (s : State) (p : List Byte) (index : Fin 16) : Prop where
  fewChecks : natAt p 1 1 ≤ 4
  fewSubsts : natAt p 2 1 ≤ 4
  carried : 10 + 18 * natAt p 1 1 + 4 * natAt p 2 1 ≤ p.length
  least : 60 ≤ natAt p 6 2
  most : natAt p 6 2 ≤ 1518
  whole : (loadTemplate p).length = natAt p 6 2
  within : natAt p 4 2 + cellsFor (natAt p 6 2) ≤ s.cells.part.answer
  apart : templateMeets s index (natAt p 4 2) (natAt p 6 2) = false
  checks : ∀ k ∈ loadChecks p, 1 ≤ k.2 ∧ k.2 ≤ 16 ∧ k.1.offset ≤ 127
  substs : ∀ t ∈ loadSubsts p, 1 ≤ t.count ∧ t.count ≤ 16 ∧ t.offset ≤ 127 ∧ t.target + t.count ≤ natAt p 6 2

theorem allChecksAllowed_iff (p : List Byte) : ((loadChecks p).all fun k => sourceAllowed k.2 k.1.offset) = true ↔
    ∀ k ∈ loadChecks p, 1 ≤ k.2 ∧ k.2 ≤ 16 ∧ k.1.offset ≤ 127 := by
  simp only [List.all_eq_true, sourceAllowed_iff]

theorem allSubstsAllowed_iff (p : List Byte) (length : Nat) :
    ((loadSubsts p).all fun t => sourceAllowed t.count t.offset && decide (t.target + t.count ≤ length)) = true ↔
      ∀ t ∈ loadSubsts p, 1 ≤ t.count ∧ t.count ≤ 16 ∧ t.offset ≤ 127 ∧ t.target + t.count ≤ length := by
  simp only [List.all_eq_true, Bool.and_eq_true, sourceAllowed_iff, decide_eq_true_eq, and_assoc]

/-- The record that LOAD_ANSWER stores (R82). -/
def loadedRecord (p : List Byte) : AnswerRecord :=
  { valid := true, offset := natAt p 4 2, length := natAt p 6 2, checks := (loadChecks p).map (·.1),
    substs := loadSubsts p, holdoff := min 1000 (natAt p 8 2), timer := none, last := none, answered := 0,
    suppressed := 0, declined := 0 }

section
variable {s : State} {p : List Byte}

theorem actLoadAnswer_stores {h : natAt p 0 1 < 16} (allowed : LoadAllowed s p ⟨natAt p 0 1, h⟩) :
    actLoadAnswer p s =
      .ok (onRecord ⟨natAt p 0 1, h⟩ (fun _ => loadedRecord p) (writeCells (256 * natAt p 4 2) (loadTemplate p) s))
        (num 1 (natAt p 0 1) ++ num 2 (min 1000 (natAt p 8 2)) ++ num 1 (natAt p 4 2) ++
          num 1 (natAt p 4 2 + cellsFor (natAt p 6 2) - 1)) := by
  obtain ⟨fewChecks, fewSubsts, carried, least, most, whole, within, apart, checks, substs⟩ := allowed
  have clamped : clamp 0 1000 (natAt p 8 2) = min 1000 (natAt p 8 2) := Nat.zero_max _
  have checked := (allChecksAllowed_iff p).mpr checks
  have substituted := (allSubstsAllowed_iff p _).mpr substs
  unfold loadTemplate at whole
  unfold loadChecks at checked
  unfold loadSubsts at substituted
  unfold actLoadAnswer
  dsimp only
  rw [dif_pos h, if_neg (by omega), if_neg (by omega), if_neg (by omega), apart, if_neg Bool.false_ne_true, checked,
    substituted, clamped]
  rfl

theorem actLoadAnswer_refuses (refused : ∀ h : natAt p 0 1 < 16, ¬ LoadAllowed s p ⟨natAt p 0 1, h⟩) :
    actLoadAnswer p s = .refuse s .badArgument := by
  unfold actLoadAnswer
  dsimp only
  split_ifs with h counts lengths region meets checked substituted
  case neg =>
    simp only [Bool.not_eq_true', Bool.not_eq_false] at checked substituted
    have checks := (allChecksAllowed_iff p).mp checked
    have substs := (allSubstsAllowed_iff p _).mp substituted
    push Not at counts lengths
    obtain ⟨fewChecks, fewSubsts, carried⟩ := counts
    obtain ⟨least, most, whole⟩ := lengths
    exact absurd ⟨fewChecks, fewSubsts, carried, least, most, whole, Nat.not_lt.mp region, Bool.eq_false_of_not_eq_true meets,
      checks, substs⟩ (refused h)
  all_goals rfl

end

/-- Settles O17: `LoadAllowed` is R81, by its two sides. -/
theorem loadAnswerStoresTheTemplate : Obligations.LoadAnswerStoresTheTemplate := by
  intro s r p rest index c n offset length template checks substs taken hindex hc hn hoffset hlength htemplate hchecks
    hsubsts
  subst hindex hc hn hoffset hlength
  replace htemplate : template = loadTemplate p := htemplate
  rw [← loadChecks_eq] at hchecks
  rw [← loadSubsts_eq] at hsubsts
  subst htemplate hchecks hsubsts
  refine ⟨fun _ h fewChecks fewSubsts carried least most whole within apart allowedChecks allowedSubsts => ?_,
    fun refused => ?_⟩
  · have allowed : LoadAllowed (dequeue r rest s) p ⟨natAt p 0 1, h⟩ :=
      ⟨fewChecks, fewSubsts, carried, least, most, whole, within,
        (templateMeets_eq_false _ _ _ _).mpr fun j other => apart j fun e => other (Fin.ext e), allowedChecks,
        allowedSubsts⟩
    refine ⟨_, vecMod s.ans.records ⟨natAt p 0 1, h⟩ fun _ => loadedRecord p,
      congrArg Host.Outcome.next (takePlain_ok taken (actLoadAnswer_stores allowed)), fun a bound => ?_, fun i => ?_⟩
    · exact (Memory.read_writeRun s.cells.mem _ _ a bound).trans (by rw [whole])
    · exact getElem_vecMod _ _ _ _ i.isLt
  · refine congrArg Host.Outcome.next (takePlain_refuse taken (by decide) (actLoadAnswer_refuses fun h allowed => ?_))
    obtain ⟨fewChecks, fewSubsts, -, least, most, whole, within, apart, allowedChecks, allowedSubsts⟩ := allowed
    rw [templateMeets_eq_false] at apart
    obtain index | counts | counts | short | long | partly | beyond | ⟨i, j, cell, own, other, valid, meets⟩ |
      ⟨k, hk, bad⟩ | ⟨t, ht, bad⟩ := refused
    · exact absurd h (Nat.not_lt.mpr index)
    · exact absurd fewChecks (Nat.not_le.mpr counts)
    · exact absurd fewSubsts (Nat.not_le.mpr counts)
    · exact absurd least (Nat.not_le.mpr short)
    · exact absurd most (Nat.not_le.mpr long)
    · exact partly whole
    · exact absurd within (Nat.not_le.mpr beyond)
    · obtain rfl : i = ⟨natAt p 0 1, h⟩ := Fin.ext own
      have disjoint := apart j other valid
      simp only [cellsFor, dequeue] at disjoint
      omega
    · have := allowedChecks k hk
      omega
    · have := allowedSubsts t ht
      omega

end Sys2Proof.Machine
end

section
/-! SUPPORT and proofs: the tests of a question and the answer built (O18). -/

namespace Sys2Proof.Machine

/-! ## Changing one record -/

/-- Two changes that agree on the record they change are the same. -/
theorem onRecord_congr {s : State} {i : Fin 16} {f g : AnswerRecord → AnswerRecord}
    (h : f s.ans.records[i] = g s.ans.records[i]) : onRecord i f s = onRecord i g s :=
  congrArg (fun record => { s with ans.records := s.ans.records.set i record }) h

/-! ## The tests of a question -/

theorem exec_questionTaken {s : State} {q : Question} {rest : List Question} (h : s.ans.questions = q :: rest) :
    exec .questionTaken s = .next (answerQuestion q { s with ans.questions := rest }) := by
  have taken : exec .questionTaken s = execQuestionTaken s := rfl
  rw [taken, execQuestionTaken, h]

section
variable {s : State} {q : Question}

theorem answerQuestion_invalid (h : s.ans.records[q.index].valid = false) :
    answerQuestion q s = { s with ans.invalid := satAdd s.ans.invalid 1 } := by
  unfold answerQuestion
  dsimp only
  rw [h]
  rfl

variable (valid : s.ans.records[q.index].valid = true)
include valid

theorem answerQuestion_declined (h : s.ans.records[q.index].tooShort (q.length - 4) = true ∨
      s.ans.records[q.index].checksHold q.data = false) :
    answerQuestion q s = onRecord q.index (fun t => { t with declined := satAdd t.declined 1 }) s := by
  unfold answerQuestion
  dsimp only
  rw [valid, if_neg (by decide), if_pos]
  obtain h | h := h <;> simp only [h, Bool.not_false, Bool.true_or, Bool.or_true]

variable (long : s.ans.records[q.index].tooShort (q.length - 4) = false)
  (holds : s.ans.records[q.index].checksHold q.data = true)
include long holds

theorem answerQuestion_suppressed
    (h : s.ans.records[q.index].timer ≠ none ∨ 4 ≤ s.ans.answers.length + s.ans.sending.isSome.toNat) :
    answerQuestion q s = onRecord q.index (fun t => { t with suppressed := satAdd t.suppressed 1 }) s := by
  unfold answerQuestion
  dsimp only
  rw [valid, long, holds, if_neg (by decide), if_neg (by decide), if_pos]
  rwa [Bool.or_eq_true, Option.isSome_iff_ne_none, decide_eq_true_eq]

theorem answerQuestion_built (idle : s.ans.records[q.index].timer = none)
    (room : s.ans.answers.length + s.ans.sending.isSome.toNat < 4) : answerQuestion q s = buildAnswer q s := by
  unfold answerQuestion
  dsimp only
  rw [valid, long, holds, idle, if_neg (by decide), if_neg (by decide), if_neg]
  simpa using room

end

/-- With the LAN link busy the answer built waits in the answer queue (R86, R171). -/
theorem buildAnswer_busy {s : State} {q : Question} (idle : s.ans.records[q.index].timer = none)
    (busy : s.lan.sending.isSome = true) :
    buildAnswer q s =
      onRecord q.index
        (fun t =>
          { t with
            answered := satAdd t.answered 1, last := some s.time.ms,
            timer := if t.holdoff = 0 then none else some t.holdoff })
        { s with
          ans.answers := s.ans.answers ++
            [{ record := q.index,
               data := s.ans.records[q.index].fill (templateBytes s s.ans.records[q.index]) q.data }] } := by
  rw [buildAnswer, lanKick_busy]
  · refine onRecord_congr ?_
    dsimp only
    rw [idle]
  · exact busy

theorem tooShort_iff (x : AnswerRecord) (n : Nat) : x.tooShort n = true ↔
    (∃ c ∈ x.checks, n < c.offset + c.expected.length) ∨ ∃ u ∈ x.substs, n < u.offset + u.count := by
  simp only [AnswerRecord.tooShort, Bool.or_eq_true, List.any_eq_true, decide_eq_true_eq]

theorem checksHold_iff (x : AnswerRecord) (data : List Byte) : x.checksHold data = true ↔
    ∀ c ∈ x.checks, (data.drop c.offset).take c.expected.length = c.expected :=
  List.all_eq_true.trans (forall₂_congr fun _ _ => decide_eq_true_iff)

/-! ## The bytes of an answer -/

theorem getD_readRun (m : Memory) (address : Nat) {n i : Nat} (h : i < n) :
    (m.readRun address n).getD i 0 = m.read (address + i) := by
  simp [Memory.readRun_eq_map, List.getD_eq_getElem?_getD, h]

theorem slice_length {bytes : List Byte} {offset n : Nat} (h : offset + n ≤ bytes.length) :
    (slice bytes offset n).length = n := by
  simp only [slice, List.length_take, List.length_drop]
  omega

theorem getD_slice (bytes : List Byte) (offset : Nat) {n i : Nat} (h : i < n) :
    (slice bytes offset n).getD i 0 = bytes.getD (offset + i) 0 := by
  simp [slice, List.getD_eq_getElem?_getD, h]

section
variable {buffer bytes : List Byte} {offset : Nat} (fits : offset + bytes.length ≤ buffer.length)
include fits

theorem overlay_length : (overlay buffer offset bytes).length = buffer.length := by
  simp only [overlay, List.length_append, List.length_take, List.length_drop]
  omega

theorem getD_overlay (i : Nat) : (overlay buffer offset bytes).getD i 0 =
    if offset ≤ i ∧ i < offset + bytes.length then bytes.getD (i - offset) 0 else buffer.getD i 0 := by
  have before : (buffer.take offset).length = offset := List.length_take_of_le (by omega)
  simp only [overlay, List.getD_eq_getElem?_getD]
  split_ifs with inside
  · rw [List.getElem?_append_left (by simp only [List.length_append, before]; omega),
      List.getElem?_append_right (by omega), before]
  · by_cases low : i < offset
    · rw [List.append_assoc, List.getElem?_append_left (by omega), List.getElem?_take_of_lt low]
    · have behind : (buffer.take offset ++ bytes).length = offset + bytes.length := by rw [List.length_append, before]
      rw [List.getElem?_append_right (by omega), behind, List.getElem?_drop]
      congr 2
      omega

end

/-- The substitutions applied to a buffer one after another, the question's bytes in `data` (R86). -/
def substitute (data : List Byte) (substs : List Subst) (buffer : List Byte) : List Byte :=
  substs.foldl (fun buffer t => overlay buffer t.target (slice data t.offset t.count)) buffer

theorem AnswerRecord.fill_eq (x : AnswerRecord) (template data : List Byte) :
    x.fill template data = substitute data x.substs template := rfl

/-- The substitutions read within the question and write within a buffer of `length` bytes. -/
def SubstsFit (data : List Byte) (length : Nat) (substs : List Subst) : Prop :=
  ∀ u ∈ substs, u.offset + u.count ≤ data.length ∧ u.target + u.count ≤ length

section
variable {data buffer : List Byte}

theorem overlay_slice_length {u : Subst} (source : u.offset + u.count ≤ data.length)
    (target : u.target + u.count ≤ buffer.length) :
    (overlay buffer u.target (slice data u.offset u.count)).length = buffer.length :=
  overlay_length (by rwa [slice_length source])

theorem getD_overlay_slice {u : Subst} (source : u.offset + u.count ≤ data.length)
    (target : u.target + u.count ≤ buffer.length) (i : Nat) :
    (overlay buffer u.target (slice data u.offset u.count)).getD i 0 =
      if u.target ≤ i ∧ i < u.target + u.count then data.getD (u.offset + (i - u.target)) 0 else buffer.getD i 0 := by
  rw [getD_overlay (by rwa [slice_length source]), slice_length source]
  split_ifs with inside
  · exact getD_slice _ _ (by omega)
  · rfl

theorem substitute_length {substs : List Subst} (fit : SubstsFit data buffer.length substs) :
    (substitute data substs buffer).length = buffer.length := by
  induction substs generalizing buffer with
  | nil => rfl
  | cons u later ih =>
    obtain ⟨⟨source, target⟩, fits⟩ := List.forall_mem_cons.mp fit
    have same := overlay_slice_length source target
    exact (ih (by rwa [SubstsFit, same])).trans same

/-- A byte under no substitution stays. -/
theorem getD_substitute_apart {substs : List Subst} {i : Nat} (fit : SubstsFit data buffer.length substs)
    (apart : ∀ u ∈ substs, i < u.target ∨ u.target + u.count ≤ i) :
    (substitute data substs buffer).getD i 0 = buffer.getD i 0 := by
  induction substs generalizing buffer with
  | nil => rfl
  | cons u later ih =>
    obtain ⟨⟨source, target⟩, fits⟩ := List.forall_mem_cons.mp fit
    obtain ⟨outside, others⟩ := List.forall_mem_cons.mp apart
    refine (ih (by rwa [SubstsFit, overlay_slice_length source target]) others).trans ?_
    rw [getD_overlay_slice source target, if_neg (by omega)]

/-- A byte under a substitution and under no later one is the question's. -/
theorem getD_substitute_last {earlier later : List Subst} {u : Subst} {i : Nat}
    (fit : SubstsFit data buffer.length (earlier ++ u :: later)) (low : u.target ≤ i) (high : i < u.target + u.count)
    (apart : ∀ v ∈ later, i < v.target ∨ v.target + v.count ≤ i) :
    (substitute data (earlier ++ u :: later) buffer).getD i 0 = data.getD (u.offset + (i - u.target)) 0 := by
  obtain ⟨fitEarlier, fitRest⟩ := List.forall_mem_append.mp fit
  obtain ⟨⟨source, target⟩, fitLater⟩ := List.forall_mem_cons.mp fitRest
  have same : (substitute data earlier buffer).length = buffer.length := substitute_length fitEarlier
  rw [← same] at target fitLater
  have split : substitute data (earlier ++ u :: later) buffer =
      substitute data later (overlay (substitute data earlier buffer) u.target (slice data u.offset u.count)) :=
    List.foldl_append
  rw [split, getD_substitute_apart (by rwa [SubstsFit, overlay_slice_length source target]) apart,
    getD_overlay_slice source target, if_pos ⟨low, high⟩]

end

/-- Settles O18: one lemma for each test of R84, and the bytes of an answer by induction on its substitutions. -/
theorem questionsAreTestedInOrder : Obligations.QuestionsAreTestedInOrder := by
  refine ⟨fun s q rest head => ⟨fun invalid => ?_, fun valid =>
      ⟨fun fails => ?_, fun long holds => ⟨fun held => ?_, fun idle room busy => ?_⟩⟩⟩,
    tooShort_iff, checksHold_iff, fun s x => ⟨Memory.length_readRun _ _ _, fun i => getD_readRun _ _⟩,
    fun x template data built hbuilt fit => ?_, fun i s => ⟨fun expired => ?_, fun other => ?_⟩,
    fun s r p rest taken => ⟨fun h => ?_, fun h => ?_⟩⟩
  · rw [exec_questionTaken head, answerQuestion_invalid (s := { s with ans.questions := rest }) invalid]
  · rw [exec_questionTaken head, answerQuestion_declined (s := { s with ans.questions := rest }) valid fails]
    rfl
  · rw [exec_questionTaken head, answerQuestion_suppressed (s := { s with ans.questions := rest }) valid long holds held]
    rfl
  · rw [exec_questionTaken head, answerQuestion_built (s := { s with ans.questions := rest }) valid long holds idle room,
      buildAnswer_busy (s := { s with ans.questions := rest }) idle busy]
    rfl
  · rw [x.fill_eq] at hbuilt
    subst hbuilt
    refine ⟨substitute_length fit, fun i apart => getD_substitute_apart fit apart,
      fun earlier u later substs i low high apart => ?_⟩
    rw [substs] at fit ⊢
    exact getD_substitute_last fit low high apart
  · exact congrArg Host.Outcome.next (if_pos expired)
  · exact congrArg Host.Outcome.next (if_neg other)
  · exact congrArg Host.Outcome.next (takePlain_ok (act := actClearAnswer) taken (dif_pos h))
  · exact congrArg Host.Outcome.next (takePlain_refuse (act := actClearAnswer) taken (by decide) (dif_neg (by omega)))

end Sys2Proof.Machine
end

section
/-! SUPPORT and proofs: every step keeps the bays agreed with their states, the spin budget and the READY set (O57): the
changes of the bays. -/

namespace Sys2Proof.Machine

/-! ## The conditions on the bays -/

/-- What two states have to do with each other where the conditions on the bays carry over from the one to the other:
the spin budget and the READY set need the bays agreed. -/
structure KeepsBays (s t : State) : Prop where
  agrees : BaysAgree s → BaysAgree t
  budget : BaysAgree s → BudgetKept s → BudgetKept t
  ready : BaysAgree s → ReadySetAgrees s → ReadySetAgrees t

/-- One bay by itself: power in SPINNING and READY alone, each timer in its own state alone (R90). -/
structure BayRecord.Sound (b : BayRecord) : Prop where
  pwr : b.pwr = (decide (b.state = .spinning) || decide (b.state = .ready))
  spin : b.spinTimer.isSome = decide (b.state = .spinning)
  idle : b.idleTimer.isSome = true → b.state = .ready

theorem baysAgree_iff (s : State) : BaysAgree s ↔ (∀ i : Bay, s.bay.bays[i].Sound) ∧
    (∀ i : Bay, i ∈ s.bay.queue ↔ s.bay.bays[i].state = .queued) ∧ s.bay.queue.Nodup := by
  constructor
  · rintro ⟨pwr, spin, idle, queued, distinct⟩
    exact ⟨fun i => ⟨pwr i, spin i, idle i⟩, queued, distinct⟩
  · rintro ⟨sound, queued, distinct⟩
    exact ⟨fun i => (sound i).pwr, fun i => (sound i).spin, fun i => (sound i).idle, queued, distinct⟩

section
variable {s t u : State}

theorem KeepsBays.refl (s : State) : KeepsBays s s :=
  ⟨id, fun _ => id, fun _ => id⟩

theorem KeepsBays.trans (first : KeepsBays s t) (second : KeepsBays t u) : KeepsBays s u :=
  ⟨fun agree => second.agrees (first.agrees agree),
    fun agree kept => second.budget (first.agrees agree) (first.budget agree kept),
    fun agree kept => second.ready (first.agrees agree) (first.ready agree kept)⟩

/-- Where the bay controller and the READY set stay, the conditions carry over. -/
theorem KeepsBays.same (bay : t.bay = s.bay := by simp) (readySet : t.pac.readySet = s.pac.readySet := by simp) :
    KeepsBays s t := by
  constructor <;> simp only [BaysAgree, BudgetKept, ReadySetAgrees, bay, readySet] <;> tauto

theorem KeepsBays.quiet (h : KeepsBays s t) (bay : u.bay = t.bay := by simp)
    (readySet : u.pac.readySet = t.pac.readySet := by simp) : KeepsBays s u :=
  h.trans (.same bay readySet)

theorem KeepsBays.after (h : KeepsBays t u) (bay : t.bay = s.bay := by simp)
    (readySet : t.pac.readySet = s.pac.readySet := by simp) : KeepsBays s u :=
  .trans (.same bay readySet) h

/-! ## All bays at once -/

/-- A bay changed in its lines, its needed count or the time left of its timers alone. -/
structure BayRecord.Steady (b c : BayRecord) : Prop where
  state : c.state = b.state
  settings : c.settings = b.settings
  pwr : c.pwr = b.pwr
  spin : c.spinTimer.isSome = b.spinTimer.isSome
  idle : c.idleTimer.isSome = true → b.idleTimer.isSome = true ∨ b.state = .ready

theorem BayRecord.Steady.sound {b c : BayRecord} (h : b.Steady c) (sound : b.Sound) : c.Sound := by
  obtain ⟨state, -, pwr, spin, idle⟩ := h
  exact ⟨by rw [pwr, state, sound.pwr], by rw [spin, state, sound.spin],
    fun runs => state.trans ((idle runs).elim sound.idle id)⟩

theorem BayRecord.Steady.spinCost {b c : BayRecord} (h : b.Steady c) : c.spinCost = b.spinCost := by
  rw [BayRecord.spinCost, h.state, h.settings, BayRecord.spinCost]

/-- Where each bay is steady, the conditions carry over. -/
theorem KeepsBays.steady (steady : ∀ i : Bay, s.bay.bays[i].Steady t.bay.bays[i])
    (queue : t.bay.queue = s.bay.queue := by simp) (budget : t.bay.budget = s.bay.budget := by simp)
    (readySet : t.pac.readySet = s.pac.readySet := by simp) : KeepsBays s t := by
  refine ⟨fun agree => ?_, fun _ kept => ?_, fun _ kept i => ?_⟩
  · obtain ⟨sound, queued, distinct⟩ := (baysAgree_iff s).mp agree
    refine (baysAgree_iff t).mpr ⟨fun i => (steady i).sound (sound i), fun i => ?_, queue ▸ distinct⟩
    rw [queue, queued, (steady i).state]
  · obtain ⟨costs, sum⟩ := kept
    refine ⟨fun i => by rw [(steady i).settings, budget]; exact costs i, ?_⟩
    rw [spinningCost_eq] at sum ⊢
    simp only [(steady _).spinCost, budget]
    exact sum
  · rw [readySet, kept i, (steady i).state]

/-- Where no bay is SPINNING and every bay by itself is right, what is left are the spin-up queue, the costs and the
READY set. -/
theorem KeepsBays.still (still : BaysAgree s → ∀ i : Bay, t.bay.bays[i].Sound ∧ t.bay.bays[i].state ≠ .spinning)
    (queued : BaysAgree s → (∀ i : Bay, i ∈ t.bay.queue ↔ t.bay.bays[i].state = .queued) ∧ t.bay.queue.Nodup)
    (costs : BudgetKept s → ∀ i : Bay, t.bay.bays[i].settings.cost ≤ t.bay.budget)
    (ready : ReadySetAgrees s → ReadySetAgrees t) : KeepsBays s t := by
  refine ⟨fun agree => (baysAgree_iff t).mpr ⟨fun i => (still agree i).1, queued agree⟩,
    fun agree kept => ⟨costs kept, ?_⟩, fun _ => ready⟩
  have none (i : Bay) : t.bay.bays[i].spinCost = 0 := if_neg (still agree i).2
  rw [spinningCost_eq]
  simp only [none]
  exact Nat.zero_le _

/-! ## One bay -/

section
variable {i : Bay} {f : BayRecord → BayRecord}

/-- One bay changed, with what the change makes of the spin-up queue, the costs and the READY set. -/
theorem KeepsBays.change (bays : t.bay.bays = vecMod s.bay.bays i f) (budget : t.bay.budget = s.bay.budget)
    (settings : (f s.bay.bays[i]).settings = s.bay.bays[i].settings)
    (sound : BaysAgree s → (f s.bay.bays[i]).Sound)
    (queued : BaysAgree s → (∀ j : Bay, j ∈ t.bay.queue ↔
      if j = i then (f s.bay.bays[i]).state = .queued else j ∈ s.bay.queue) ∧ t.bay.queue.Nodup)
    (cost : (f s.bay.bays[i]).spinCost ≤ s.bay.bays[i].spinCost + s.bay.freeBudget)
    (ready : BaysAgree s → ReadySetAgrees s → ∀ j : Bay, hasBay t.pac.readySet j =
      if j = i then decide ((f s.bay.bays[i]).state = .ready) else hasBay s.pac.readySet j) : KeepsBays s t := by
  have own : t.bay.bays[i] = f s.bay.bays[i] := by rw [bays]; simp
  have others (j : Bay) (other : j ≠ i) : t.bay.bays[j] = s.bay.bays[j] := by
    rw [bays]
    exact getElem_vecMod_ne _ _ _ _ other
  have each {P : Bay → BayRecord → Prop} (changed : P i (f s.bay.bays[i])) (stayed : ∀ j, P j s.bay.bays[j])
      (j : Bay) : P j t.bay.bays[j] := by
    by_cases same : j = i
    · subst same
      rwa [own]
    · rw [others j same]
      exact stayed j
  refine ⟨fun agree => ?_, fun _ kept => ?_, fun agree kept j => ?_⟩
  · obtain ⟨soundAll, queuedAll, -⟩ := (baysAgree_iff s).mp agree
    obtain ⟨waits, distinct⟩ := queued agree
    refine (baysAgree_iff t).mpr ⟨each (P := fun _ b => b.Sound) (sound agree) soundAll, fun j => ?_, distinct⟩
    rw [waits]
    split
    · rename_i same
      rw [same, own]
    · rename_i other
      rw [others j other, queuedAll]
  · obtain ⟨costs, sum⟩ := kept
    refine ⟨fun j => ?_, ?_⟩
    · rw [budget]
      exact each (P := fun _ b => b.settings.cost ≤ s.bay.budget) (by rw [settings]; exact costs i) costs j
    · have changed : t.bay.spinningCost + s.bay.bays[i].spinCost =
          s.bay.spinningCost + (f s.bay.bays[i]).spinCost := by
        rw [← spinningCost_vecMod s.bay i f t.bay.queue, ← bays]
        rfl
      rw [BayControl.freeBudget] at cost
      rw [budget]
      omega
  · rw [ready agree kept]
    split
    · rename_i same
      rw [same, own]
    · rename_i other
      rw [others j other]
      exact kept j

theorem mem_queue_other {q : List Bay} {i : Bay} (h : i ∉ q) (j : Bay) : j ∈ q ↔ if j = i then False else j ∈ q := by
  split
  · rename_i same
    rw [same]
    exact iff_of_false h id
  · rfl

theorem BayRecord.Sound.ofUnpowered (target : BayState) (b : BayRecord) (off : target = .off ∨ target = .absent) :
    (b.unpowered target).Sound := by
  obtain rfl | rfl := off <;> exact ⟨rfl, rfl, nofun⟩

/-- A bay switched off or gone: it leaves the spin-up queue and the READY set, in which it stood by its state alone. -/
theorem KeepsBays.unpowered {target : BayState} (off : target = .off ∨ target = .absent)
    (bays : t.bay.bays = vecMod s.bay.bays i (BayRecord.unpowered target)) (budget : t.bay.budget = s.bay.budget)
    (queue : t.bay.queue = s.bay.queue.filter (· ≠ i) ∨ (s.bay.bays[i].state ≠ .queued ∧ t.bay.queue = s.bay.queue))
    (ready : t.pac.readySet = s.pac.readySet &&& ~~~ oneBay i ∨
      (s.bay.bays[i].state ≠ .ready ∧ t.pac.readySet = s.pac.readySet)) : KeepsBays s t := by
  have state : (s.bay.bays[i].unpowered target).state = target := rfl
  have notQueued : target ≠ .queued := by obtain rfl | rfl := off <;> nofun
  have notReady : target ≠ .ready := by obtain rfl | rfl := off <;> nofun
  have notSpinning : target ≠ .spinning := by obtain rfl | rfl := off <;> nofun
  have noCost : (s.bay.bays[i].unpowered target).spinCost = 0 := if_neg notSpinning
  refine .change bays budget rfl (fun _ => .ofUnpowered target _ off) (fun agree => ?_) (by rw [noCost]; omega)
    fun _ kept j => ?_
  · obtain ⟨-, -, -, queued, distinct⟩ := agree
    obtain eq | ⟨waits, eq⟩ := queue <;> rw [eq]
    · refine ⟨fun j => ?_, distinct.filter _⟩
      rw [List.mem_filter, state]
      split <;> simp_all
    · refine ⟨fun j => ?_, distinct⟩
      rw [state, eq_false notQueued]
      exact mem_queue_other (fun member => waits ((queued i).mp member)) j
  · rw [state, decide_eq_false notReady]
    obtain eq | ⟨unready, eq⟩ := ready <;> rw [eq]
    · rw [hasBay_without]
      split <;> simp_all
    · split
      · rename_i same
        rw [same, kept i, decide_eq_false unready]
      · rfl

end

end
end Sys2Proof.Machine
end

section
/-! SUPPORT and proofs: every step keeps the bays agreed with their states, the spin budget and the READY set (O57): the
shared operations. -/

namespace Sys2Proof.Machine

section
variable {s t : State}

/-! ## The bay controller -/

theorem BayRecord.Steady.refl (b : BayRecord) : b.Steady b :=
  ⟨rfl, rfl, rfl, rfl, .inl⟩

theorem onBay_steady {i : Bay} {f : BayRecord → BayRecord} (steady : s.bay.bays[i].Steady (f s.bay.bays[i])) :
    KeepsBays s (onBay i f s) := by
  refine .steady fun j => ?_
  by_cases own : j = i
  · subst own
    simpa using steady
  · rw [onBay_bay_bays, getElem_vecMod_ne _ _ _ _ own]
    exact .refl _

/-- The idle timer of a READY bay runs at most in READY, whatever it is set to (R103). -/
theorem BayRecord.Steady.idleTimer {b : BayRecord} (timer : Option Nat) (ready : b.state = .ready) :
    b.Steady { b with idleTimer := timer } :=
  ⟨rfl, rfl, rfl, rfl, fun _ => .inr ready⟩

theorem BayRecord.recount_steady (gives takes : Bool) (b : BayRecord) : b.Steady (b.recount gives takes) := by
  refine ⟨rfl, rfl, rfl, rfl, fun runs => ?_⟩
  dsimp only [BayRecord.recount] at runs
  split at runs
  · nomatch runs
  · split at runs
    · rename_i starts
      exact .inr starts.1
    · exact .inl runs

/-- A bay that was not READY and does not become so leaves the READY set (R148). -/
theorem readySet_unready {i : Bay} (state : BayState) (kept : ReadySetAgrees s)
    (before : s.bay.bays[i].state ≠ .ready) (after : state ≠ .ready) (j : Bay) : hasBay s.pac.readySet j =
      if j = i then decide (state = .ready) else hasBay s.pac.readySet j := by
  split
  · rename_i same
    rw [same, kept i, decide_eq_false before, decide_eq_false after]
  · rfl

theorem changeNeeded_bays (gives takes : BaySet) : KeepsBays s (changeNeeded gives takes s) := by
  refine .steady fun i => ?_
  simpa using BayRecord.recount_steady (hasBay gives i) (hasBay takes i) s.bay.bays[i]

/-- A bay that waits for power joins the spin-up queue (R97). -/
theorem demandBay_bays (i : Bay) : KeepsBays s (demandBay i s) := by
  unfold demandBay
  split
  · rename_i off
    refine .change (i := i) (f := fun b => { b with state := .queued }) rfl rfl rfl (fun agree => ?_) (fun agree => ?_)
      (Nat.zero_le _) fun _ kept j => ?_
    · obtain ⟨pwr, spin, idle⟩ := ((baysAgree_iff s).mp agree).1 i
      rw [off] at pwr spin idle
      exact ⟨pwr, spin, fun runs => nomatch idle runs⟩
    · obtain ⟨-, -, -, queued, distinct⟩ := agree
      have fresh : i ∉ s.bay.queue := fun waits => nomatch off.symm.trans ((queued i).mp waits)
      refine ⟨fun j => ?_, ?_⟩
      · split <;> simp_all
      · simpa [List.nodup_append] using ⟨distinct, fun a member same => fresh (same ▸ member)⟩
    · exact readySet_unready .queued kept (by rw [off]; nofun) nofun j
  · rename_i ready
    exact onBay_steady (.idleTimer _ ready)
  · exact .refl s

/-- The head of the spin-up queue admitted within the free budget (R99, R100). -/
theorem admitted_bays {i : Bay} {rest : List Bay} (queue : s.bay.queue = i :: rest)
    (covers : s.bay.bays[i].settings.cost ≤ s.bay.freeBudget) :
    KeepsBays s (onBay i BayRecord.admitted { s with bay.queue := rest }) := by
  have waiting (agree : BaysAgree s) : s.bay.bays[i].state = .queued := by
    obtain ⟨-, -, -, queued, -⟩ := agree
    exact (queued i).mp (queue ▸ List.mem_cons_self)
  refine .change (i := i) (f := BayRecord.admitted) rfl rfl rfl (fun agree => ?_) (fun agree => ?_) ?_
    fun agree kept j => readySet_unready .spinning kept (by rw [waiting agree]; nofun) nofun j
  · obtain ⟨-, -, idle⟩ := ((baysAgree_iff s).mp agree).1 i
    rw [waiting agree] at idle
    exact ⟨rfl, rfl, fun runs => nomatch idle runs⟩
  · obtain ⟨-, -, -, -, distinct⟩ := agree
    rw [queue] at distinct ⊢
    obtain ⟨fresh, distinct⟩ := List.nodup_cons.mp distinct
    refine ⟨fun j => ?_, distinct⟩
    have left : s.bay.bays[i].admitted.state ≠ .queued := nofun
    rw [eq_false left]
    refine (mem_queue_other fresh j).trans ?_
    split
    · rfl
    · rename_i other
      simp [other]
  · have own : s.bay.bays[i].admitted.spinCost = s.bay.bays[i].settings.cost := rfl
    rw [own]
    omega

theorem tryHead_bays : KeepsBays s (tryHead s) :=
  tryHeads_keeps (P := KeepsBays s) (fun _ _ _ queue covers kept => kept.trans (admitted_bays queue covers)) _ s
    (.refl s)

theorem demand_bays (set : BaySet) : KeepsBays s (demand set s) :=
  demand_keeps (P := KeepsBays s) (fun b _ kept => kept.trans (demandBay_bays b))
    (fun _ _ _ queue covers kept => kept.trans (admitted_bays queue covers)) set s (.refl s)

/-! ## The READY set and the pacing engine -/

@[simp] theorem lanKick_readySet (s : State) : (lanKick s).pac.readySet = s.pac.readySet :=
  congrArg Core.readySet core_lanKick

@[simp] theorem queueMsg_readySet (m : PacingMsg) (s : State) : (queueMsg m s).pac.readySet = s.pac.readySet :=
  congrArg Core.readySet (core_queueMsg m)

@[simp] theorem declineFollowOn_readySet (x : Session) (s : State) :
    (declineFollowOn x s).pac.readySet = s.pac.readySet :=
  congrArg Core.readySet (core_declineFollowOn x)

@[simp] theorem startDelivery_readySet (s : State) : (startDelivery s).pac.readySet = s.pac.readySet := by
  unfold startDelivery
  repeat' split
  all_goals simp

@[simp] theorem returnDelivery_readySet (s : State) : (returnDelivery s).pac.readySet = s.pac.readySet := by
  unfold returnDelivery
  repeat' split
  all_goals rfl

@[simp] theorem haltSession_readySet (i : Slot) (cause : HaltCause) (s : State) :
    (haltSession i cause s).pac.readySet = s.pac.readySet := by
  unfold haltSession
  split
  · rfl
  · by_cases down : cause = .linkDown <;> simp [down]

theorem haltSession_bays (i : Slot) (cause : HaltCause) : KeepsBays s (haltSession i cause s) := by
  cases session : s.pac.slots[i].session with
  | none =>
    rw [haltSession_idle session]
    exact .refl s
  | some x => exact (changeNeeded_bays x.bays 0).quiet (haltSession_bay session)

theorem haltWhere_bays (p : Session → Bool) (cause : HaltCause) : KeepsBays s (haltWhere p cause s) :=
  haltWhere_keeps (P := KeepsBays s) (fun i _ kept => kept.trans (haltSession_bays i cause)) p (.refl s)

theorem arbitrate_bays : KeepsBays s (arbitrate s) :=
  arbitrateN_keeps (P := KeepsBays s)
    (fun _ _ _ _ _ _ _ _ kept => kept.quiet (by simp) (by simp [issueGrant])) _ s (.refl s)

theorem startSession_bays (i : Slot) (gives : BaySet) (peer : MacAddr) (f : FollowOn) :
    KeepsBays s (startSession i gives peer f s) :=
  (KeepsBays.after (changeNeeded_bays gives f.bays)).trans (demand_bays f.bays)

theorem completeSession_bays (i : Slot) (x : Session) : KeepsBays s (completeSession i x s) := by
  unfold completeSession
  dsimp only
  split
  · exact KeepsBays.after (startSession_bays ..)
  · exact KeepsBays.after (changeNeeded_bays ..)

theorem countDelivered_bays (i : Slot) : KeepsBays s (countDelivered i s) := by
  unfold countDelivered
  dsimp only
  split
  · exact .same
  · split
    · exact .refl s
    · split
      · exact KeepsBays.after (completeSession_bays ..)
      · exact .same

theorem deliverySent_bays : KeepsBays s (deliverySent s) := by
  unfold deliverySent
  split
  · exact .refl s
  · split
    · rename_i k _ _ owner _ _
      have counted : KeepsBays s (countDelivered owner.slot { setStage k .free s with pac.delivery := none }) :=
        .after (countDelivered_bays _)
      exact (counted.trans arbitrate_bays).quiet
    · exact .same

/-! ## The power controller -/

@[simp] theorem portDown_readySet (s : State) : (portDown s).pac.readySet = s.pac.readySet := by
  unfold portDown
  split <;> simp

@[simp] theorem railOff_readySet (s : State) : (railOff s).pac.readySet = s.pac.readySet := by
  simp [railOff]

theorem startWake_bays : KeepsBays s (startWake s) :=
  (demand_bays _).quiet (startWake_bay s)

theorem wakeEvent_bays (name : WakeName) (bays : BaySet) : KeepsBays s (wakeEvent name bays s) := by
  obtain eq | ⟨-, eq⟩ | ⟨-, eq⟩ := wakeEvent_cases s name bays <;> rw [eq]
  · exact .refl s
  · exact .same
  · exact KeepsBays.after startWake_bays

/-- The reaching of SLEEP leaves no bay READY, and the READY set without the bays that were (R106, R148). -/
theorem sleepReached_readySet (s : State) (i : Bay) : hasBay (sleepReached s).pac.readySet i =
    (hasBay s.pac.readySet i && decide (s.bay.bays[i].state ≠ .ready)) := by
  have fold : ∀ (l : List Bay) (t : State), hasBay
      (l.foldl (fun t b => if s.bay.bays[b].state = .ready then reportUnready b t else t) t).pac.readySet i =
        (hasBay t.pac.readySet i && !decide (i ∈ l ∧ s.bay.bays[i].state = .ready)) := by
    intro l
    induction l with
    | nil => simp
    | cons b bs ih =>
      intro t
      rw [List.foldl_cons, ih]
      by_cases own : i = b
      · subst own
        split <;> simp_all [hasBay_without]
      · split <;> simp [hasBay_without, own]
  have every : ∀ j : Bay, j ∈ allBays := by decide
  rw [sleepReached, fold]
  simp [every]

theorem sleepReached_bays : KeepsBays s (sleepReached s) := by
  have bay (i : Bay) : (sleepReached s).bay.bays[i] =
      if s.bay.bays[i].state = .absent then s.bay.bays[i] else s.bay.bays[i].unpowered .off := by
    simp [baysOff]
  have state (i : Bay) : (sleepReached s).bay.bays[i].state =
      if s.bay.bays[i].state = .absent then .absent else .off := by
    rw [sleepReached_bay]
    exact (baysOff_bay s i).1
  have queue : (sleepReached s).bay.queue = [] := by rw [sleepReached_bay]; rfl
  refine .still (fun agree i => ⟨?_, ?_⟩) (fun _ => ⟨fun i => ?_, ?_⟩) (fun kept i => ?_) fun kept i => ?_
  · rw [bay]
    split
    · exact ((baysAgree_iff s).mp agree).1 i
    · exact .ofUnpowered .off _ (.inl rfl)
  · rw [state]
    split <;> nofun
  · rw [queue, state]
    split <;> simp
  · rw [queue]
    exact .nil
  · have settings : (sleepReached s).bay.bays[i].settings = s.bay.bays[i].settings := by
      rw [bay]
      split <;> rfl
    have budget : (sleepReached s).bay.budget = s.bay.budget := by rw [sleepReached_bay]; rfl
    rw [settings, budget]
    exact kept.1 i
  · rw [sleepReached_readySet, kept i, state]
    split <;> simp

theorem completeEntry_bays : KeepsBays s (completeEntry s) := by
  have done : KeepsBays s (entryDone s) :=
    .trans (t := { railOff s with pow.box := .sleep, pow.entryTimer := none }) .same sleepReached_bays
  rw [completeEntry_eq]
  split
  · exact done.trans startWake_bays
  · exact done

theorem wakeFault_bays : KeepsBays s (wakeFault s) := by
  have halted : KeepsBays s
      (haltWhere (fun _ => true) .wakeFault
        (flushHeld { s with pow.box := .sleep, pow.latch := true, pow.retryTimer := none })) :=
    .after (haltWhere_bays ..)
  exact (halted.quiet.trans sleepReached_bays).trans arbitrate_bays

theorem enterMinute_bays : KeepsBays s (enterMinute s) := by
  unfold enterMinute
  split
  · dsimp only
    split
    · exact .same
    · split
      · exact .same
      · exact KeepsBays.after (wakeEvent_bays .alarm 0)
  · exact .refl s

end
end Sys2Proof.Machine
end

section
/-! SUPPORT and proofs: every step keeps the bays agreed with their states, the spin budget and the READY set (O57): the
events. -/

namespace Sys2Proof.Machine

section
variable {s : State}

/-! ## Resets and time -/

theorem resetBays_cost (r : Retained) (presence activity : BaySet) (i : Bay) :
    (resetBays r presence activity).bays[i].settings.cost ≤ (resetBays r presence activity).budget := by
  obtain ⟨-, settings⟩ := resetBays_applied r presence activity
  rw [settings i]
  exact Nat.min_le_right _ _

/-- After a reset every bay is OFF or ABSENT and the READY set is empty (R92, R185). -/
theorem reset_bays {t : State} {presence activity : BaySet} (bay : t.bay = resetBays s.ret presence activity)
    (readySet : t.pac.readySet = 0) : KeepsBays s t := by
  have bays := resetBays_bay s.ret presence activity
  have down (i : Bay) : t.bay.bays[i].state ≠ .queued ∧ t.bay.bays[i].state ≠ .spinning ∧
      t.bay.bays[i].state ≠ .ready := by
    rw [bay, (bays i).1]
    split <;> decide
  refine .still (fun _ i => ⟨?_, (down i).2.1⟩) (fun _ => ⟨fun i => ?_, ?_⟩) (fun _ i => ?_) fun _ i => ?_
  · obtain ⟨-, pwr, -, spin, idle⟩ := bays i
    rw [← bay] at pwr spin idle
    obtain ⟨-, spinning, ready⟩ := down i
    exact ⟨by rw [pwr, decide_eq_false spinning, decide_eq_false ready]; rfl,
      by rw [spin, decide_eq_false spinning]; rfl, by rw [idle]; nofun⟩
  · have queue : t.bay.queue = [] := by rw [bay]; rfl
    rw [queue]
    exact iff_of_false List.not_mem_nil (down i).1
  · rw [bay]
    exact .nil
  · rw [bay]
    exact resetBays_cost ..
  · obtain ⟨-, -, ready⟩ := down i
    rw [readySet, hasBay_zero, decide_eq_false ready]

theorem beforeClock_bays : KeepsBays s (beforeClock s) := by
  have running (timer : Option Nat) : (runDown timer).isSome = timer.isSome := Option.isSome_map
  refine .steady (fun i => ?_) rfl rfl rfl
  have ticked : (beforeClock s).bay.bays[i] =
      { s.bay.bays[i] with
        spinTimer := runDown s.bay.bays[i].spinTimer, idleTimer := runDown s.bay.bays[i].idleTimer } := by
    simp [beforeClock, tickTimers]
  rw [ticked]
  exact ⟨rfl, rfl, rfl, running _, fun runs => .inl ((running _).symm.trans runs)⟩

theorem tickClock_bays : KeepsBays s (tickClock s) := by
  obtain ⟨-, eq⟩ | ⟨-, -, eq⟩ | ⟨-, -, eq, -⟩ := tickClock_cases s <;> rw [eq]
  · exact .refl s
  · exact .same
  · exact enterMinute_bays.quiet

theorem idle_bays : KeepsBays s (idle s) := by
  unfold idle
  split
  · exact reset_bays rfl rfl
  · unfold tick
    dsimp only
    split
    · exact .after (s := s) (.trans beforeClock_bays tickClock_bays)
    · exact .same

/-! ## A LAN frame -/

theorem dispatch_bays (f : FrameInHand) (m : MatchResult) : KeepsBays s (dispatch f m s) := by
  unfold dispatch
  cases m.action with
  | pass => exact .same
  | share =>
    dsimp only
    split
    · exact .after (demand_bays m.bays)
    · exact .same
  | backup profile =>
    dsimp only
    split <;> exact .same
  | proxy answer =>
    dsimp only
    split <;> exact .same
  | drop => exact .refl s

theorem eitherOrder_bays {f g : State → State} (first : ∀ t, KeepsBays t (f t)) (second : ∀ t, KeepsBays t (g t)) :
    KeepsBays s (inEitherOrder f g s) :=
  inEitherOrder_keeps (P := KeepsBays s) (fun _ _ kept => kept.quiet) (fun t kept => kept.trans (first t))
    (fun t kept => kept.trans (second t)) (.refl s)

theorem raiseWakes_bays (box : BoxState) (k : FrameKey) (m : MatchResult) : KeepsBays s (raiseWakes box k m s) := by
  unfold raiseWakes
  dsimp only
  split
  · split
    · exact eitherOrder_bays (fun _ => wakeEvent_bays ..) fun _ => wakeEvent_bays ..
    · exact (wakeEvent_bays ..).trans (wakeEvent_bays ..)
  · split
    · exact wakeEvent_bays ..
    · split
      · exact wakeEvent_bays ..
      · exact .refl s

theorem classifyFrame_bays (frame : List Byte) : KeepsBays s (classifyFrame frame s) := by
  have dispatched (c : Classifier) (f : FrameInHand) (m : MatchResult) :
      KeepsBays s (dispatch f m { s with cls := c }) := .after (dispatch_bays f m)
  unfold classifyFrame
  exact (dispatched _ _ _).trans (raiseWakes_bays ..)

/-! ## The bays themselves -/

theorem presenceReport_bays (edge : PresenceEdge) : KeepsBays s (presenceReport edge s) := by
  obtain eq | eq | eq := presenceReport_cases edge s <;> rw [eq]
  · exact .refl s
  · exact .same
  · exact .after startWake_bays

theorem reported_bays {edge : PresenceEdge} {other : State → State} (needed : Nat)
    (following : ∀ t, KeepsBays t (other t)) : KeepsBays s (reported edge other needed s) :=
  reported_keeps (P := KeepsBays s) (fun _ _ kept => kept.quiet) (fun _ kept => kept.trans (presenceReport_bays edge))
    (fun t kept => kept.trans (following t)) (.refl s)

theorem bayLost_bays (i : Bay) : KeepsBays s (bayLost i s) :=
  (haltWhere_bays ..).trans arbitrate_bays

/-- A drive inserted in an ABSENT bay: the bay is OFF (R93). -/
theorem inserted_bays {i : Bay} (absent : s.bay.bays[i].state = .absent) :
    KeepsBays s (onBay i (fun b => { b with state := .off, present := true }) s) := by
  refine .change (i := i) (f := fun b => { b with state := .off, present := true }) rfl rfl rfl (fun agree => ?_)
    (fun agree => ?_) (Nat.zero_le _) fun _ kept j => readySet_unready .off kept (by rw [absent]; nofun) nofun j
  · obtain ⟨pwr, spin, idle⟩ := ((baysAgree_iff s).mp agree).1 i
    rw [absent] at pwr spin idle
    exact ⟨pwr, spin, fun runs => nomatch idle runs⟩
  · obtain ⟨-, -, -, queued, distinct⟩ := agree
    refine ⟨fun j => ?_, distinct⟩
    have unqueued : i ∉ s.bay.queue := fun member => nomatch absent.symm.trans ((queued i).mp member)
    simpa using mem_queue_other unqueued j

/-- A bay that leaves a state without power (R94, R108). -/
theorem takeDown_bays {i : Bay} {target : BayState} (off : target = .off ∨ target = .absent) :
    KeepsBays s (takeDown i target s) := by
  unfold takeDown
  dsimp only
  cases left : s.bay.bays[i].state with
  | queued =>
    have gone : KeepsBays s { onBay i (BayRecord.unpowered target) s with bay.queue := s.bay.queue.filter (· ≠ i) } :=
      .unpowered (i := i) off rfl rfl (.inl rfl) (.inr ⟨by rw [left]; nofun, rfl⟩)
    dsimp only
    split
    · exact gone.trans tryHead_bays
    · exact gone
  | spinning =>
    refine .trans (t := onBay i (BayRecord.unpowered target) s) ?_ tryHead_bays
    exact .unpowered (i := i) off rfl rfl (.inr ⟨by rw [left]; nofun, rfl⟩) (.inr ⟨by rw [left]; nofun, rfl⟩)
  | ready => exact .unpowered (i := i) off rfl rfl (.inr ⟨by rw [left]; nofun, rfl⟩) (.inl rfl)
  | off | absent =>
    exact .unpowered (i := i) off rfl rfl (.inr ⟨by rw [left]; nofun, rfl⟩) (.inr ⟨by rw [left]; nofun, rfl⟩)

/-- The end of the spin interval: the bay is READY and joins the READY set (R101, R148). -/
theorem spun_bays {i : Bay} (idleTimer : BayRecord → Option Nat) (spinning : s.bay.bays[i].state = .spinning) :
    KeepsBays s
      (reportReady i (onBay i (fun b => { b with state := .ready, spinTimer := none, idleTimer := idleTimer b }) s)) := by
  refine .change (i := i) (f := fun b => { b with state := .ready, spinTimer := none, idleTimer := idleTimer b }) rfl rfl
    rfl (fun agree => ?_) (fun agree => ?_) (Nat.zero_le _) fun _ _ j => ?_
  · obtain ⟨pwr, -, -⟩ := ((baysAgree_iff s).mp agree).1 i
    rw [spinning] at pwr
    exact ⟨pwr, rfl, fun _ => rfl⟩
  · obtain ⟨-, -, -, queued, distinct⟩ := agree
    refine ⟨fun j => ?_, distinct⟩
    have unqueued : i ∉ s.bay.queue := fun member => nomatch spinning.symm.trans ((queued i).mp member)
    simpa using mem_queue_other unqueued j
  · rw [reportReady_pac_readySet, hasBay_or, hasBay_oneBay]
    split <;> simp_all

/-! ## Sessions -/

theorem takeHandover_bays (message : Option MsgKind) {act : Handover → State → State}
    (acting : ∀ h t, KeepsBays t (act h t)) : KeepsBays s (takeHandover message act s) := by
  unfold takeHandover
  split
  · exact .refl s
  · split
    · exact .after (acting _ _)
    · exact .refl s

theorem takeOffer_bays (h : Handover) : KeepsBays s (takeOffer h s) := by
  have declined (reason : DeclineReason) : KeepsBays s (declineOffer h reason s) :=
    .same (by simp) (queueMsg_readySet _ _)
  unfold takeOffer
  split
  · exact declined _
  · split
    · exact declined _
    · split
      · exact declined _
      · split
        · split
          · exact .same
          · exact declined _
        · split
          · exact declined _
          · exact startSession_bays ..

theorem takeBlock_bays (h : Handover) : KeepsBays s (takeBlock h s) := by
  refine .same (by simp) ?_
  unfold takeBlock
  split
  · rfl
  · split
    · split
      · exact startDelivery_readySet _
      · rfl
    · rfl

theorem takeWithdraw_bays (h : Handover) : KeepsBays s (takeWithdraw h s) := by
  unfold takeWithdraw
  split
  · exact .same
  · split
    · exact (haltSession_bays ..).trans arbitrate_bays
    · split <;> exact .same

theorem haltIf_bays (cond : State → Session → Bool) (slot : Slot) (cause : HaltCause) :
    KeepsBays s (haltIf cond slot cause s) := by
  unfold haltIf
  split
  · split
    · exact (haltSession_bays ..).trans arbitrate_bays
    · exact .refl s
  · exact .refl s

theorem expireGrant_bays (i : Slot) (x : Session) (g : Grant) : KeepsBays s (expireGrant i x g s) := by
  have expired : KeepsBays s
      (onSlot i (fun r => { r with session := some (x.expired g.seq) }) (setStage g.stage .free s)) := .same
  unfold expireGrant
  dsimp only
  split
  · exact (expired.trans (haltSession_bays ..)).trans arbitrate_bays
  · exact expired.trans arbitrate_bays

theorem reportSent_bays (sent : HostSending) : KeepsBays s (reportSent sent s) := by
  cases sent with
  | response wire | direct wire => exact .refl s
  | held wire => exact .same (heldSent_bay s) (by simp [reportSent])
  | deliver wire => exact deliverySent_bays

end

end Sys2Proof.Machine
end

section
/-! SUPPORT and proofs: every step keeps the bays agreed with their states, the spin budget and the READY set (O57): the
requests and the step. -/

namespace Sys2Proof.Machine

section
variable {s : State}

/-! ## Taking a request -/

theorem takeRequest_bays {kind : ReqKind} {act : Request → List Byte → State → Reply} {after : State → State}
    (acting : ∀ r p t, KeepsBays t (act r p t).state) (following : ∀ t, KeepsBays t (after t)) :
    KeepsBays s (takeRequest kind act after s) :=
  takeRequest_keeps (P := KeepsBays s) (fun _ _ _ kept => kept.quiet rfl rfl) (fun _ _ _ _ kept => kept.quiet)
    (fun r p t _ kept => kept.trans (acting r p t)) (fun t kept => kept.trans (following t)) (.refl s)

theorem takePlain_bays {kind : ReqKind} {act : List Byte → State → Reply}
    (acting : ∀ p t, KeepsBays t (act p t).state) : KeepsBays s (takePlain kind act s) :=
  takeRequest_bays (fun _ p t => acting p t) .refl

theorem takeUnknown_bays : KeepsBays s (takeUnknown s) := by
  unfold takeUnknown
  split
  · exact .refl s
  · split
    · exact .refl s
    · split
      · exact .refl s
      · split
        · exact .same (respond_bay ..) (by rw [respond_pac]; rfl)
        · exact .same rfl rfl

theorem discardShort_bays : KeepsBays s (discardShort s) := by
  unfold discardShort
  split
  · exact .refl s
  · split
    · exact .same
    · exact .refl s

/-! ## The rules of the kinds that leave the bays -/

section
variable (p : List Byte)

theorem actLoadFlows_bays : KeepsBays s (actLoadFlows p s).state := by
  unfold actLoadFlows
  dsimp only
  split
  · split <;> exact .same rfl rfl
  · exact .refl s

theorem actContinueFlows_bays : KeepsBays s (actContinueFlows p s).state := by
  unfold actContinueFlows
  split <;> exact .same rfl rfl

theorem actReadFlow_bays : KeepsBays s (actReadFlow p s).state := by
  unfold actReadFlow
  dsimp only
  repeat' split
  all_goals exact .same rfl rfl

theorem actReadFlowStatus_bays : KeepsBays s (actReadFlowStatus p s).state := by
  unfold actReadFlowStatus
  split <;> exact .same rfl rfl

theorem actSetDefaultAction_bays : KeepsBays s (actSetDefaultAction p s).state := by
  unfold actSetDefaultAction
  split <;> exact .same rfl rfl

theorem actSetPartition_bays : KeepsBays s (actSetPartition p s).state := by
  unfold actSetPartition
  dsimp only
  repeat' split
  all_goals exact .same rfl rfl

theorem actLoadAnswer_bays : KeepsBays s (actLoadAnswer p s).state := by
  unfold actLoadAnswer
  dsimp only
  repeat' split
  all_goals exact .same rfl rfl

theorem actClearAnswer_bays : KeepsBays s (actClearAnswer p s).state := by
  unfold actClearAnswer
  split <;> exact .same rfl rfl

theorem actReadAnswer_bays : KeepsBays s (actReadAnswer p s).state := by
  unfold actReadAnswer
  dsimp only [Reply.ok]
  repeat' split
  all_goals exact .same rfl rfl

theorem actSleep_bays : KeepsBays s (actSleep p s).state := by
  unfold actSleep
  split <;> exact .same rfl rfl

theorem actHeartbeat_bays : KeepsBays s (actHeartbeat p s).state := by
  dsimp only [actHeartbeat, Reply.ok]
  split <;> exact .same rfl rfl

theorem actSetWake_bays : KeepsBays s (actSetWake p s).state := by
  unfold actSetWake
  split
  · split <;> exact .same rfl rfl
  · exact .refl s

theorem actReadHold_bays : KeepsBays s (actReadHold p s).state := by
  dsimp only [actReadHold, Reply.ok]
  split <;> exact .same rfl rfl

theorem actSetProfile_bays : KeepsBays s (actSetProfile p s).state := by
  unfold actSetProfile
  repeat' split
  all_goals exact .same rfl rfl

theorem actReadSession_bays : KeepsBays s (actReadSession p s).state := by
  unfold actReadSession
  dsimp only [Reply.ok]
  repeat' split
  all_goals exact .same rfl rfl

theorem actSetNotices_bays (r : Request) : KeepsBays s (actSetNotices r p s).state := by
  unfold actSetNotices
  split <;> exact .same rfl rfl

theorem actProgramRetained_bays (r : Request) : KeepsBays s (actProgramRetained r p s).state := by
  unfold actProgramRetained
  repeat' split
  all_goals exact .same rfl rfl

theorem actReadRetained_bays : KeepsBays s (actReadRetained p s).state := by
  unfold actReadRetained
  split <;> exact .same rfl rfl

/-! ## The rules of the kinds about bays and sessions -/

theorem actSpinUp_bays : KeepsBays s (actSpinUp p s).state := by
  unfold actSpinUp
  split
  · exact .refl s
  · exact demand_bays _

theorem actSpinDown_bays : KeepsBays s (actSpinDown p s).state := by
  unfold actSpinDown
  dsimp only
  split
  · split
    · exact .refl s
    · split
      · exact .refl s
      · exact takeDown_bays (.inl rfl)
  · exact .refl s

/-- With no bay QUEUED or SPINNING the settings are stored within the new budget (R91, R109). -/
theorem actSetBays_bays : KeepsBays s (actSetBays p s).state := by
  unfold actSetBays
  split
  · exact .refl s
  · split
    · exact .refl s
    · rename_i idle
      have every : ∀ i : Bay, i ∈ allBays := by decide
      have notSpinning (i : Bay) : s.bay.bays[i].state ≠ .spinning := fun spinning => idle
        (List.any_eq_true.mpr ⟨i, every i, by simp only [spinning]; rfl⟩)
      refine .still (fun agree i => ?_) (fun agree => ?_) (fun _ i => ?_) fun kept i => ?_
      · obtain ⟨pwr, spin, timer⟩ := ((baysAgree_iff s).mp agree).1 i
        simp only [Reply.ok, Fin.getElem_fin, Vector.getElem_ofFn]
        refine ⟨⟨pwr, spin, fun runs => ?_⟩, notSpinning i⟩
        dsimp only [BayRecord.idleAfter] at runs ⊢
        split at runs
        · nomatch runs
        · split at runs
          · rename_i starts
            exact starts.2.1
          · exact timer runs
      · obtain ⟨-, -, -, queued, distinct⟩ := agree
        refine ⟨fun i => ?_, distinct⟩
        simpa [Reply.ok] using queued i
      · simp only [Reply.ok, Fin.getElem_fin, Vector.getElem_ofFn, parseBays]
        exact Nat.min_le_right _ _
      · simpa [Reply.ok] using kept i

theorem actHaltSession_bays : KeepsBays s (actHaltSession p s).state := by
  unfold actHaltSession
  dsimp only
  split
  · split
    · exact .refl s
    · split
      · exact (haltSession_bays ..).trans arbitrate_bays
      · exact .refl s
  · exact .refl s

end

theorem runReached_bays : KeepsBays s (runReached s) := by
  refine .same (by simp) ?_
  rw [runReached_eq, startDelivery_readySet, releaseAndNotify_pac]
  unfold awake
  dsimp only
  split <;> rfl

/-! ## The commands -/

theorem KeepsBays.of_next {t u : State} (h : KeepsBays s t)
    (next : (Host.Outcome.next t : Host.Outcome State Fault Refusal) = .next u) : KeepsBays s u := by
  cases next
  exact h

/-- Every command keeps the conditions on the bays. -/
theorem exec_bays {c : Instr} {t : State} (next : exec c s = .next t) : KeepsBays s t := by
  cases c with
  | powerOn presence activity => exact (reset_bays rfl rfl).of_next next
  | panelReset presence activity ms => exact (reset_bays rfl rfl).of_next next
  | lanFrameTaken frame =>
    refine KeepsBays.of_next ?_ next
    split
    · exact classifyFrame_bays frame
    · exact .refl s
  | questionTaken =>
    refine KeepsBays.of_next ?_ next
    split
    · exact .refl s
    · exact .same (by simp) (congrArg Core.readySet (core_answerQuestion _))
  | holdoffExpiry record =>
    refine KeepsBays.of_next ?_ next
    split
    · exact .same
    · exact .refl s
  | offer => exact (takeHandover_bays _ fun h _ => takeOffer_bays h).of_next next
  | block => exact (takeHandover_bays _ fun h _ => takeBlock_bays h).of_next next
  | withdraw => exact (takeHandover_bays _ fun h _ => takeWithdraw_bays h).of_next next
  | pacingFrameMalformed =>
    exact (takeHandover_bays none (act := fun _ t => protocolError t) fun _ _ => .same).of_next next
  | grantIssue => exact arbitrate_bays.of_next next
  | seqExhausted slot => exact (haltIf_bays ..).of_next next
  | grantExpiry slot seq =>
    refine KeepsBays.of_next ?_ next
    split
    · exact .refl s
    · split
      · split
        · exact expireGrant_bays ..
        · exact .refl s
      · exact .refl s
  | stallExpiry slot => exact (haltIf_bays ..).of_next next
  | shareWindowExpiry =>
    refine KeepsBays.of_next ?_ next
    split
    · exact .same
    · exact .refl s
  | recordStale position =>
    refine KeepsBays.of_next ?_ next
    exact .same rfl rfl
  | hostDownAsserted =>
    refine KeepsBays.of_next ?_ next
    split
    · exact completeEntry_bays
    · exact .refl s
  | entryDeadlineExpiry =>
    refine KeepsBays.of_next ?_ next
    split
    · exact .after completeEntry_bays
    · exact .refl s
  | stabilizationExpiry =>
    refine KeepsBays.of_next ?_ next
    split
    · exact .same
    · exact .refl s
  | bootDeadlineExpiry =>
    refine KeepsBays.of_next ?_ next
    split
    · exact .same (by simp) (railOff_readySet s)
    · exact .refl s
  | retryOffExpiry =>
    refine KeepsBays.of_next ?_ next
    split
    · split
      · exact .same
      · split
        · exact wakeFault_bays
        · exact .refl s
    · exact .refl s
  | heartbeatLapse =>
    refine KeepsBays.of_next ?_ next
    split
    · exact .same (by simp) (railOff_readySet (leaveRun s))
    · exact .refl s
  | buttonEvent edge =>
    refine KeepsBays.of_next ?_ next
    split
    · split
      · exact .same
      · exact wakeEvent_bays ..
    · exact .refl s
  | minuteEntered =>
    refine KeepsBays.of_next ?_ next
    split
    · exact enterMinute_bays
    · exact .refl s
  | bayInsertion bay =>
    refine KeepsBays.of_next ?_ next
    split
    · rename_i absent
      exact (inserted_bays absent.1).quiet.trans (reported_bays s.bay.bays[bay].needed fun _ => demand_bays _)
    · exact .refl s
  | bayRemoval bay =>
    refine KeepsBays.of_next ?_ next
    dsimp only
    split
    · exact .refl s
    · have withdrawing : KeepsBays s (withdrawn bay (takeDown bay .absent s)) :=
        (takeDown_bays (.inr rfl)).trans (onBay_steady ⟨rfl, rfl, rfl, rfl, .inl⟩)
      have raised : KeepsBays s (raise .bayChange (.bayChange bay .remove s.bay.bays[bay].state)
          (withdrawn bay (takeDown bay .absent s))) := withdrawing.quiet
      exact raised.trans (reported_bays s.bay.bays[bay].needed fun _ => bayLost_bays bay)
  | spinExpiry bay =>
    refine KeepsBays.of_next ?_ next
    split
    · rename_i expired
      exact (spun_bays _ expired.1).trans tryHead_bays
    · exact .refl s
  | idleExpiry bay =>
    refine KeepsBays.of_next ?_ next
    split
    · rename_i expired
      exact .unpowered (i := bay) (.inl rfl) rfl rfl (.inr ⟨by rw [expired.1]; nofun, rfl⟩) (.inl rfl)
    · exact .refl s
  | activityEdge bay edge =>
    refine KeepsBays.of_next ?_ next
    split
    · refine onBay_steady ⟨rfl, rfl, rfl, rfl, fun runs => ?_⟩
      dsimp only at runs
      split at runs
      · rename_i restarts
        exact .inr restarts.1
      · exact .inl runs
    · exact .refl s
  | lanLinkDown =>
    refine KeepsBays.of_next ?_ next
    split
    · have halted : KeepsBays s
          (haltWhere (fun _ => true) .linkDown
            { s with
              lan.up := false, lan.sending := none, lan.hostFrames := [], pac.queue := [], ans.answers := [],
              ans.sending := none }) := .after (haltWhere_bays ..)
      exact halted.quiet
    · exact .refl s
  | lanLinkUp =>
    refine KeepsBays.of_next ?_ next
    split
    · exact .refl s
    · exact .same
  | lanFrameSent =>
    refine KeepsBays.of_next ?_ next
    split
    · exact .refl s
    all_goals exact .same
  | hostFrameReceived frame =>
    refine KeepsBays.of_next ?_ next
    dsimp only
    split
    · split
      · split
        · exact .same
        · exact .refl s
      · exact .same (forwardToLan_bay ..) (congrArg Core.readySet (core_forwardToLan _))
    · exact .refl s
  | hPortUp =>
    refine KeepsBays.of_next ?_ next
    split
    · have up : KeepsBays s (hostKick (raise .linkChange (.linkChange .host true) { s with host.up := true })) := .same
      dsimp only
      split
      · exact inAnyOrder_keeps (P := KeepsBays s) (fun _ _ kept => kept.quiet) (fun _ kept => kept.quiet)
          (fun _ kept => kept.quiet) (fun _ kept => kept.quiet) up
      · exact up
    · exact .refl s
  | hPortDown => exact (KeepsBays.same (portDown_bay s) (portDown_readySet s)).of_next next
  | hostLinkFrameSent =>
    refine KeepsBays.of_next ?_ next
    split
    · exact .refl s
    · rename_i f _
      have sent : KeepsBays s (reportSent f { s with host.sending := none }) := .after (reportSent_bays f)
      dsimp only
      split <;> exact sent.quiet
  | noticeBuild => exact (KeepsBays.same (buildNotices_bay s) (by simp)).of_next next
  | programmingComplete =>
    refine KeepsBays.of_next ?_ next
    split
    · exact .refl s
    · dsimp only
      split <;> exact .same
  | programResponseBuilt =>
    refine KeepsBays.of_next ?_ next
    split
    · exact .refl s
    · split
      · exact .same
      · exact .refl s
  | unknownRequest => exact takeUnknown_bays.of_next next
  | mgmtFrameTooShort => exact discardShort_bays.of_next next
  | loadFlows => exact (takePlain_bays fun p _ => actLoadFlows_bays p).of_next next
  | continueFlows => exact (takePlain_bays fun p _ => actContinueFlows_bays p).of_next next
  | readFlow => exact (takePlain_bays fun p _ => actReadFlow_bays p).of_next next
  | readFlowStatus => exact (takePlain_bays fun p _ => actReadFlowStatus_bays p).of_next next
  | setDefaultAction => exact (takePlain_bays fun p _ => actSetDefaultAction_bays p).of_next next
  | setPartition => exact (takePlain_bays fun p _ => actSetPartition_bays p).of_next next
  | loadAnswer => exact (takePlain_bays fun p _ => actLoadAnswer_bays p).of_next next
  | clearAnswer => exact (takePlain_bays fun p _ => actClearAnswer_bays p).of_next next
  | readAnswer => exact (takePlain_bays fun p _ => actReadAnswer_bays p).of_next next
  | sleep => exact (takePlain_bays fun p _ => actSleep_bays p).of_next next
  | heartbeat => exact (takePlain_bays fun p _ => actHeartbeat_bays p).of_next next
  | setWake => exact (takePlain_bays fun p _ => actSetWake_bays p).of_next next
  | readHold => exact (takePlain_bays fun p _ => actReadHold_bays p).of_next next
  | spinUp => exact (takePlain_bays fun p _ => actSpinUp_bays p).of_next next
  | spinDown => exact (takePlain_bays fun p _ => actSpinDown_bays p).of_next next
  | setBays => exact (takePlain_bays fun p _ => actSetBays_bays p).of_next next
  | setProfile => exact (takePlain_bays fun p _ => actSetProfile_bays p).of_next next
  | readSession => exact (takePlain_bays fun p _ => actReadSession_bays p).of_next next
  | haltSession => exact (takePlain_bays fun p _ => actHaltSession_bays p).of_next next
  | readRetained => exact (takePlain_bays fun p _ => actReadRetained_bays p).of_next next
  | settleFlows | unsettleFlows | readPartition | readWake | setClock | setAlarms | setTiming | clearHold | readBays
  | setShare | readNotices =>
    exact (takePlain_bays fun _ _ => .same rfl rfl).of_next next
  | ready =>
    exact (takeRequest_bays (fun _ _ _ => .same rfl rfl) fun _ => runReached_bays).of_next next
  | setNotices => exact (takeRequest_bays (fun r p _ => actSetNotices_bays p r) fun _ => .same).of_next next
  | programRetained => exact (takeRequest_bays (fun r p _ => actProgramRetained_bays p r) .refl).of_next next

/-- Every step keeps the conditions on the bays. -/
theorem step_bays {t : State} (next : step s = .next t) : KeepsBays s t := by
  unfold step at next
  split at next
  · exact idle_bays.of_next next
  · exact .after (exec_bays next)

end

/-- Settles O57: every operation of the bay controller keeps the conditions, and nothing else changes the bays or the
READY set. -/
theorem stepsKeepTheSpinBudget : Obligations.StepsKeepTheSpinBudget := by
  refine ⟨fun s t kept next => ?_, fun s t kept next => ?_⟩
  · obtain ⟨agree, budget⟩ := kept
    exact ⟨(step_bays next).agrees agree, (step_bays next).budget agree budget⟩
  · obtain ⟨agree, ready⟩ := kept
    exact (step_bays next).ready agree ready

end Sys2Proof.Machine
end

section
/-! SUPPORT and proofs: a demand, and the trying of the head of the spin-up queue (O32). -/

namespace Sys2Proof.Machine

/-! ## The free budget -/

theorem foldl_costs (b : BayControl) (l : List Bay) (n : Nat) :
    l.foldl (fun n i => if b.bays[i].state = .spinning then n + b.bays[i].settings.cost else n) n =
      n + ((l.filter fun i => b.bays[i].state = .spinning).map fun i => b.bays[i].settings.cost).sum := by
  induction l generalizing n with
  | nil => rfl
  | cons i is ih =>
    rw [List.foldl_cons, ih]
    by_cases spinning : b.bays[i].state = .spinning
    · rw [if_pos spinning, List.filter_cons_of_pos (by simpa using spinning), List.map_cons, List.sum_cons,
        Nat.add_assoc]
    · rw [if_neg spinning, List.filter_cons_of_neg (by simpa using spinning)]

theorem spinningCost_sum (b : BayControl) : b.spinningCost =
    ((allBays.filter fun i => b.bays[i].state = .spinning).map fun i => b.bays[i].settings.cost).sum :=
  (foldl_costs b allBays 0).trans (Nat.zero_add _)

/-! ## Trying the head -/

section
variable {s : State}

theorem tryHead_empty (queue : s.bay.queue = []) : tryHead s = s := by
  rw [tryHead, queue]
  rfl

/-- A head that the free budget does not cover waits, and so does every bay behind it (R100). -/
theorem tryHead_waits {b : Bay} {rest : List Bay} (queue : s.bay.queue = b :: rest)
    (short : s.bay.freeBudget < s.bay.bays[b].settings.cost) : tryHead s = s := by
  rw [tryHead, queue, List.length_cons, tryHeads, queue]
  exact if_neg (Nat.not_le.mpr short)

/-- A head that the free budget covers is admitted, and the next head is tried (R100). -/
theorem tryHead_admits {b : Bay} {rest : List Bay} (queue : s.bay.queue = b :: rest)
    (covers : s.bay.bays[b].settings.cost ≤ s.bay.freeBudget) :
    tryHead s = tryHead (onBay b BayRecord.admitted { s with bay.queue := rest }) := by
  rw [tryHead, queue, List.length_cons, tryHeads, queue]
  exact if_pos covers

/-- With no room for any head, trying the head changes nothing. -/
theorem tryHead_full (full : ∀ i : Bay, s.bay.freeBudget < s.bay.bays[i].settings.cost) : tryHead s = s := by
  cases queue : s.bay.queue with
  | nil => exact tryHead_empty queue
  | cons b rest => exact tryHead_waits queue (full b)

end

/-! ## The effect on the bays -/

/-- The record of a demanded bay (R97). -/
def BayRecord.demanded (b : BayRecord) : BayRecord :=
  if b.state = .off then { b with state := .queued }
  else if b.state = .ready ∧ b.idleTimer ≠ none then { b with idleTimer := b.settings.idleStart }
  else b

theorem BayRecord.demanded_off {b : BayRecord} (off : b.state = .off) : b.demanded = { b with state := .queued } :=
  if_pos off

theorem BayRecord.demanded_ready {b : BayRecord} (ready : b.state = .ready) :
    b.demanded = { b with idleTimer := if b.idleTimer.isSome then b.settings.idleStart else none } := by
  obtain ⟨state, settings, spinTimer, idleTimer, needed, pwr, present, active⟩ := b
  obtain rfl : state = .ready := ready
  cases idleTimer <;> rfl

theorem BayRecord.demanded_other {b : BayRecord} (notOff : b.state ≠ .off) (notReady : b.state ≠ .ready) :
    b.demanded = b :=
  (if_neg notOff).trans (if_neg fun ready => notReady ready.1)

/-- A demand leaves the settings of a bay, and gives power to none (R97). -/
theorem BayRecord.demanded_spinCost (b : BayRecord) :
    b.demanded.settings = b.settings ∧ b.demanded.spinCost = b.spinCost := by
  unfold BayRecord.demanded BayRecord.spinCost
  split
  · rename_i off
    simp [off]
  · split
    · exact ⟨rfl, rfl⟩
    · exact ⟨rfl, rfl⟩

/-- The bays of a list that a demand names and that are OFF (R97). -/
def BayControl.joining (l : List Bay) (set : BaySet) (b : BayControl) : List Bay :=
  l.filter fun i => hasBay set i && decide (b.bays[i].state = .off)

/-- The bay controller once one bay has been demanded (R97). -/
def BayControl.demandedOne (i : Bay) (b : BayControl) : BayControl :=
  { b with
    bays := vecMod b.bays i BayRecord.demanded,
    queue := if b.bays[i].state = .off then b.queue ++ [i] else b.queue }

/-- The bay controller once the bays of a list that a demand names have been demanded (R97). -/
def BayControl.demanded (l : List Bay) (set : BaySet) (b : BayControl) : BayControl :=
  { b with
    bays := Vector.ofFn fun i => if i ∈ l ∧ hasBay set i = true then b.bays[i].demanded else b.bays[i],
    queue := b.queue ++ b.joining l set }

section
variable {b c : BayControl}

theorem BayControl.eq_of_fields (bays : ∀ i : Bay, b.bays[i] = c.bays[i]) (queue : b.queue = c.queue)
    (budget : b.budget = c.budget) : b = c := by
  have same : b.bays = c.bays := Vector.ext fun i hi => bays ⟨i, hi⟩
  cases b
  cases c
  simp_all

theorem BayControl.demanded_bay (l : List Bay) (set : BaySet) (b : BayControl) (i : Bay) :
    (b.demanded l set).bays[i] = if i ∈ l ∧ hasBay set i = true then b.bays[i].demanded else b.bays[i] :=
  Vector.getElem_ofFn ..

/-- One bay demanded, and then those of a list, are the bays of the longer list. -/
theorem BayControl.demanded_cons {i : Bay} {l : List Bay} {set : BaySet} (fresh : i ∉ l) (named : hasBay set i = true) :
    (b.demandedOne i).demanded l set = b.demanded (i :: l) set := by
  have others (j : Bay) (other : j ≠ i) : (b.demandedOne i).bays[j] = b.bays[j] := getElem_vecMod_ne _ _ _ _ other
  refine eq_of_fields (fun j => ?_) ?_ rfl
  · rw [demanded_bay, demanded_bay]
    by_cases own : j = i
    · subst own
      rw [if_neg fun member => fresh member.1, if_pos ⟨List.mem_cons_self, named⟩]
      simp [demandedOne]
    · rw [others j own]
      simp [own]
  · have joined : (b.demandedOne i).joining l set = b.joining l set :=
      List.filter_congr fun j member => by rw [others j fun same => fresh (same ▸ member)]
    have first : b.joining (i :: l) set = if b.bays[i].state = .off then i :: b.joining l set else b.joining l set := by
      rw [joining, List.filter_cons, named, Bool.true_and]
      simp only [decide_eq_true_eq]
      rfl
    have queue : (b.demandedOne i).queue = if b.bays[i].state = .off then b.queue ++ [i] else b.queue := rfl
    rw [demanded, demanded, joined, first, queue]
    split <;> simp

/-- A bay that the demand does not name is passed over. -/
theorem BayControl.demanded_skip {i : Bay} {l : List Bay} {set : BaySet} (unnamed : hasBay set i ≠ true) :
    b.demanded l set = b.demanded (i :: l) set := by
  refine eq_of_fields (fun j => ?_) ?_ rfl
  · rw [demanded_bay, demanded_bay]
    by_cases own : j = i
    · subst own
      rw [if_neg fun member => unnamed member.2, if_neg fun member => unnamed member.2]
    · simp [own]
  · simp [demanded, joining, unnamed]

end

section
variable {s : State}

theorem vecMod_congr {α : Type} {n : Nat} {v : Vector α n} {i : Fin n} (f g : α → α) (h : f v[i] = g v[i]) :
    vecMod v i f = vecMod v i g := by
  rw [vecMod, h, vecMod]

theorem vecMod_same {α : Type} {n : Nat} {v : Vector α n} {i : Fin n} {f : α → α} (h : f v[i] = v[i]) :
    vecMod v i f = v := by
  rw [vecMod, h]
  exact Vector.set_getElem_self _

/-- The effect of a demand on one bay, in one form for every state of the bay (R97). -/
theorem demandBay_eq (i : Bay) (s : State) : demandBay i s = { s with bay := s.bay.demandedOne i } := by
  unfold demandBay BayControl.demandedOne
  split
  · rename_i off
    rw [if_pos off, vecMod_congr BayRecord.demanded (fun b => { b with state := .queued }) (BayRecord.demanded_off off)]
    rfl
  · rename_i ready
    rw [if_neg (by rw [ready]; nofun), vecMod_congr BayRecord.demanded
      (fun b => { b with idleTimer := if b.idleTimer.isSome then b.settings.idleStart else none })
      (BayRecord.demanded_ready ready)]
    rfl
  · rename_i notOff notReady
    rw [if_neg notOff, vecMod_same (BayRecord.demanded_other notOff notReady)]

/-- The bays of a list demanded one after another. -/
theorem foldl_demandBay (set : BaySet) (l : List Bay) (distinct : l.Nodup) (s : State) :
    l.foldl (fun t i => if hasBay set i then demandBay i t else t) s = { s with bay := s.bay.demanded l set } := by
  induction l generalizing s with
  | nil => simp [BayControl.demanded, BayControl.joining]
  | cons b bs ih =>
    obtain ⟨fresh, distinct⟩ := List.nodup_cons.mp distinct
    rw [List.foldl_cons, ih distinct]
    by_cases named : hasBay set b = true
    · rw [if_pos named, demandBay_eq, ← BayControl.demanded_cons fresh named]
    · rw [if_neg named, ← BayControl.demanded_skip named]

/-- A demand: its bays, then the head (R97). -/
theorem demand_eq {set : BaySet} (nonempty : set ≠ 0) :
    demand set s = tryHead { s with bay := s.bay.demanded allBays set } := by
  rw [demand, if_neg nonempty, foldl_demandBay set allBays (by decide)]

theorem mem_allBays (i : Bay) : i ∈ allBays := by
  revert i
  decide

/-- A demanded bay and one that is not, as the rule has them (R97). -/
theorem demanded_allBays (set : BaySet) (b : BayControl) (i : Bay) : (b.demanded allBays set).bays[i] =
    if hasBay set i = true ∧ b.bays[i].state = .off then { b.bays[i] with state := .queued }
    else if hasBay set i = true ∧ b.bays[i].state = .ready ∧ b.bays[i].idleTimer ≠ none then
      { b.bays[i] with
        idleTimer := if b.bays[i].settings.idle = 0 then none else some (b.bays[i].settings.idle * 60000) }
    else b.bays[i] := by
  rw [BayControl.demanded_bay]
  by_cases named : hasBay set i = true
  · rw [if_pos ⟨mem_allBays i, named⟩]
    simp only [named, true_and]
    rfl
  · simp [named]

/-- A demand leaves the costs and the free budget (R90, R97). -/
theorem demanded_freeBudget (set : BaySet) (b : BayControl) :
    (b.demanded allBays set).freeBudget = b.freeBudget ∧
      ∀ i : Bay, (b.demanded allBays set).bays[i].settings = b.bays[i].settings := by
  have each (i : Bay) : (b.demanded allBays set).bays[i].settings = b.bays[i].settings ∧
      (b.demanded allBays set).bays[i].spinCost = b.bays[i].spinCost := by
    rw [BayControl.demanded_bay]
    split
    · exact BayRecord.demanded_spinCost _
    · exact ⟨rfl, rfl⟩
  refine ⟨?_, fun i => (each i).1⟩
  rw [BayControl.freeBudget, BayControl.freeBudget, spinningCost_eq, spinningCost_eq]
  simp only [(each _).2]
  rfl

/-- With no room for any head a demand only queues its OFF bays and restarts idle timers (R97, R100). -/
theorem demand_full {set : BaySet} (full : ∀ i : Bay, s.bay.freeBudget < s.bay.bays[i].settings.cost) :
    demand set s = { s with bay := s.bay.demanded allBays set } := by
  by_cases empty : set = 0
  · subst empty
    have nobody : s.bay.joining allBays 0 = [] := List.filter_eq_nil_iff.mpr fun i _ => by rw [hasBay_zero]; nofun
    have same : s.bay.demanded allBays 0 = s.bay :=
      BayControl.eq_of_fields (fun i => by rw [BayControl.demanded_bay, hasBay_zero]; simp)
        (by rw [BayControl.demanded, nobody, List.append_nil]) rfl
    rw [demand, if_pos rfl, same]
  · rw [demand_eq empty]
    obtain ⟨free, settings⟩ := demanded_freeBudget set s.bay
    refine tryHead_full fun i => ?_
    dsimp only
    rw [free, settings]
    exact full i

end

/-- Settles O32: a demand goes bay by bay over the set in ascending order, and then over the spin-up queue. -/
theorem demandsQueueAndTheHeadIsTried : Obligations.DemandsQueueAndTheHeadIsTried := by
  refine ⟨fun b => ⟨rfl, spinningCost_sum b⟩, fun s => rfl, fun set s bays nonempty each => ?_, fun set s full => ?_,
    fun s => ⟨tryHead_empty, fun b rest queue => ⟨tryHead_waits queue, fun covers => tryHead_admits queue covers⟩⟩⟩
  · rw [demand_eq nonempty]
    congr 2
    exact BayControl.eq_of_fields (fun i => (demanded_allBays set s.bay i).trans (each i).symm) rfl rfl
  · rw [demand_full full]
    exact ⟨rfl, rfl, rfl, demanded_allBays set s.bay⟩

end Sys2Proof.Machine
end

section
/-! SUPPORT and proofs: the timers and the activity lines of the bays (O34), SPIN_UP and SPIN_DOWN (O35). -/

namespace Sys2Proof.Machine

/-! ## Timers and activity -/

theorem idleStart_unneeded (b : BayRecord) :
    (if b.needed = 0 then b.settings.idleStart else none) =
      if b.needed = 0 ∧ b.settings.idle ≠ 0 then some (b.settings.idle * 60000) else none := by
  unfold BaySettings.idleStart
  by_cases unneeded : b.needed = 0 <;> by_cases never : b.settings.idle = 0 <;> simp [unneeded, never]

theorem ActivityEdge.selects_iff (setting : ActivityEdge) (edge : LineEdge) : setting.selects edge = true ↔
    setting = .both ∨ (setting = .rising ∧ edge = .rising) ∨ (setting = .falling ∧ edge = .falling) := by
  cases setting <;> cases edge <;> decide

section
variable {s : State} {i : Bay}

theorem fallSessions_slot (p : Session → Bool) (s : State) (j : Slot) : (fallSessions p s).pac.slots[j] =
    { s.pac.slots[j] with session := s.pac.slots[j].session.map fun x => if p x then x.fallen else x } := by
  simp [fallSessions]

/-- The end of the spin interval (R101). -/
theorem execSpinExpiry_ready (spinning : s.bay.bays[i].state = .spinning) (expired : s.bay.bays[i].spinTimer = some 0) :
    exec (.spinExpiry i) s =
      .next
        (tryHead
          { s with
            pac.readySet := s.pac.readySet ||| oneBay i,
            bay.bays := vecMod s.bay.bays i fun b =>
              { b with
                state := .ready, spinTimer := none,
                idleTimer :=
                  if b.needed = 0 ∧ b.settings.idle ≠ 0 then some (b.settings.idle * 60000) else none } }) := by
  refine congrArg Host.Outcome.next ((if_pos ⟨spinning, expired⟩).trans (congrArg tryHead ?_))
  simp only [idleStart_unneeded]
  rfl

/-- An activity edge outside a reset (R104). -/
theorem execActivityEdge_taken (edge : LineEdge) (free : s.pow.held = none) :
    exec (.activityEdge i edge) s =
      .next
        { s with
          bay.bays := vecMod s.bay.bays i fun b =>
            { b with
              active := decide (edge = .rising),
              idleTimer :=
                if b.state = .ready ∧ b.idleTimer ≠ none ∧
                    (b.settings.edge = .both ∨ (b.settings.edge = .rising ∧ edge = .rising) ∨
                      (b.settings.edge = .falling ∧ edge = .falling)) then
                  (if b.settings.idle = 0 then none else some (b.settings.idle * 60000))
                else b.idleTimer } } := by
  refine congrArg Host.Outcome.next ((if_pos free).trans ?_)
  simp only [ActivityEdge.selects_iff, Option.isSome_iff_ne_none]
  rfl

end

/-- Settles O34. -/
theorem bayTimersAndActivity : Obligations.BayTimersAndActivity := by
  refine ⟨fun i s => execSpinExpiry_ready, fun i s => ⟨fun other => ?_, fun other => ?_⟩,
    fun i s ready expired => ⟨(fallSessions (fun x => hasBay x.bays i) s).pac.slots, ?_, fallSessions_slot _ s⟩,
    fun i edge s => ⟨fun held => ?_, execActivityEdge_taken edge⟩⟩
  · exact congrArg Host.Outcome.next (if_neg (by tauto))
  · exact congrArg Host.Outcome.next (if_neg (by tauto))
  · exact congrArg Host.Outcome.next (if_pos ⟨ready, expired⟩)
  · exact congrArg Host.Outcome.next (if_neg held)

/-! ## SPIN_UP -/

theorem exec_spinUp_refused {s : State} {r : Request} {p : List Byte} {rest : List (List Byte)}
    (taken : Taken s .spinUp r p rest) (high : 15 < natAt p 0 1) :
    exec .spinUp s = .next (respond r .badArgument [] (dequeue r rest s)) := by
  refine congrArg Host.Outcome.next (takePlain_refuse (act := actSpinUp) taken (by decide) ?_)
  rw [natAt_one] at high
  rw [actSpinUp, strictBays, if_neg (by omega)]

theorem exec_spinUp_demands {s : State} {r : Request} {p : List Byte} {rest : List (List Byte)}
    (taken : Taken s .spinUp r p rest) (bays : natAt p 0 1 ≤ 15) {t : State}
    (demanded : t = demand (BitVec.ofNat 4 (natAt p 0 1)) (dequeue r rest s)) :
    exec .spinUp s =
      .next (respond r .ok ((allBays.map fun i => num 1 t.bay.bays[i].state.code).flatten ++ queueBytes t.bay) t) := by
  refine congrArg Host.Outcome.next (takePlain_ok (act := actSpinUp) taken ?_)
  rw [natAt_one] at bays demanded
  rw [actSpinUp, strictBays, if_pos (by omega), demanded]

/-! ## SPIN_DOWN -/

/-- The part with a bay switched off that was in a state `left`, before the head of the spin-up queue is tried
(R108). -/
def switchedOff (i : Bay) (left : BayState) (slots : Vector SessionSlot 4) (s : State) : State :=
  { s with
    bay.bays := vecMod s.bay.bays i fun b =>
      { b with state := .off, pwr := false, spinTimer := none, idleTimer := none },
    bay.queue := s.bay.queue.filter fun b => b ≠ i,
    pac.readySet := if left = .ready then s.pac.readySet &&& ~~~ oneBay i else s.pac.readySet,
    pac.slots := if left = .ready then slots else s.pac.slots }

section
variable {s : State} {i : Bay} {slots : Vector SessionSlot 4}

/-- What SPIN_DOWN makes of the bay controller and of the pacing engine, by the state that the bay leaves (R108). -/
theorem takeDown_switchedOff (agree : BaysAgree s) (present : s.bay.bays[i].state ≠ .absent)
    (fallen : ∀ j : Slot, slots[j] =
      { s.pac.slots[j] with
        session := s.pac.slots[j].session.map fun x => if hasBay x.bays i then x.fallen else x }) :
    takeDown i .off s =
      if s.bay.bays[i].state = .spinning ∨ (s.bay.bays[i].state = .queued ∧ s.bay.queue.head? = some i) then
        tryHead (switchedOff i s.bay.bays[i].state slots s)
      else switchedOff i s.bay.bays[i].state slots s := by
  unfold takeDown switchedOff
  cases left : s.bay.bays[i].state with
  | absent => exact absurd left present
  | off =>
    rw [if_neg (by simp), queue_filter agree (by rw [left]; nofun)]
    rfl
  | queued =>
    simp only [reduceCtorEq, false_or, true_and, if_false]
    rfl
  | spinning =>
    rw [if_pos (.inl rfl), queue_filter agree (by rw [left]; nofun)]
    rfl
  | ready =>
    rw [if_neg (by simp), queue_filter agree (by rw [left]; nofun), fallen_slots fallen]
    rfl

theorem BayRecord.Sound.unpowered_off {b : BayRecord} (sound : b.Sound) (off : b.state = .off) :
    b.unpowered .off = b := by
  obtain ⟨pwr, spin, idle⟩ := sound
  obtain ⟨state, settings, spinTimer, idleTimer, needed, pwr', present, active⟩ := b
  obtain rfl : state = .off := off
  obtain rfl : pwr' = false := pwr
  obtain rfl : spinTimer = none := by simpa using spin
  obtain rfl : idleTimer = none := by simpa using idle
  rfl

/-- A bay that is OFF already stays as it is (R108). -/
theorem switchedOff_off (agree : BaysAgree s) (off : s.bay.bays[i].state = .off) :
    switchedOff i .off slots s = s := by
  have sound := ((baysAgree_iff s).mp agree).1 i
  have bays : (vecMod s.bay.bays i fun b =>
      { b with state := .off, pwr := false, spinTimer := none, idleTimer := none }) = s.bay.bays :=
    vecMod_same (sound.unpowered_off off)
  rw [switchedOff, queue_filter agree (by rw [off]; nofun), bays]
  rfl

/-- The cost of a SPINNING bay that is switched off goes back to the free budget (R90, R108). -/
theorem switchedOff_cost (spinning : s.bay.bays[i].state = .spinning) (left : BayState) :
    (switchedOff i left slots s).bay.spinningCost + s.bay.bays[i].settings.cost = s.bay.spinningCost := by
  have cost := spinningCost_vecMod s.bay i
    (fun b => { b with state := .off, pwr := false, spinTimer := none, idleTimer := none })
    (s.bay.queue.filter fun b => b ≠ i)
  have own : s.bay.bays[i].spinCost = s.bay.bays[i].settings.cost := if_pos spinning
  rw [own] at cost
  exact cost

end

section
variable {s : State} {r : Request} {p : List Byte} {rest : List (List Byte)}

theorem exec_spinDown_refused (taken : Taken s .spinDown r p rest) (high : 3 < natAt p 0 1) :
    exec .spinDown s = .next (respond r .badArgument [] (dequeue r rest s)) :=
  congrArg Host.Outcome.next (takePlain_refuse (act := actSpinDown) taken (by decide) (dif_neg (by omega)))

variable {i : Bay}

/-- The rule of SPIN_DOWN for a bay that the request names (R108). -/
theorem actSpinDown_named (named : natAt p 0 1 = i.val) (s : State) : actSpinDown p s =
    if s.bay.bays[i].state = .absent then .refuse s .notFound
    else if 0 < s.bay.bays[i].needed then .refuse s .busy
    else .ok (takeDown i .off s) (num 1 s.bay.bays[i].state.code) := by
  obtain ⟨k, within⟩ := i
  obtain rfl : natAt p 0 1 = k := named
  exact dif_pos within

theorem exec_spinDown_absent (taken : Taken s .spinDown r p rest) (named : natAt p 0 1 = i.val)
    (absent : s.bay.bays[i].state = .absent) :
    exec .spinDown s = .next (respond r .notFound [] (dequeue r rest s)) :=
  congrArg Host.Outcome.next (takePlain_refuse (act := actSpinDown) taken (by decide)
    ((actSpinDown_named named _).trans (if_pos absent)))

theorem exec_spinDown_needed (taken : Taken s .spinDown r p rest) (named : natAt p 0 1 = i.val)
    (present : s.bay.bays[i].state ≠ .absent) (needed : 0 < s.bay.bays[i].needed) :
    exec .spinDown s = .next (respond r .busy [] (dequeue r rest s)) :=
  congrArg Host.Outcome.next (takePlain_refuse (act := actSpinDown) taken (by decide)
    ((actSpinDown_named named _).trans ((if_neg present).trans (if_pos needed))))

theorem exec_spinDown_off (taken : Taken s .spinDown r p rest) (named : natAt p 0 1 = i.val)
    (present : s.bay.bays[i].state ≠ .absent) (unneeded : s.bay.bays[i].needed = 0) :
    exec .spinDown s =
      .next (respond r .ok (num 1 s.bay.bays[i].state.code) (takeDown i .off (dequeue r rest s))) :=
  congrArg Host.Outcome.next (takePlain_ok (act := actSpinDown) taken
    ((actSpinDown_named named _).trans ((if_neg present).trans (if_neg (Nat.not_lt.mpr unneeded.le)))))

end

/-- Settles O35: SPIN_DOWN by the state that the bay leaves. -/
theorem spinRequests : Obligations.SpinRequests := by
  refine ⟨fun s r p rest taken => ⟨exec_spinUp_refused taken, fun bays => ⟨_, rfl, ?_⟩⟩,
    fun s r p rest taken agree => ⟨exec_spinDown_refused taken, fun i named => ⟨exec_spinDown_absent taken named,
      exec_spinDown_needed taken named, fun present unneeded d slots left leftEq fallen eq => ?_⟩⟩⟩
  · rw [exec_spinUp_demands taken bays rfl, queueBytes, List.append_assoc]
  · subst leftEq
    obtain rfl : d = switchedOff i s.bay.bays[i].state slots (dequeue r rest s) := eq
    refine ⟨?_, fun off => ?_, fun spinning => switchedOff_cost (s := dequeue r rest s) spinning _⟩
    · rw [exec_spinDown_off taken named present unneeded,
        takeDown_switchedOff (s := dequeue r rest s) agree present fallen]
      rfl
    · rw [off]
      exact switchedOff_off (s := dequeue r rest s) agree off

end Sys2Proof.Machine
end

section
/-! SUPPORT and proofs: SET_BAYS (O36). -/

namespace Sys2Proof.Machine

/-! ## The settings of a bay -/

theorem activityEdgeOf_isSome (b : Byte) : (activityEdgeOf b).isSome = decide (b.toNat ≤ 2) := by
  revert b
  decide

/-- An idle interval other than NEVER is the value of the list nearest to the carried one, the larger of two equally near
(R91). -/
theorem clampIdle_nearest {n : Nat} (notNever : n ≠ 0) : clampIdle n ∈ [5, 10, 20, 30, 60] ∧
    ∀ v ∈ [5, 10, 20, 30, 60],
      (max (clampIdle n) n - min (clampIdle n) n < max v n - min v n) ∨
        (max (clampIdle n) n - min (clampIdle n) n = max v n - min v n ∧ v ≤ clampIdle n) := by
  rw [clampIdle_eq, if_neg notNever]
  simp only [List.mem_cons, List.not_mem_nil, or_false, forall_eq_or_imp, forall_eq]
  split_ifs <;> omega

/-- The idle timer after a setting, with the interval written out (R103, R109). -/
theorem idleAfter_eq (b : BayRecord) (new : BaySettings) : b.idleAfter new =
    if new.idle = 0 then none
    else if b.settings.idle = 0 ∧ b.state = .ready ∧ b.needed = 0 then some (new.idle * 60000)
    else b.idleTimer := by
  unfold BayRecord.idleAfter BaySettings.idleStart
  by_cases never : new.idle = 0 <;> simp [never]

section
variable {s : State} {p : List Byte}

/-- The settings of a bay that SET_BAYS carries, clamped (R91). -/
def carriedSettings (p : List Byte) (i : Bay) : BaySettings :=
  clampBay (clamp 1 8 (natAt p 16 1)) (natAt p (4 * i.val) 1) (natAt p (4 * i.val + 1) 1) (natAt p (4 * i.val + 2) 1)
    ((activityEdgeOf (byteAt p (4 * i.val + 3))).getD .rising)

/-- The bays after SET_BAYS has stored the settings it carries (R109). -/
def configuredBays (p : List Byte) (b : BayControl) : Vector BayRecord 4 :=
  Vector.ofFn fun i =>
    { b.bays[i] with settings := carriedSettings p i, idleTimer := b.bays[i].idleAfter (carriedSettings p i) }

theorem configuredBays_bay (p : List Byte) (b : BayControl) (i : Bay) : (configuredBays p b)[i] =
    { b.bays[i] with settings := carriedSettings p i, idleTimer := b.bays[i].idleAfter (carriedSettings p i) } :=
  Vector.getElem_ofFn ..

/-- A carried edge that names one of the three, by its code (R109). -/
theorem carriedSettings_edge {i : Bay} (named : natAt p (4 * i.val + 3) 1 ≤ 2) : (carriedSettings p i).edge =
    if natAt p (4 * i.val + 3) 1 = 0 then .rising else if natAt p (4 * i.val + 3) 1 = 1 then .falling else .both := by
  refine (activityEdgeOf_getD _).trans ?_
  rw [← natAt_one]
  obtain zero | one | two : natAt p (4 * i.val + 3) 1 = 0 ∨ natAt p (4 * i.val + 3) 1 = 1 ∨
      natAt p (4 * i.val + 3) 1 = 2 := by omega
  · simp [zero]
  · simp [one]
  · simp [two]

theorem allEdges_iff : (allBays.all fun i => (activityEdgeOf (byteAt p (4 * i.val + 3))).isSome) = true ↔
    ∀ i : Bay, natAt p (4 * i.val + 3) 1 ≤ 2 := by
  simp [activityEdgeOf_isSome, natAt_one, mem_allBays]

theorem anyRising_iff : (allBays.any fun i =>
      decide (s.bay.bays[i].state = .queued) || decide (s.bay.bays[i].state = .spinning)) = true ↔
    ∃ i : Bay, s.bay.bays[i].state = .queued ∨ s.bay.bays[i].state = .spinning := by
  simp [mem_allBays]

theorem actSetBays_badEdge (bad : ∃ i : Bay, 2 < natAt p (4 * i.val + 3) 1) :
    actSetBays p s = .refuse s .badArgument := by
  refine if_pos ?_
  rw [Bool.not_eq_true', Bool.eq_false_iff, ne_eq, allEdges_iff]
  obtain ⟨i, high⟩ := bad
  exact fun edges => absurd (edges i) (Nat.not_le.mpr high)

theorem actSetBays_busy (edges : ∀ i : Bay, natAt p (4 * i.val + 3) 1 ≤ 2)
    (rising : ∃ i : Bay, s.bay.bays[i].state = .queued ∨ s.bay.bays[i].state = .spinning) :
    actSetBays p s = .refuse s .busy :=
  (if_neg (by rw [allEdges_iff.mpr edges]; nofun)).trans (if_pos (anyRising_iff.mpr rising))

theorem actSetBays_stores (edges : ∀ i : Bay, natAt p (4 * i.val + 3) 1 ≤ 2)
    (still : ∀ i : Bay, s.bay.bays[i].state ≠ .queued ∧ s.bay.bays[i].state ≠ .spinning) :
    actSetBays p s =
      .ok { s with bay.bays := configuredBays p s.bay, bay.budget := clamp 1 8 (natAt p 16 1) }
        ((allBays.map fun i => (configuredBays p s.bay)[i].settings.carried).flatten ++
          num 1 (clamp 1 8 (natAt p 16 1))) := by
  have idle : ¬ ∃ i : Bay, s.bay.bays[i].state = .queued ∨ s.bay.bays[i].state = .spinning :=
    fun ⟨i, rising⟩ => rising.elim (still i).1 (still i).2
  refine (if_neg (by rw [allEdges_iff.mpr edges]; nofun)).trans ((if_neg (mt anyRising_iff.mp idle)).trans ?_)
  simp only [parseBays, configuredBays, carriedSettings, Fin.getElem_fin, Vector.getElem_ofFn]

end

/-- Settles O36. -/
theorem setBaysStoresClampedSettings : Obligations.SetBaysStoresClampedSettings := by
  intro s r p rest taken
  refine ⟨fun bad => ?_, fun edges => ⟨fun rising => ?_, fun still =>
    ⟨configuredBays p s.bay, clamp 1 8 (natAt p 16 1), ?_, rfl, fun i =>
      ⟨carriedSettings p i, _, rfl, ?_, rfl, rfl, ?_, ?_, clampIdle_nearest⟩⟩⟩⟩
  · exact congrArg Host.Outcome.next
      (takePlain_refuse (act := actSetBays) taken (by decide) (actSetBays_badEdge bad))
  · exact congrArg Host.Outcome.next
      (takePlain_refuse (act := actSetBays) taken (by decide) (actSetBays_busy edges rising))
  · exact congrArg Host.Outcome.next (takePlain_ok (act := actSetBays) taken (actSetBays_stores edges still))
  · rw [configuredBays_bay, idleAfter_eq]
  · exact carriedSettings_edge (edges i)
  · exact fun never => if_pos never

end Sys2Proof.Machine
end

section
/-! SUPPORT and proofs: an OFFER, the pacing-message queue, and the start of a session (O37). -/

namespace Sys2Proof.Machine

/-! ## The session slots -/

section
variable {p : Pacing} {peer : MacAddr} {i : Slot}

theorem allSlots_split (i : Slot) : allSlots = allSlots.filter (· < i) ++ i :: allSlots.filter (i < ·) := by
  revert i
  decide

/-- The session of a peer is that of the first slot that holds one of it. -/
theorem slotOf_first {x : Session} (session : p.slots[i].session = some x) (own : x.peer = peer)
    (first : ∀ j : Slot, j < i → ∀ y, p.slots[j].session = some y → y.peer ≠ peer) : p.slotOf peer = some (i, x) := by
  refine List.findSome?_eq_some_iff.mpr ⟨_, i, _, allSlots_split i, ?_, fun j member => ?_⟩
  · rw [session]
    exact if_pos own
  · cases held : p.slots[j].session with
    | none => rfl
    | some y => exact if_neg (first j (by simpa using (List.mem_filter.mp member).2) y held)

theorem slotOf_none (nobody : ∀ (i : Slot) x, p.slots[i].session = some x → x.peer ≠ peer) : p.slotOf peer = none := by
  refine List.findSome?_eq_none_iff.mpr fun j _ => ?_
  cases held : p.slots[j].session with
  | none => rfl
  | some y => exact if_neg (nobody j y held)

theorem idleSlot_first (idle : p.slots[i].session = none) (first : ∀ j : Slot, j < i → p.slots[j].session ≠ none) :
    p.idleSlot = some i := by
  refine List.find?_eq_some_iff_append.mpr ⟨by rw [idle]; rfl, _, _, allSlots_split i, fun j member => ?_⟩
  have held := first j (by simpa using (List.mem_filter.mp member).2)
  cases here : p.slots[j].session with
  | none => exact absurd here held
  | some y => rfl

theorem idleSlot_none (full : ∀ i : Slot, p.slots[i].session ≠ none) : p.idleSlot = none :=
  List.find?_eq_none.mpr fun j _ => by simpa using full j

end

/-! ## The rows of Table 7.4 -/

section
variable {s : State} {h : Handover} {rest : List Handover}

theorem exec_offer (head : s.pac.incoming = h :: rest) (offer : h.message = some .offer) :
    exec .offer s = .next (takeOffer h { s with pac.incoming := rest }) := by
  refine congrArg Host.Outcome.next ?_
  rw [takeHandover, head]
  exact if_pos offer

theorem takeOffer_badOffer (noBlocks : h.nb = 0) : takeOffer h s = declineOffer h .badOffer s :=
  if_pos noBlocks

theorem takeOffer_wakeFault (blocks : h.nb ≠ 0) (latch : s.pow.latch = true) :
    takeOffer h s = declineOffer h .wakeFault s :=
  (if_neg blocks).trans (if_pos latch)

theorem takeOffer_noStage (blocks : h.nb ≠ 0) (latch : s.pow.latch = false) (stage : s.cells.part.slots = 0) :
    takeOffer h s = declineOffer h .noStage s :=
  (if_neg blocks).trans ((if_neg (by rw [latch]; nofun)).trans (if_pos stage))

section
variable (blocks : h.nb ≠ 0) (latch : s.pow.latch = false) (stage : s.cells.part.slots ≠ 0)
include blocks latch stage

/-- The follow-on of a peer's session (R115, R117). -/
theorem takeOffer_followOn {i : Slot} {x : Session} (slot : s.pac.slotOf h.peer = some (i, x))
    (follows : h.followOn = true) (first : x.followOn = none) (allowed : s.pac.profiles[h.profile].followOn = true) :
    takeOffer h s = onSlot i (fun slot => { slot with session := some { x with followOn := some h.asOffer } }) s := by
  rw [takeOffer, if_neg blocks, if_neg (by rw [latch]; nofun), if_neg stage, slot]
  exact if_pos (by rw [follows, first, allowed]; rfl)

/-- Any other OFFER of a peer that has a session (R115). -/
theorem takeOffer_peerBusy {i : Slot} {x : Session} (slot : s.pac.slotOf h.peer = some (i, x))
    (other : h.followOn = false ∨ x.followOn ≠ none ∨ s.pac.profiles[h.profile].followOn = false) :
    takeOffer h s = declineOffer h .peerBusy s := by
  rw [takeOffer, if_neg blocks, if_neg (by rw [latch]; nofun), if_neg stage, slot]
  refine if_neg fun follows => ?_
  simp only [Bool.and_eq_true, Option.isNone_iff_eq_none] at follows
  obtain ⟨⟨follows, first⟩, allowed⟩ := follows
  obtain unfollowing | second | forbidden := other
  · nomatch unfollowing.symm.trans follows
  · exact second first
  · nomatch forbidden.symm.trans allowed

/-- An OFFER of a peer that has none (R115, R116). -/
theorem takeOffer_full (slot : s.pac.slotOf h.peer = none) (full : s.pac.idleSlot = none) :
    takeOffer h s = declineOffer h .noSlot s := by
  rw [takeOffer, if_neg blocks, if_neg (by rw [latch]; nofun), if_neg stage, slot, full]

theorem takeOffer_starts {i : Slot} (slot : s.pac.slotOf h.peer = none) (idle : s.pac.idleSlot = some i) :
    takeOffer h s = startSession i 0 h.peer h.asOffer s := by
  rw [takeOffer, if_neg blocks, if_neg (by rw [latch]; nofun), if_neg stage, slot, idle]

end

end

theorem declineMsg_code (peer : MacAddr) (tag : Word16) {reason : DeclineReason} {code : Nat}
    (listed : (reason, code) ∈ ([(.noSlot, 1), (.noStage, 2), (.peerBusy, 3), (.wakeFault, 4), (.badOffer, 5)] :
      List (DeclineReason × Nat))) :
    declineMsg peer tag reason =
      { peer := peer, kind := .decline, tag := tag, seq := 0, value := BitVec.ofNat 32 code } := by
  simp only [List.mem_cons, Prod.mk.injEq, List.not_mem_nil, or_false] at listed
  obtain ⟨rfl, rfl⟩ | ⟨rfl, rfl⟩ | ⟨rfl, rfl⟩ | ⟨rfl, rfl⟩ | ⟨rfl, rfl⟩ := listed <;> rfl

/-! ## The pacing-message queue -/

section
variable {s : State} {m : PacingMsg}

theorem room_eq (kind : MsgKind) : kind.room = if kind = .grant then 24 else if kind = .decline then 28 else 32 := by
  cases kind <;> rfl

/-- A message for which there is room waits on a LAN that is DOWN or busy (R112, R171). -/
theorem queueMsg_waits (room : s.pac.queue.length < m.kind.room)
    (stays : s.lan.up = false ∨ s.lan.sending.isSome = true) :
    queueMsg m s = { s with pac.queue := s.pac.queue ++ [m] } := by
  obtain down | busy := stays
  · exact (if_pos room).trans (lanKick_down down)
  · exact queueMsg_busy room busy

/-- On a LAN that is UP and free the head of the queue starts (R112, R171). -/
theorem queueMsg_sends (room : s.pac.queue.length < m.kind.room) (up : s.lan.up = true) (free : s.lan.sending = none)
    {x : PacingMsg} {xs : List PacingMsg} (head : s.pac.queue ++ [m] = x :: xs) :
    queueMsg m s =
      { s with pac.queue := xs, lan.sending := some (.pacing (withFcs (pacingFrame s.cfg x))) } := by
  rw [queueMsg, if_pos room, head, lanKick, if_pos (by simp [up, free])]

end

/-! ## The start of a session -/

section
variable {s : State} {i : Slot} {gives : BaySet} {peer : MacAddr} {f : FollowOn}

/-- The part with a session in its slot and its ACCEPT in the queue, before the bays hear of it (R116). -/
def sessionStarted (i : Slot) (peer : MacAddr) (f : FollowOn) (s : State) : State :=
  { onSlot i
      (fun slot =>
        { slot with session := some (newSession s.pac.profiles[f.profile] peer f.tag f.nb f.bays s.time.us) }) s with
    pac.queue := s.pac.queue ++ [acceptMsg peer f.tag f.nb] }

theorem startSession_busy (room : s.pac.queue.length < 32) (busy : s.lan.sending.isSome = true) :
    startSession i gives peer f s =
      demand f.bays (changeNeeded gives f.bays (sessionStarted i peer f s)) := by
  rw [startSession, queueMsg_busy]
  · rfl
  · exact room
  · exact busy

theorem startSession_busy_pac (room : s.pac.queue.length < 32) (busy : s.lan.sending.isSome = true) :
    (startSession i gives peer f s).pac = (sessionStarted i peer f s).pac := by
  rw [startSession_busy room busy, demand_pac, changeNeeded_pac]

/-- The bays hear of the needed counts first, and then of the demand (R98, R102, R116). -/
theorem startSession_bay {bays : Vector BayRecord 4}
    (counted : ∀ b : Bay, ∃ n, n = s.bay.bays[b].needed - (hasBay gives b).toNat + (hasBay f.bays b).toNat ∧ bays[b] =
      { s.bay.bays[b] with
        needed := n,
        idleTimer :=
          if s.bay.bays[b].state = .ready ∧ s.bay.bays[b].needed = 0 ∧ 0 < n then none
          else if s.bay.bays[b].state = .ready ∧ 0 < s.bay.bays[b].needed ∧ n = 0 then
            (if s.bay.bays[b].settings.idle = 0 then none else some (s.bay.bays[b].settings.idle * 60000))
          else s.bay.bays[b].idleTimer }) :
    (startSession i gives peer f s).bay = (demand f.bays { s with bay.bays := bays }).bay := by
  refine demand_bay_congr f.bays (BayControl.eq_of_fields (fun b => ?_) ?_ ?_)
  · obtain ⟨n, rfl, eq⟩ := counted b
    refine Eq.trans ?_ eq.symm
    simp [BayRecord.recount, BaySettings.idleStart]
  · simp
  · simp

end

/-- Settles O37: the rows of Table 7.4 one by one; a DECLINE and an ACCEPT are queued as any message is. -/
theorem offersAreDecidedByTheTable : Obligations.OffersAreDecidedByTheTable := by
  refine ⟨fun s t h rest head offer eq => ?_, fun peer tag reason code => declineMsg_code peer tag,
    fun m s room eq => ⟨fun fits => ⟨queueMsg_waits (by rwa [room_eq, ← eq]), fun up free x xs =>
      queueMsg_sends (by rwa [room_eq, ← eq]) up free⟩, fun _ full => queueMsg_full (by rwa [room_eq, ← eq])⟩,
    fun i gives peer f s room busy => ?_⟩
  · subst eq
    rw [exec_offer head offer]
    refine ⟨fun noBlocks => congrArg Host.Outcome.next (takeOffer_badOffer noBlocks),
      fun blocks latch => congrArg Host.Outcome.next (takeOffer_wakeFault blocks latch),
      fun blocks latch stage => congrArg Host.Outcome.next (takeOffer_noStage blocks latch stage),
      fun blocks latch stage => ⟨fun i x session own first => ?_,
        fun nobody => ⟨fun full => ?_, fun i idle first => ?_⟩⟩⟩
    · have slot : ({ s.pac with incoming := rest } : Pacing).slotOf h.peer = some (i, x) :=
        slotOf_first session own first
      exact ⟨fun follows first allowed => congrArg Host.Outcome.next
          (takeOffer_followOn (s := { s with pac.incoming := rest }) blocks latch stage slot follows first allowed),
        fun other => congrArg Host.Outcome.next
          (takeOffer_peerBusy (s := { s with pac.incoming := rest }) blocks latch stage slot other)⟩
    · exact congrArg Host.Outcome.next
        (takeOffer_full (s := { s with pac.incoming := rest }) blocks latch stage (slotOf_none nobody)
          (idleSlot_none full))
    · exact congrArg Host.Outcome.next
        (takeOffer_starts (s := { s with pac.incoming := rest }) blocks latch stage (slotOf_none nobody)
          (idleSlot_first idle first))
  · have pac := startSession_busy_pac (i := i) (gives := gives) (peer := peer) (f := f) room busy
    refine ⟨_, newSession s.pac.profiles[f.profile] peer f.tag f.nb f.bays s.time.us, rfl, ?_, fun j other => ?_, rfl,
      rfl, rfl, rfl, rfl, rfl, rfl, rfl, rfl, rfl, rfl, rfl, rfl, rfl, rfl, rfl, rfl, rfl, rfl, rfl, ?_,
      fun bays => startSession_bay, ?_, startSession_pow .., startSession_hold .., startSession_cells ..⟩
    · rw [pac]
      simp [sessionStarted, onSlot]
    · rw [pac]
      exact getElem_vecMod_ne _ _ _ _ other
    · rw [pac]
      rfl
    · rw [pac]
      rfl

end Sys2Proof.Machine
end

section
/-! SUPPORT and proofs: every step keeps the rates and the profiles in their ranges (O59): the arithmetic of the grant
profile. -/

namespace Sys2Proof.Machine

/-! ## The ranges of a profile -/

theorem clamp_ge (lo hi n : Nat) : lo ≤ clamp lo hi n :=
  Nat.le_max_left _ _

theorem clamp_le {lo hi : Nat} (h : lo ≤ hi) (n : Nat) : clamp lo hi n ≤ hi :=
  Nat.max_le.mpr ⟨h, Nat.min_le_left _ _⟩

/-- What SET_PROFILE stores is in its ranges: FLOOR is clamped first, and bounds PEAK and SC (R136). -/
theorem clamped_inRange (p : Profile) : p.clamped.inRange := by
  have floor : clamp 16 16000 p.floor ≤ 16000 := clamp_le (by decide) _
  exact ⟨clamp_ge .., clamp_ge .., clamp_le floor _, clamp_ge .., clamp_le floor _, clamp_ge .., clamp_le (by decide) _,
    clamp_ge .., clamp_le (by decide) _, clamp_le (by decide) _, clamp_le (by decide) _, clamp_ge ..,
    clamp_le (by decide) _, clamp_ge .., clamp_le (by decide) _, clamp_ge .., clamp_le (by decide) _, clamp_ge ..,
    clamp_le (by decide) _⟩

theorem climbSearch_le (p : Profile) (most m bits : Nat) :
    ∀ base ≤ most, p.climbSearch most m bits base ≤ most := by
  induction bits with
  | zero => exact fun _ h => h
  | succ bits ih =>
    intro base h
    unfold Profile.climbSearch
    split
    · rename_i fits
      exact ih _ fits.1
    · exact ih _ h

/-- The revised peak, too, lies between FLOOR and PEAK (R140). -/
theorem peakFor_bounds {p : Profile} (range : p.inRange) (nb : Nat) :
    p.floor ≤ p.peakFor nb ∧ p.peakFor nb ≤ 16000 := by
  obtain ⟨-, peak, most, -⟩ := range
  unfold Profile.peakFor
  split
  · exact ⟨peak, most⟩
  · split
    · exact ⟨peak, most⟩
    · have climb : p.revisedClimb nb ≤ p.peak - p.floor := climbSearch_le _ _ _ _ _ (Nat.zero_le _)
      omega

/-! ## The rate of a session -/

section
variable {x : Session}

theorem newSession_rates {p : Profile} (range : p.inRange) (peer : MacAddr) (tag : Word16) (nb : Nat) (bays : BaySet)
    (now : Word64) : (newSession p peer tag nb bays now).rateInRange := by
  obtain ⟨low, high⟩ := peakFor_bounds range nb
  exact ⟨range, le_refl _, low, high⟩

/-- A rate between FLOOR and the peak, with whatever phase, is one the session may have (R137). -/
theorem rateInRange_step (h : x.rateInRange) {rate : Nat} (phase : Phase) (low : x.profile.floor ≤ rate)
    (high : rate ≤ x.peak) : ({ x with rate := rate, phase := phase } : Session).rateInRange := by
  obtain ⟨range, -, -, most⟩ := h
  exact ⟨range, low, high, most⟩

theorem rateInRange_floor (h : x.rateInRange) (phase : Phase) :
    ({ x with rate := x.profile.floor, phase := phase } : Session).rateInRange := by
  have ⟨_, low, high, _⟩ := h
  exact rateInRange_step h phase (le_refl _) (low.trans high)

theorem fallen_rates (h : x.rateInRange) : x.fallen.rateInRange := by
  unfold Session.fallen
  split
  · exact rateInRange_floor h .floor
  · exact h

/-- The ceiling lies between FLOOR and the peak: SC is at least FLOOR (R136, R147). -/
theorem ceilingOf_bounds (h : x.rateInRange) (shareActive : Bool) :
    x.profile.floor ≤ ceilingOf shareActive x ∧ ceilingOf shareActive x ≤ x.peak := by
  obtain ⟨⟨-, -, -, ceiling, -⟩, low, high, -⟩ := h
  unfold ceilingOf
  split <;> omega

/-- The tracking step stops at the ceiling from either side (R145). -/
theorem track_rates (h : x.rateInRange) {e : Nat} (low : x.profile.floor ≤ e) (high : e ≤ x.peak) :
    (x.track e).rateInRange := by
  have ⟨_, above, below, _⟩ := h
  unfold Session.track
  split
  · exact rateInRange_step h _ (by omega) (by omega)
  · split
    · exact rateInRange_step h _ above below
    · exact rateInRange_step h _ (by omega) (by omega)

/-- The TAPER step stops at FLOOR (R146). -/
theorem taperStep_rates (h : x.rateInRange) : x.taperStep.rateInRange := by
  have ⟨_, above, below, _⟩ := h
  exact rateInRange_step h _ (Nat.le_max_right _ _) (by omega)

theorem phaseStep_rates (h : x.rateInRange) (free : Bool) {e : Nat} (low : x.profile.floor ≤ e) (high : e ≤ x.peak) :
    (x.phaseStep free e).rateInRange := by
  unfold Session.phaseStep
  split
  · split
    · exact track_rates h low high
    · exact rateInRange_floor h x.phase
  · exact track_rates h low high
  · exact track_rates h low high
  · exact track_rates h low high
  · exact taperStep_rates h
  · exact rateInRange_floor h x.phase

theorem grantStep_rates (h : x.rateInRange) (free : Bool) {e : Nat} (low : x.profile.floor ≤ e) (high : e ≤ x.peak) :
    (x.grantStep free e).rateInRange := by
  unfold Session.grantStep
  split
  · exact phaseStep_rates (x := { x with phase := .taper }) h free low high
  · exact phaseStep_rates h free low high

/-- A grant takes one grant step, toward the ceiling of the session (R119). -/
theorem granted_rates (h : x.rateInRange) (s : State) (k : Nat) : (x.granted s k).rateInRange := by
  obtain ⟨low, high⟩ := ceilingOf_bounds h s.share.active
  exact grantStep_rates (x := x.issued s k) h (mayRise s x) low high

/-- Of the fields of a session its ranges need the account alone. -/
theorem rateInRange_of_account {y : Session} (same : x.account = y.account) (h : x.rateInRange) : y.rateInRange :=
  show y.account.rateInRange from same ▸ h

end

end Sys2Proof.Machine
end

section
/-! SUPPORT and proofs: every step keeps the rates and the profiles in their ranges (O59): the shared operations. -/

namespace Sys2Proof.Machine

section
variable {s t : State}

/-! ## What leaves the profiles and the sessions -/

/-- Where the profiles stay and each session either stays or is in its ranges, all are in their ranges. -/
theorem RatesInRange.change (h : RatesInRange s) (profiles : t.pac.profiles = s.pac.profiles)
    (sessions : ∀ (i : Slot) y, t.pac.slots[i].session = some y → s.pac.slots[i].session = some y ∨ y.rateInRange) :
    RatesInRange t := by
  obtain ⟨ranges, rates⟩ := h
  exact ⟨fun i => profiles ▸ ranges i, fun i y hy => (sessions i y hy).elim (rates i y) id⟩

theorem RatesInRange.quiet (h : RatesInRange s) (slots : t.pac.slots = s.pac.slots := by simp)
    (profiles : t.pac.profiles = s.pac.profiles := by simp) : RatesInRange t :=
  h.change profiles fun _ _ hy => .inl (slots ▸ hy)

theorem RatesInRange.of_pac (h : RatesInRange s) (pac : t.pac = s.pac := by simp) : RatesInRange t :=
  h.quiet (congrArg Pacing.slots pac) (congrArg Pacing.profiles pac)

/-- Where the core stays, only the profiles are left to look at. -/
theorem RatesInRange.of_core (h : RatesInRange s) (same : t.core = s.core)
    (profiles : t.pac.profiles = s.pac.profiles) : RatesInRange t := by
  have ⟨_, rates⟩ := h
  refine h.change profiles fun i y hy => .inr ?_
  obtain ⟨x, hx, account⟩ := session_of_core same hy
  exact rateInRange_of_account account (rates i x hx)

theorem onSlot_rates {i : Slot} {o : Option Session} (h : RatesInRange s) (new : ∀ y, o = some y → y.rateInRange) :
    RatesInRange (onSlot i (fun slot => { slot with session := o }) s) := by
  refine h.change rfl fun j y hy => ?_
  rw [onSlot_session] at hy
  split at hy
  · exact .inr (new y hy)
  · exact .inl hy

theorem RatesInRange.session {i : Slot} {x : Session} (h : RatesInRange s) (session : s.pac.slots[i].session = some x) :
    x.rateInRange := by
  obtain ⟨-, rates⟩ := h
  exact rates i x session

/-- A session replaced by what an operation makes of it. -/
theorem replaced_rates {i : Slot} {x y : Session} (h : RatesInRange s) (session : s.pac.slots[i].session = some x)
    (kept : x.rateInRange → y.rateInRange) :
    RatesInRange (onSlot i (fun slot => { slot with session := some y }) s) :=
  onSlot_rates h fun _ hy => Option.some.inj hy ▸ kept (h.session session)

/-! ## The pacing-message queue -/

@[simp] theorem lanKick_pac_profiles (s : State) : (lanKick s).pac.profiles = s.pac.profiles := by
  unfold lanKick
  repeat' split
  all_goals rfl

@[simp] theorem queueMsg_pac_profiles (m : PacingMsg) (s : State) :
    (queueMsg m s).pac.profiles = s.pac.profiles := by
  unfold queueMsg
  split
  · exact lanKick_pac_profiles _
  · rfl

@[simp] theorem declineFollowOn_pac_profiles (x : Session) (s : State) :
    (declineFollowOn x s).pac.profiles = s.pac.profiles := by
  unfold declineFollowOn
  split
  · exact queueMsg_pac_profiles _ _
  · rfl

theorem lanKick_rates (h : RatesInRange s) : RatesInRange (lanKick s) :=
  h.of_core core_lanKick (lanKick_pac_profiles s)

theorem queueMsg_rates (m : PacingMsg) (h : RatesInRange s) : RatesInRange (queueMsg m s) :=
  h.quiet

/-! ## Sessions -/

/-- A session starts with the copy of a stored profile (R116). -/
theorem startSession_rates (i : Slot) (gives : BaySet) (peer : MacAddr) (f : FollowOn) (h : RatesInRange s) :
    RatesInRange (startSession i gives peer f s) := by
  have ⟨ranges, _⟩ := h
  have started := onSlot_rates (i := i) h fun y hy =>
    Option.some.inj hy ▸ newSession_rates (ranges f.profile) peer f.tag f.nb f.bays s.time.us
  exact (queueMsg_rates (acceptMsg peer f.tag f.nb) started).of_pac (demand_pac ..)

@[simp] theorem haltSession_pac_profiles (i : Slot) (cause : HaltCause) (s : State) :
    (haltSession i cause s).pac.profiles = s.pac.profiles := by
  unfold haltSession
  split
  · rfl
  · by_cases down : cause = .linkDown <;> simp [down]

theorem haltSession_rates (i : Slot) (cause : HaltCause) (h : RatesInRange s) :
    RatesInRange (haltSession i cause s) := by
  cases session : s.pac.slots[i].session with
  | none => rwa [haltSession_idle session]
  | some x =>
    refine h.change (haltSession_pac_profiles ..) fun j y hy => .inl ?_
    rw [haltSession_slots session] at hy
    by_cases own : j = i
    · subst own
      simp at hy
    · rwa [getElem_vecMod_ne _ _ _ _ own] at hy

theorem haltWhere_rates (p : Session → Bool) (cause : HaltCause) (h : RatesInRange s) :
    RatesInRange (haltWhere p cause s) :=
  haltWhere_keeps (fun i _ => haltSession_rates i cause) p h

theorem arbitrate_rates (h : RatesInRange s) : RatesInRange (arbitrate s) := by
  refine arbitrateN_keeps (P := RatesInRange) (fun i x k t session _ _ _ kept => ?_) _ s h
  exact queueMsg_rates _ (replaced_rates (s := setStage k _ t) kept session fun own => granted_rates own t k)

@[simp] theorem startDelivery_pac_slots (s : State) : (startDelivery s).pac.slots = s.pac.slots := by
  unfold startDelivery
  repeat' split
  all_goals simp

@[simp] theorem startDelivery_pac_profiles (s : State) : (startDelivery s).pac.profiles = s.pac.profiles := by
  unfold startDelivery
  repeat' split
  all_goals simp

theorem startDelivery_rates (h : RatesInRange s) : RatesInRange (startDelivery s) :=
  h.quiet

theorem returnDelivery_rates (h : RatesInRange s) : RatesInRange (returnDelivery s) := by
  unfold returnDelivery
  repeat' split
  all_goals exact h

theorem completeSession_rates (i : Slot) (x : Session) (h : RatesInRange s) :
    RatesInRange (completeSession i x s) := by
  have told : RatesInRange (addOutcome x.tag .done (queueMsg (tallyMsg x.peer x.tag x.nb) s)) :=
    (queueMsg_rates (tallyMsg x.peer x.tag x.nb) h).of_pac
  unfold completeSession
  dsimp only
  split
  · exact startSession_rates _ _ _ _ told
  · exact onSlot_rates (i := i) told nofun

theorem countDelivered_rates (i : Slot) (h : RatesInRange s) : RatesInRange (countDelivered i s) := by
  unfold countDelivered
  dsimp only
  split
  · exact h.of_core (core_onSlot rfl) rfl
  · split
    · exact h
    · rename_i x session
      have counted := replaced_rates (y := { x with undelivered := x.undelivered - 1 }) h session id
      split
      · exact completeSession_rates _ _ counted
      · exact counted

theorem deliverySent_rates (h : RatesInRange s) : RatesInRange (deliverySent s) := by
  unfold deliverySent
  split
  · exact h
  · split
    · exact startDelivery_rates (arbitrate_rates (countDelivered_rates _ h))
    · exact h

/-! ## The fall to FLOOR -/

theorem fallSessions_rates (p : Session → Bool) (h : RatesInRange s) : RatesInRange (fallSessions p s) := by
  refine h.change rfl fun i y hy => .inr ?_
  rw [fallSessions_session] at hy
  obtain ⟨x, hx, rfl⟩ := Option.map_eq_some_iff.mp hy
  split
  · exact fallen_rates (h.session hx)
  · exact h.session hx

theorem reportUnready_rates (bay : Bay) (h : RatesInRange s) : RatesInRange (reportUnready bay s) :=
  fallSessions_rates _ (s := { s with pac.readySet := s.pac.readySet &&& ~~~ oneBay bay }) h

theorem leaveRun_rates (h : RatesInRange s) : RatesInRange (leaveRun s) :=
  fallSessions_rates _ (s := { s with pow.heartbeatTimer := none, share.active := false, share.timer := none }) h

end

end Sys2Proof.Machine
end

section
/-! SUPPORT and proofs: every step keeps the rates and the profiles in their ranges (O59): the events. -/

namespace Sys2Proof.Machine

section
variable {s : State}

/-! ## The power controller -/

theorem portDown_rates (h : RatesInRange s) : RatesInRange (portDown s) := by
  unfold portDown
  split
  · exact returnDelivery_rates h.of_pac
  · exact h

theorem railOff_rates (h : RatesInRange s) : RatesInRange (railOff s) :=
  portDown_rates (s := { s with pow.rst := true }) h

theorem sleepReached_rates (h : RatesInRange s) : RatesInRange (sleepReached s) :=
  sleepReached_keeps (P := RatesInRange) (fun b _ => reportUnready_rates b) h

theorem completeEntry_rates (h : RatesInRange s) : RatesInRange (completeEntry s) := by
  have done : RatesInRange (entryDone s) :=
    sleepReached_rates (s := { railOff s with pow.box := .sleep, pow.entryTimer := none }) (railOff_rates h)
  rw [completeEntry_eq]
  split
  · exact done.of_pac
  · exact done

theorem wakeFault_rates (h : RatesInRange s) : RatesInRange (wakeFault s) := by
  have discarded {t : State} (kept : RatesInRange t) : RatesInRange (discardStaged t) :=
    kept.change rfl fun i y hy => .inl (by simpa using hy)
  have flushed : RatesInRange (flushHeld { s with pow.box := .sleep, pow.latch := true, pow.retryTimer := none }) := h
  exact arbitrate_rates (sleepReached_rates (discarded (haltWhere_rates _ _ flushed)))

theorem runReached_rates (h : RatesInRange s) : RatesInRange (runReached s) := by
  have woken : RatesInRange (awake s) := by
    unfold awake
    dsimp only
    split <;> exact h
  exact startDelivery_rates
    (releaseAndNotify_keeps (fun kept => kept) (fun _ kept => kept.of_pac) (fun _ kept => kept.of_pac) woken)

/-! ## Resets and time -/

/-- After a reset every profile is the default profile and no slot holds a session (R113, R136, R185). -/
theorem resetAll_rates (presence activity : BaySet) (clock : Clock) (s : State) :
    RatesInRange (resetAll presence activity clock s) := by
  refine ⟨fun i => ?_, fun i y hy => nomatch (resetAll_session presence activity clock s i).symm.trans hy⟩
  have profile : (resetAll presence activity clock s).pac.profiles[i] = .default := by simp [resetAll, State.reset]
  rw [profile]
  exact default_inRange

theorem holdReset_rates (presence activity : BaySet) (clock : Clock) (ms : Nat) :
    RatesInRange (holdReset presence activity clock ms s) :=
  resetAll_rates presence activity clock s

theorem beforeClock_rates (h : RatesInRange s) : RatesInRange (beforeClock s) :=
  h.of_core (core_tickTimers.trans core_markStale) rfl

theorem idle_rates (h : RatesInRange s) : RatesInRange (idle s) := by
  unfold idle
  split
  · exact resetAll_rates ..
  · unfold tick
    dsimp only
    split
    · rw [tickMs_eq]
      exact (beforeClock_rates (s := { s with time.us := s.time.us + 1, cls := endFrame s.cls }) h).of_pac
    · exact h

/-! ## A LAN frame -/

theorem dispatch_rates (f : FrameInHand) (m : MatchResult) (h : RatesInRange s) : RatesInRange (dispatch f m s) := by
  unfold dispatch
  cases m.action with
  | pass => exact h.of_pac
  | share =>
    dsimp only
    split
    · exact h.of_pac
    · exact h.of_pac
  | backup profile =>
    dsimp only
    split
    · exact h
    · exact h.of_pac
  | proxy answer =>
    dsimp only
    split <;> exact h.of_pac
  | drop => exact h

theorem classifyFrame_rates (frame : List Byte) (h : RatesInRange s) : RatesInRange (classifyFrame frame s) := by
  have dispatched (f : FrameInHand) (m : MatchResult) (c : Classifier) :
      RatesInRange (dispatch f m { s with cls := c }) := dispatch_rates f m h
  unfold classifyFrame
  exact (dispatched _ _ _).of_pac (raiseWakes_pac ..)

theorem answerQuestion_rates (asked : Question) (h : RatesInRange s) : RatesInRange (answerQuestion asked s) := by
  unfold answerQuestion
  dsimp only
  split
  · exact h
  · split
    · exact h
    · split
      · exact h
      · exact lanKick_rates h

/-! ## Bays -/

theorem takeDown_rates (bay : Bay) (target : BayState) (h : RatesInRange s) : RatesInRange (takeDown bay target s) := by
  unfold takeDown
  dsimp only
  split
  · split <;> exact h.of_pac
  · exact h.of_pac
  · exact reportUnready_rates bay h
  · exact h
  · exact h

theorem bayLost_rates (bay : Bay) (h : RatesInRange s) : RatesInRange (bayLost bay s) :=
  arbitrate_rates (haltWhere_rates _ _ h)

theorem reported_rates {edge : PresenceEdge} {other : State → State} (needed : Nat)
    (following : ∀ t, RatesInRange t → RatesInRange (other t)) (h : RatesInRange s) :
    RatesInRange (reported edge other needed s) :=
  reported_keeps (P := RatesInRange) (fun _ _ kept => kept) (fun _ kept => kept.of_pac) following h

/-! ## Pacing frames -/

theorem takeHandover_rates (message : Option MsgKind) {act : Handover → State → State}
    (acting : ∀ h t, RatesInRange t → RatesInRange (act h t)) (h : RatesInRange s) :
    RatesInRange (takeHandover message act s) := by
  unfold takeHandover
  split
  · exact h
  · split
    · exact acting _ _ h
    · exact h

theorem takeOffer_rates (offer : Handover) (h : RatesInRange s) : RatesInRange (takeOffer offer s) := by
  have declined (reason : DeclineReason) : RatesInRange (declineOffer offer reason s) := queueMsg_rates _ h
  unfold takeOffer
  split
  · exact declined _
  · split
    · exact declined _
    · split
      · exact declined _
      · split
        · rename_i x found
          split
          · exact replaced_rates h (slotOf_session found) id
          · exact declined _
        · split
          · exact declined _
          · exact startSession_rates _ _ _ _ h

theorem takeBlock_rates (block : Handover) (h : RatesInRange s) : RatesInRange (takeBlock block s) := by
  unfold takeBlock
  split
  · exact h
  · rename_i i x found
    have session := slotOf_session found
    split
    · split
      · rename_i g _
        exact startDelivery_rates (replaced_rates (y := x.accepted g.seq) h session id)
      · exact replaced_rates h session id
    · exact h

theorem takeWithdraw_rates (withdraw : Handover) (h : RatesInRange s) : RatesInRange (takeWithdraw withdraw s) := by
  unfold takeWithdraw
  split
  · exact h
  · rename_i x found
    split
    · exact arbitrate_rates (haltSession_rates _ _ h)
    · split
      · exact replaced_rates h (slotOf_session found) id
      · exact h

theorem haltIf_rates (cond : State → Session → Bool) (slot : Slot) (cause : HaltCause) (h : RatesInRange s) :
    RatesInRange (haltIf cond slot cause s) := by
  unfold haltIf
  split
  · split
    · exact arbitrate_rates (haltSession_rates _ _ h)
    · exact h
  · exact h

theorem expireGrant_rates {slot : Slot} {x : Session} (session : s.pac.slots[slot].session = some x) (g : Grant)
    (h : RatesInRange s) : RatesInRange (expireGrant slot x g s) := by
  have expired := replaced_rates (s := setStage g.stage .free s) (y := x.expired g.seq) h session id
  unfold expireGrant
  dsimp only
  split
  · exact arbitrate_rates (haltSession_rates _ _ expired)
  · exact arbitrate_rates expired

/-! ## The links -/

theorem forwardToLan_rates (data : List Byte) (h : RatesInRange s) : RatesInRange (forwardToLan data s) := by
  unfold forwardToLan
  split
  · exact lanKick_rates h
  · exact h

theorem reportSent_rates (sent : HostSending) (h : RatesInRange s) : RatesInRange (reportSent sent s) := by
  cases sent with
  | response wire | direct wire => exact h
  | held wire => exact h.of_pac (heldSent_pac s)
  | deliver wire => exact deliverySent_rates h

end

end Sys2Proof.Machine
end

section
/-! SUPPORT and proofs: every step keeps the rates and the profiles in their ranges (O59): the requests, the commands
and the step. -/

namespace Sys2Proof.Machine

section
variable {s : State}

/-! ## Requests that leave the pacing engine -/

section
variable (p : List Byte)

theorem actLoadFlows_pac : (actLoadFlows p s).state.pac = s.pac := by
  unfold actLoadFlows
  dsimp only
  repeat' split
  all_goals rfl

theorem actContinueFlows_pac : (actContinueFlows p s).state.pac = s.pac := by
  unfold actContinueFlows
  split <;> rfl

theorem actReadFlow_pac : (actReadFlow p s).state.pac = s.pac := by
  unfold actReadFlow
  dsimp only
  repeat' split
  all_goals rfl

theorem actReadFlowStatus_pac : (actReadFlowStatus p s).state.pac = s.pac := by
  unfold actReadFlowStatus
  split <;> rfl

theorem actSetDefaultAction_pac : (actSetDefaultAction p s).state.pac = s.pac := by
  unfold actSetDefaultAction
  split <;> rfl

theorem actLoadAnswer_pac : (actLoadAnswer p s).state.pac = s.pac := by
  unfold actLoadAnswer
  dsimp only
  repeat' split
  all_goals rfl

theorem actClearAnswer_pac : (actClearAnswer p s).state.pac = s.pac := by
  unfold actClearAnswer
  split <;> rfl

theorem actReadAnswer_pac : (actReadAnswer p s).state.pac = s.pac := by
  unfold actReadAnswer
  dsimp only [Reply.ok]
  repeat' split
  all_goals rfl

theorem actHeartbeat_pac : (actHeartbeat p s).state.pac = s.pac := by
  dsimp only [actHeartbeat, Reply.ok]
  split <;> rfl

theorem actSetWake_pac : (actSetWake p s).state.pac = s.pac := by
  unfold actSetWake
  repeat' split
  all_goals rfl

theorem actReadHold_pac : (actReadHold p s).state.pac = s.pac := by
  dsimp only [actReadHold, Reply.ok]
  split <;> rfl

theorem actSpinUp_pac : (actSpinUp p s).state.pac = s.pac := by
  unfold actSpinUp
  split
  · rfl
  · exact demand_pac ..

theorem actSetBays_pac : (actSetBays p s).state.pac = s.pac := by
  unfold actSetBays
  repeat' split
  all_goals rfl

theorem actSetNotices_pac (r : Request) : (actSetNotices r p s).state.pac = s.pac := by
  unfold actSetNotices
  split <;> rfl

theorem actProgramRetained_pac (r : Request) : (actProgramRetained r p s).state.pac = s.pac := by
  unfold actProgramRetained
  repeat' split
  all_goals rfl

theorem actReadRetained_pac : (actReadRetained p s).state.pac = s.pac := by
  unfold actReadRetained
  split <;> rfl

end

/-! ## Requests about the pacing engine -/

theorem takeRequest_rates {kind : ReqKind} {act : Request → List Byte → State → Reply} {after : State → State}
    (acting : ∀ r p t, RatesInRange t → RatesInRange (act r p t).state)
    (following : ∀ t, RatesInRange t → RatesInRange (after t)) (h : RatesInRange s) :
    RatesInRange (takeRequest kind act after s) :=
  takeRequest_keeps (P := RatesInRange) (fun _ _ _ kept => kept) (fun _ _ _ _ kept => kept.of_pac)
    (fun r p t _ => acting r p t) following h

theorem takePlain_rates {kind : ReqKind} {act : List Byte → State → Reply}
    (acting : ∀ p t, RatesInRange t → RatesInRange (act p t).state) (h : RatesInRange s) :
    RatesInRange (takePlain kind act s) :=
  takeRequest_rates (fun _ => acting) (fun _ kept => kept) h

/-- A request whose rule leaves the pacing engine. -/
theorem takePlain_rates_of_pac {kind : ReqKind} {act : List Byte → State → Reply}
    (acting : ∀ p t, (act p t).state.pac = t.pac) (h : RatesInRange s) : RatesInRange (takePlain kind act s) :=
  takePlain_rates (fun p t kept => kept.of_pac (acting p t)) h

theorem takeUnknown_rates (h : RatesInRange s) : RatesInRange (takeUnknown s) := by
  unfold takeUnknown
  split
  · exact h
  · split
    · exact h
    · split
      · exact h
      · split
        · exact h.of_pac ((respond_pac ..).trans rfl)
        · exact h

theorem discardShort_rates (h : RatesInRange s) : RatesInRange (discardShort s) := by
  unfold discardShort
  repeat' split
  all_goals exact h

section
variable (p : List Byte)

theorem actSetPartition_rates (h : RatesInRange s) : RatesInRange (actSetPartition p s).state := by
  unfold actSetPartition
  dsimp only
  repeat' split
  all_goals exact h

theorem actSleep_rates (h : RatesInRange s) : RatesInRange (actSleep p s).state := by
  unfold actSleep
  split
  · exact leaveRun_rates h
  · exact h

theorem actSpinDown_rates (h : RatesInRange s) : RatesInRange (actSpinDown p s).state := by
  unfold actSpinDown
  dsimp only
  repeat' split
  · exact h
  · exact h
  · exact takeDown_rates _ _ h
  · exact h

/-- The profile that SET_PROFILE stores has been clamped (R134, R136). -/
theorem actSetProfile_rates (h : RatesInRange s) : RatesInRange (actSetProfile p s).state := by
  unfold actSetProfile
  split
  · split
    · exact h
    · obtain ⟨ranges, rates⟩ := h
      refine ⟨fun i => ?_, rates⟩
      simp only [Reply.ok, Fin.getElem_fin, Vector.getElem_set]
      split
      · exact clamped_inRange _
      · exact ranges i
  · exact h

theorem actReadSession_rates (h : RatesInRange s) : RatesInRange (actReadSession p s).state := by
  unfold actReadSession
  split
  · dsimp only [Reply.ok]
    split
    · exact h.of_core (core_clearCounts _) rfl
    · exact h
  · exact h

theorem actHaltSession_rates (h : RatesInRange s) : RatesInRange (actHaltSession p s).state := by
  unfold actHaltSession
  dsimp only
  repeat' split
  · exact h
  · exact arbitrate_rates (haltSession_rates _ _ h)
  · exact h
  · exact h

end

/-! ## The commands -/

theorem RatesInRange.of_next {t u : State} (h : RatesInRange t)
    (next : (Host.Outcome.next t : Host.Outcome State Fault Refusal) = .next u) : RatesInRange u := by
  cases next
  exact h

/-- Every command keeps the rates and the profiles in their ranges. -/
theorem exec_rates {c : Instr} {t : State} (h : RatesInRange s) (next : exec c s = .next t) : RatesInRange t := by
  cases c with
  | powerOn presence activity | panelReset presence activity ms => exact (holdReset_rates ..).of_next next
  | lanFrameTaken frame =>
    refine RatesInRange.of_next ?_ next
    split
    · exact classifyFrame_rates frame h
    · exact h
  | questionTaken =>
    refine RatesInRange.of_next ?_ next
    split
    · exact h
    · exact answerQuestion_rates _ h
  | holdoffExpiry record =>
    refine RatesInRange.of_next ?_ next
    split <;> exact h
  | offer => exact (takeHandover_rates _ (fun offer _ => takeOffer_rates offer) h).of_next next
  | block => exact (takeHandover_rates _ (fun block _ => takeBlock_rates block) h).of_next next
  | withdraw => exact (takeHandover_rates _ (fun withdraw _ => takeWithdraw_rates withdraw) h).of_next next
  | pacingFrameMalformed =>
    exact (takeHandover_rates none (act := fun _ t => protocolError t) (fun _ _ kept => kept) h).of_next next
  | grantIssue => exact (arbitrate_rates h).of_next next
  | seqExhausted slot | stallExpiry slot => exact (haltIf_rates _ _ _ h).of_next next
  | grantExpiry slot seq =>
    refine RatesInRange.of_next ?_ next
    split
    · exact h
    · rename_i session
      split
      · split
        · exact expireGrant_rates session _ h
        · exact h
      · exact h
  | shareWindowExpiry =>
    refine RatesInRange.of_next ?_ next
    split <;> exact h
  | recordStale position =>
    refine RatesInRange.of_next ?_ next
    exact h
  | hostDownAsserted =>
    refine RatesInRange.of_next ?_ next
    split
    · exact completeEntry_rates h
    · exact h
  | entryDeadlineExpiry =>
    refine RatesInRange.of_next ?_ next
    split
    · exact completeEntry_rates (s := raise _ _ s) h
    · exact h
  | stabilizationExpiry =>
    refine RatesInRange.of_next ?_ next
    split <;> exact h
  | bootDeadlineExpiry =>
    refine RatesInRange.of_next ?_ next
    split
    · exact railOff_rates h
    · exact h
  | retryOffExpiry =>
    refine RatesInRange.of_next ?_ next
    split
    · split
      · exact h
      · split
        · exact wakeFault_rates h
        · exact h
    · exact h
  | heartbeatLapse =>
    refine RatesInRange.of_next ?_ next
    split
    · exact railOff_rates (leaveRun_rates h)
    · exact h
  | buttonEvent edge =>
    refine RatesInRange.of_next ?_ next
    split
    · split
      · exact h
      · exact h.of_pac
    · exact h
  | minuteEntered =>
    refine RatesInRange.of_next ?_ next
    split
    · exact h.of_pac
    · exact h
  | bayInsertion bay =>
    refine RatesInRange.of_next ?_ next
    split
    · exact reported_rates s.bay.bays[bay].needed (fun _ kept => kept.of_pac) h
    · exact h
  | bayRemoval bay =>
    refine RatesInRange.of_next ?_ next
    dsimp only
    split
    · exact h
    · exact reported_rates s.bay.bays[bay].needed (fun _ => bayLost_rates bay) (takeDown_rates bay .absent h)
  | spinExpiry bay =>
    refine RatesInRange.of_next ?_ next
    split
    · exact h.quiet
    · exact h
  | idleExpiry bay =>
    refine RatesInRange.of_next ?_ next
    split
    · exact reportUnready_rates bay h
    · exact h
  | activityEdge bay edge =>
    refine RatesInRange.of_next ?_ next
    split <;> exact h
  | lanLinkDown =>
    refine RatesInRange.of_next ?_ next
    have discarded : RatesInRange
        { s with
          lan.up := false, lan.sending := none, lan.hostFrames := [], pac.queue := [], ans.answers := [],
          ans.sending := none } := h
    split
    · exact (haltWhere_rates _ _ discarded).of_pac (raise_pac ..)
    · exact h
  | lanLinkUp =>
    refine RatesInRange.of_next ?_ next
    split
    · exact h
    · exact lanKick_rates h
  | lanFrameSent =>
    refine RatesInRange.of_next ?_ next
    split
    · exact h
    all_goals exact lanKick_rates h
  | hostFrameReceived frame =>
    refine RatesInRange.of_next ?_ next
    dsimp only
    split
    · split
      · split <;> exact h
      · exact forwardToLan_rates _ h
    · exact h
  | hPortUp =>
    refine RatesInRange.of_next ?_ next
    split
    · have up : RatesInRange (hostKick (raise .linkChange (.linkChange .host true) { s with host.up := true })) :=
        h.of_pac
      dsimp only
      split
      · exact inAnyOrder_keeps (P := RatesInRange) (fun _ _ kept => kept) (fun _ kept => kept.of_pac)
          (fun _ kept => kept.of_pac) (fun _ => startDelivery_rates) up
      · exact up
    · exact h
  | hPortDown => exact (portDown_rates h).of_next next
  | hostLinkFrameSent =>
    refine RatesInRange.of_next ?_ next
    split
    · exact h
    · rename_i f _
      have sent := reportSent_rates (s := { s with host.sending := none }) f h
      dsimp only
      split <;> exact sent.of_pac
  | noticeBuild => exact (h.of_pac (buildNotices_pac s)).of_next next
  | programmingComplete =>
    refine RatesInRange.of_next ?_ next
    split
    · exact h
    · dsimp only
      split <;> exact h.of_pac
  | programResponseBuilt =>
    refine RatesInRange.of_next ?_ next
    split
    · exact h
    · split
      · exact h.of_pac
      · exact h
  | unknownRequest => exact (takeUnknown_rates h).of_next next
  | mgmtFrameTooShort => exact (discardShort_rates h).of_next next
  | loadFlows => exact (takePlain_rates_of_pac (fun p _ => actLoadFlows_pac p) h).of_next next
  | continueFlows => exact (takePlain_rates_of_pac (fun p _ => actContinueFlows_pac p) h).of_next next
  | readFlow => exact (takePlain_rates_of_pac (fun p _ => actReadFlow_pac p) h).of_next next
  | readFlowStatus => exact (takePlain_rates_of_pac (fun p _ => actReadFlowStatus_pac p) h).of_next next
  | setDefaultAction => exact (takePlain_rates_of_pac (fun p _ => actSetDefaultAction_pac p) h).of_next next
  | loadAnswer => exact (takePlain_rates_of_pac (fun p _ => actLoadAnswer_pac p) h).of_next next
  | clearAnswer => exact (takePlain_rates_of_pac (fun p _ => actClearAnswer_pac p) h).of_next next
  | readAnswer => exact (takePlain_rates_of_pac (fun p _ => actReadAnswer_pac p) h).of_next next
  | heartbeat => exact (takePlain_rates_of_pac (fun p _ => actHeartbeat_pac p) h).of_next next
  | setWake => exact (takePlain_rates_of_pac (fun p _ => actSetWake_pac p) h).of_next next
  | readHold => exact (takePlain_rates_of_pac (fun p _ => actReadHold_pac p) h).of_next next
  | spinUp => exact (takePlain_rates_of_pac (fun p _ => actSpinUp_pac p) h).of_next next
  | setBays => exact (takePlain_rates_of_pac (fun p _ => actSetBays_pac p) h).of_next next
  | readRetained => exact (takePlain_rates_of_pac (fun p _ => actReadRetained_pac p) h).of_next next
  | settleFlows | unsettleFlows | readPartition | readWake | setClock | setAlarms | setTiming | clearHold | readBays
  | setShare | readNotices =>
    exact (takePlain_rates_of_pac (fun _ _ => rfl) h).of_next next
  | setPartition => exact (takePlain_rates (fun p _ => actSetPartition_rates p) h).of_next next
  | sleep => exact (takePlain_rates (fun p _ => actSleep_rates p) h).of_next next
  | spinDown => exact (takePlain_rates (fun p _ => actSpinDown_rates p) h).of_next next
  | setProfile => exact (takePlain_rates (fun p _ => actSetProfile_rates p) h).of_next next
  | readSession => exact (takePlain_rates (fun p _ => actReadSession_rates p) h).of_next next
  | haltSession => exact (takePlain_rates (fun p _ => actHaltSession_rates p) h).of_next next
  | ready =>
    exact (takeRequest_rates (act := actReady) (fun _ _ _ kept => kept) (fun _ => runReached_rates) h).of_next next
  | setNotices =>
    exact (takeRequest_rates (fun r p _ kept => kept.of_pac (actSetNotices_pac p r)) (fun _ kept => kept.of_pac)
      h).of_next next
  | programRetained =>
    exact (takeRequest_rates (fun r p _ kept => kept.of_pac (actProgramRetained_pac p r)) (fun _ kept => kept)
      h).of_next next

theorem step_rates {t : State} (h : RatesInRange s) (next : step s = .next t) : RatesInRange t := by
  unfold step at next
  split at next
  · exact (idle_rates h).of_next next
  · have waiting (rest : List Instr) : RatesInRange { s with pending := rest } := h
    exact exec_rates (waiting _) next

end

/-- Settles O59: a rate moves between FLOOR and a ceiling at most the peak, and a profile is stored clamped. -/
theorem stepsKeepRatesInRange : Obligations.StepsKeepRatesInRange :=
  fun _ _ kept next => step_rates kept next

end Sys2Proof.Machine
end

section
/-! SUPPORT and proofs: stray blocks, protocol errors, withdrawals and malformed frames (O39). -/

namespace Sys2Proof.Machine

/-! ## The session of a peer -/

section
variable {p : Pacing} {peer : MacAddr}

theorem slotOf_some_iff (i : Slot) (x : Session) : p.slotOf peer = some (i, x) ↔
    p.slots[i].session = some x ∧ x.peer = peer ∧
      ∀ j : Slot, j < i → ∀ y, p.slots[j].session = some y → y.peer ≠ peer := by
  refine ⟨fun found => ⟨slotOf_session found, ?_⟩, fun ⟨session, own, first⟩ => slotOf_first session own first⟩
  obtain ⟨before, k, after, split, here, others⟩ := List.findSome?_eq_some_iff.mp found
  have ascending : allSlots.Pairwise (· < ·) := by decide
  have every : ∀ j : Slot, j ∈ allSlots := by decide
  have named : ∀ y, p.slots[k].session = some y → (if y.peer = peer then some (k, y) else none) = some (i, x) :=
    fun y session => by rwa [session] at here
  cases session : p.slots[k].session with
  | none => rw [session] at here; nomatch here
  | some y =>
    have chosen := named y session
    split at chosen
    · rename_i own
      cases chosen
      refine ⟨own, fun j lower y held same => ?_⟩
      rw [split] at ascending every
      obtain ⟨-, fromHere, -⟩ := List.pairwise_append.mp ascending
      obtain ⟨later, -⟩ := List.pairwise_cons.mp fromHere
      have earlier : j ∈ before := by
        obtain member | member := List.mem_append.mp (every j)
        · exact member
        · obtain rfl | member := List.mem_cons.mp member
          · exact absurd lower (lt_irrefl _)
          · exact absurd lower (lt_asymm (later _ member))
      have unnamed := others j earlier
      rw [held] at unnamed
      exact absurd unnamed (by simp [same])
    · nomatch chosen

theorem slotOf_none_iff : p.slotOf peer = none ↔
    ∀ (j : Slot) (y : Session), p.slots[j].session = some y → y.peer ≠ peer := by
  refine ⟨fun unfound j y held same => ?_, slotOf_none⟩
  have every : ∀ j : Slot, j ∈ allSlots := by decide
  have unnamed := List.findSome?_eq_none_iff.mp unfound j (every j)
  rw [held] at unnamed
  exact absurd unnamed (by simp [same])

end

/-! ## The messages of a frame -/

section
variable {h : Handover}

/-- A message is named by its own type byte alone (Table 12.1). -/
theorem code_of_msgKindOf {b : Byte} {kind : MsgKind} (named : msgKindOf b = some kind) :
    b = BitVec.ofNat 8 kind.code := by
  unfold msgKindOf at named
  split at named
  all_goals rename_i code
  all_goals cases named
  all_goals exact BitVec.eq_of_toNat_eq code

theorem message_unnamed (ptype : h.ptype = none) : h.message = none := by
  rw [Handover.message, ptype]
  rfl

theorem message_offer (ptype : h.ptype = some 1) : h.message = some .offer := by
  rw [Handover.message, ptype]
  rfl

theorem message_withdraw (ptype : h.ptype = some 8) : h.message = some .withdraw := by
  rw [Handover.message, ptype]
  rfl

theorem message_block_eq (ptype : h.ptype = some 5) : h.message =
    if h.value = 0 ∨ 8128 < h.value ∨ h.payload.length - 12 < h.value then none else some .block := by
  rw [Handover.message, ptype]
  rfl

/-- A frame of another type than OFFER, BLOCK and WITHDRAW is malformed: a sender sends only those three (R111). -/
theorem message_other {b : Byte} (ptype : h.ptype = some b) (other : b ∉ ([1, 5, 8] : List Byte)) :
    h.message = none := by
  have unsent (kind : MsgKind) (sent : BitVec.ofNat 8 kind.code ∈ ([1, 5, 8] : List Byte)) :
      msgKindOf b ≠ some kind := fun named => other (code_of_msgKindOf named ▸ sent)
  rw [Handover.message, ptype, Option.bind_some]
  split
  · rename_i named
    exact absurd named (unsent .offer (by decide))
  · rename_i named
    exact absurd named (unsent .withdraw (by decide))
  · rename_i named
    exact absurd named (unsent .block (by decide))
  · rfl

theorem tag_toNat : h.tag.toNat = natAt h.payload 2 2 := by
  have fits : natAt h.payload 2 2 < 2 ^ 16 := natAt_lt ..
  exact (BitVec.toNat_ofNat ..).trans (Nat.mod_eq_of_lt fits)

end

/-! ## A frame taken -/

section
variable {s : State} {h : Handover} {i : Slot} {x : Session}

/-- The head of the handed-over frames is acted on as what it is (R111). -/
theorem takeHandover_head {rest : List Handover} {message : Option MsgKind} (act : Handover → State → State)
    (head : s.pac.incoming = h :: rest) (named : h.message = message) :
    takeHandover message act s = act h { s with pac.incoming := rest } := by
  rw [takeHandover, head]
  exact if_pos named

theorem takeBlock_noSession (slot : s.pac.slotOf h.peer = none) : takeBlock h s = protocolError s := by
  rw [takeBlock, slot]

theorem takeBlock_otherTag (slot : s.pac.slotOf h.peer = some (i, x)) (tag : x.tag ≠ h.tag) :
    takeBlock h s = protocolError s := by
  rw [takeBlock, slot]
  exact if_neg tag

theorem takeBlock_stray (slot : s.pac.slotOf h.peer = some (i, x)) (tag : x.tag = h.tag)
    (stray : ∀ g ∈ x.outstanding, g.seq ≠ h.seq) : takeBlock h s = strayBlock i x s := by
  have unfound : (x.outstanding.find? fun g => decide (g.seq = h.seq)) = none :=
    List.find?_eq_none.mpr fun g granted => by simpa using stray g granted
  rw [takeBlock, slot]
  refine (if_pos tag).trans ?_
  rw [unfound]

theorem takeWithdraw_noSession (slot : s.pac.slotOf h.peer = none) : takeWithdraw h s = protocolError s := by
  rw [takeWithdraw, slot]

theorem takeWithdraw_session (slot : s.pac.slotOf h.peer = some (i, x)) (tag : x.tag = h.tag) :
    takeWithdraw h s = arbitrate (haltSession i .withdrawn s) := by
  rw [takeWithdraw, slot]
  exact if_pos tag

theorem takeWithdraw_followOn {f : FollowOn} (slot : s.pac.slotOf h.peer = some (i, x)) (tag : x.tag ≠ h.tag)
    (followOn : x.followOn = some f) (own : f.tag = h.tag) :
    takeWithdraw h s = onSlot i (fun slot => { slot with session := some { x with followOn := none } }) s := by
  rw [takeWithdraw, slot]
  exact (if_neg tag).trans (if_pos (by simp [followOn, own]))

theorem takeWithdraw_unknown (slot : s.pac.slotOf h.peer = some (i, x)) (tag : x.tag ≠ h.tag)
    (other : ∀ f, x.followOn = some f → f.tag ≠ h.tag) : takeWithdraw h s = protocolError s := by
  rw [takeWithdraw, slot]
  refine (if_neg tag).trans (if_neg fun named => ?_)
  obtain ⟨f, followOn, own⟩ := (Option.any_eq_true ..).mp named
  exact other f followOn (of_decide_eq_true own)

end

/-- Settles O39: a BLOCK and a WITHDRAW case by case; the session of a peer; the fields and the messages of a frame. -/
theorem straysErrorsAndWithdrawals : Obligations.StraysErrorsAndWithdrawals := by
  refine ⟨fun s t h rest head eq => ?_, fun p peer => slotOf_some_iff, fun p peer => slotOf_none_iff, fun h => ?_⟩
  · subst eq
    refine ⟨fun block => ?_, fun malformed => congrArg Host.Outcome.next (takeHandover_head _ head malformed),
      fun withdraw => ?_⟩
    · have taken : exec .block s = .next (takeBlock h { s with pac.incoming := rest }) :=
        congrArg Host.Outcome.next (takeHandover_head takeBlock head block)
      rw [taken]
      refine ⟨fun i x slot tag stray => congrArg Host.Outcome.next (takeBlock_stray slot tag stray), ?_⟩
      rintro (slot | ⟨i, x, slot, tag⟩)
      · exact congrArg Host.Outcome.next (takeBlock_noSession slot)
      · exact congrArg Host.Outcome.next (takeBlock_otherTag slot tag)
    · have taken : exec .withdraw s = .next (takeWithdraw h { s with pac.incoming := rest }) :=
        congrArg Host.Outcome.next (takeHandover_head takeWithdraw head withdraw)
      rw [taken]
      exact ⟨fun slot => congrArg Host.Outcome.next (takeWithdraw_noSession slot),
        fun i x slot => ⟨fun tag => congrArg Host.Outcome.next (takeWithdraw_session slot tag),
          fun tag => ⟨fun f followOn own => congrArg Host.Outcome.next (takeWithdraw_followOn slot tag followOn own),
            fun other => congrArg Host.Outcome.next (takeWithdraw_unknown slot tag other)⟩⟩⟩
  · refine ⟨tag_toNat, rfl, rfl, rfl, decide_eq_true_iff, message_unnamed, fun b ptype =>
      ⟨message_other ptype, fun one => message_offer (one ▸ ptype), fun eight => message_withdraw (eight ▸ ptype),
        fun five => ?_⟩⟩
    rw [message_block_eq (five ▸ ptype)]
    exact ⟨fun malformed => if_pos malformed, fun low high carried => if_neg (by omega)⟩

end Sys2Proof.Machine
end

section
/-! SUPPORT and proofs: the stage arbiter and the grants it issues (O40). -/

namespace Sys2Proof.Machine

/-! ## Ready sessions -/

theorem sessionReady_iff (s : State) (x : Session) : sessionReady s x = true ↔
    x.draining = false ∧ x.nextDue.toNat ≤ s.time.us.toNat ∧ 0 < x.todo ∧
      x.outstanding.length < x.profile.window ∧ s.pac.queue.length < 24 ∧ x.nextSeq ≤ 4294967295 := by
  simp [sessionReady, and_assoc]

/-- Of two ready sessions the arbiter prefers the one with the earlier next due time, at equal times the one in the
lower slot (R120). -/
def Precedes (i : Slot) (x : Session) (j : Slot) (y : Session) : Prop :=
  x.nextDue.toNat < y.nextDue.toNat ∨ (x.nextDue = y.nextDue ∧ i ≤ j)

theorem Precedes.trans {i j k : Slot} {x y z : Session} (first : Precedes i x j y) (second : Precedes j y k z) :
    Precedes i x k z := by
  obtain earlier | ⟨same, lower⟩ := first
  · obtain later | ⟨same, -⟩ := second
    · exact .inl (earlier.trans later)
    · exact .inl (same ▸ earlier)
  · obtain later | ⟨same', lower'⟩ := second
    · exact .inl (same ▸ later)
    · exact .inr ⟨same.trans same', lower.trans lower'⟩

theorem Precedes.slot_eq {i j : Slot} {x y : Session} (first : Precedes i x j y) (second : Precedes j y i x) :
    i = j := by
  obtain earlier | ⟨same, lower⟩ := first <;> obtain earlier' | ⟨same', lower'⟩ := second
  · omega
  · rw [same'] at earlier
    exact absurd earlier (lt_irrefl _)
  · rw [same] at earlier'
    exact absurd earlier' (lt_irrefl _)
  · exact le_antisymm lower lower'

section
variable {s : State}

/-- One turn of the search for the earliest ready session. -/
def earliestTurn (s : State) (best : Option (Slot × Session)) (i : Slot) : Option (Slot × Session) :=
  match s.pac.slots[i].session with
  | some x =>
    if sessionReady s x then
      match best with
      | some (_, y) => if x.nextDue.toNat < y.nextDue.toNat then some (i, x) else best
      | none => some (i, x)
    else best
  | none => best

theorem earliestReady_eq (s : State) : earliestReady s = allSlots.foldl (earliestTurn s) none := rfl

/-- The ready session of a slot. -/
def ReadyIn (s : State) (i : Slot) (x : Session) : Prop :=
  s.pac.slots[i].session = some x ∧ sessionReady s x = true

/-- The best of the slots seen: none where none holds a ready session, else one that precedes all theirs. -/
def BestOf (s : State) (seen : List Slot) : Option (Slot × Session) → Prop
  | none => ∀ j ∈ seen, ∀ y, ¬ ReadyIn s j y
  | some (i, x) => i ∈ seen ∧ ReadyIn s i x ∧ ∀ j ∈ seen, ∀ y, ReadyIn s j y → Precedes i x j y

/-- A slot that holds no ready session, or one that the best so far precedes, changes nothing. -/
theorem BestOf.passes {seen : List Slot} {best : Option (Slot × Session)} {k : Slot} (h : BestOf s seen best)
    (passed : ∀ y, ReadyIn s k y → ∃ i x, best = some (i, x) ∧ Precedes i x k y) : BestOf s (seen ++ [k]) best := by
  cases best with
  | none =>
    intro j member y ready
    obtain member | member := List.mem_append.mp member
    · exact h j member y ready
    · obtain rfl := List.mem_singleton.mp member
      obtain ⟨_, _, none, -⟩ := passed y ready
      nomatch none
  | some p =>
    obtain ⟨member, ready, precedes⟩ := h
    refine ⟨List.mem_append_left _ member, ready, fun j other y ready' => ?_⟩
    obtain other | other := List.mem_append.mp other
    · exact precedes j other y ready'
    · obtain rfl := List.mem_singleton.mp other
      obtain ⟨_, _, same, precedes'⟩ := passed y ready'
      cases same
      exact precedes'

/-- A slot whose ready session precedes the best so far takes its place. -/
theorem BestOf.takes {seen : List Slot} {best : Option (Slot × Session)} {k : Slot} {x : Session}
    (h : BestOf s seen best) (ready : ReadyIn s k x)
    (first : ∀ i y, best = some (i, y) → Precedes k x i y) : BestOf s (seen ++ [k]) (some (k, x)) := by
  refine ⟨by simp, ready, fun j member y ready' => ?_⟩
  obtain member | member := List.mem_append.mp member
  · cases best with
    | none => exact absurd ready' (h j member y)
    | some p =>
      obtain ⟨-, -, precedes⟩ := h
      exact (first _ _ rfl).trans (precedes j member y ready')
  · obtain rfl := List.mem_singleton.mp member
    obtain ⟨session, -⟩ := ready
    obtain ⟨session', -⟩ := ready'
    obtain rfl := Option.some.inj (session.symm.trans session')
    exact .inr ⟨rfl, le_refl _⟩

theorem earliestTurn_best {seen : List Slot} {best : Option (Slot × Session)} {k : Slot}
    (ascending : ∀ j ∈ seen, j < k) (h : BestOf s seen best) : BestOf s (seen ++ [k]) (earliestTurn s best k) := by
  unfold earliestTurn
  split
  · rename_i x session
    split
    · rename_i ready
      split
      · rename_i i y
        split
        · rename_i earlier
          exact h.takes ⟨session, ready⟩ fun _ _ same => by cases same; exact .inl earlier
        · rename_i later
          have ⟨member, _⟩ := h
          have lower := ascending i member
          refine h.passes fun z ready' => ⟨i, y, rfl, ?_⟩
          obtain ⟨session', -⟩ := ready'
          obtain rfl := Option.some.inj (session.symm.trans session')
          obtain earlier | same := Nat.lt_or_eq_of_le (Nat.not_lt.mp later)
          · exact .inl earlier
          · exact .inr ⟨BitVec.eq_of_toNat_eq same, le_of_lt lower⟩
      · exact h.takes ⟨session, ready⟩ nofun
    · rename_i unready
      refine h.passes fun z ready => ?_
      obtain ⟨session', ready⟩ := ready
      obtain rfl := Option.some.inj (session.symm.trans session')
      exact absurd ready unready
  · rename_i idle
    refine h.passes fun z ready => ?_
    obtain ⟨session, -⟩ := ready
    nomatch idle.symm.trans session

theorem earliestReady_best (s : State) : BestOf s allSlots (earliestReady s) := by
  have fold : ∀ (l seen : List Slot) (best : Option (Slot × Session)), (seen ++ l).Pairwise (· < ·) →
      BestOf s seen best → BestOf s (seen ++ l) (l.foldl (earliestTurn s) best) := by
    intro l
    induction l with
    | nil => exact fun seen best _ h => by simpa using h
    | cons k ks ih =>
      intro seen best ascending h
      obtain ⟨-, -, across⟩ := List.pairwise_append.mp ascending
      have below : ∀ j ∈ seen, j < k := fun j member => across j member k List.mem_cons_self
      rw [List.append_cons] at ascending ⊢
      exact ih _ _ ascending (earliestTurn_best below h)
  rw [earliestReady_eq]
  exact fold allSlots [] none (by decide) nofun

/-- The ready session that precedes every other is the one the arbiter serves (R120). -/
theorem earliestReady_of_first {i : Slot} {x : Session} (session : s.pac.slots[i].session = some x)
    (ready : sessionReady s x = true)
    (first : ∀ (j : Slot) y, s.pac.slots[j].session = some y → sessionReady s y = true → Precedes i x j y) :
    earliestReady s = some (i, x) := by
  have every : ∀ j : Slot, j ∈ allSlots := by decide
  have best := earliestReady_best s
  cases found : earliestReady s with
  | none =>
    rw [found] at best
    exact absurd ⟨session, ready⟩ (best i (every i) x)
  | some p =>
    obtain ⟨j, y⟩ := p
    rw [found] at best
    obtain ⟨-, ⟨session', ready'⟩, precedes⟩ := best
    obtain rfl := (first j y session' ready').slot_eq (precedes i (every i) x ⟨session, ready⟩)
    obtain rfl := Option.some.inj (session.symm.trans session')
    rfl

/-! ## FREE stage slots -/

theorem lowestFree_none {stage : List StageSlot} (taken : ∀ slot ∈ stage, slot ≠ .free) : lowestFree stage = none :=
  Option.isNone_iff_eq_none.mp ((lowestFree_isNone stage).mpr taken)

theorem lowestFree_first {stage : List StageSlot} {k : Nat} (bound : k < stage.length)
    (free : stage.getD k .free = .free) (first : ∀ j < k, stage.getD j .free ≠ .free) : lowestFree stage = some k := by
  have here {j : Nat} (inside : j < stage.length) : stage.getD j .free = stage[j] := by
    rw [List.getD_eq_getElem?_getD, List.getElem?_eq_getElem inside, Option.getD_some]
  refine List.findIdx?_eq_some_iff_getElem.mpr ⟨bound, (isFree_iff _).mpr ((here bound).symm.trans free), ?_⟩
  intro j lower isFree
  exact first j lower ((here (lower.trans bound)).trans ((isFree_iff _).mp isFree))

/-- How many stage slots are FREE. -/
def freeSlots (stage : List StageSlot) : Nat :=
  stage.countP StageSlot.isFree

/-- A FREE slot RESERVED is one FREE slot less. -/
theorem freeSlots_reserved {stage : List StageSlot} {k : Nat} (owner : StageOwner) (bound : k < stage.length)
    (free : stage.getD k .free = .free) : freeSlots (stage.set k (.reserved owner)) + 1 = freeSlots stage := by
  have here : stage[k] = .free := by
    rwa [List.getD_eq_getElem?_getD, List.getElem?_eq_getElem bound, Option.getD_some] at free
  have some : 0 < freeSlots stage :=
    List.countP_pos_iff.mpr ⟨stage[k], List.getElem_mem bound, by rw [here]; rfl⟩
  unfold freeSlots at some ⊢
  rw [List.countP_set bound, here]
  simp only [StageSlot.isFree, if_true, Bool.false_eq_true, if_false]
  omega

/-! ## The arbiter -/

theorem arbitrateN_none {n : Nat} (taken : lowestFree s.pac.stage = none) : arbitrateN n s = s := by
  cases n with
  | zero => rfl
  | succ n => rw [arbitrateN, taken]

theorem arbitrateN_serves {n k : Nat} {i : Slot} {x : Session} (slot : lowestFree s.pac.stage = some k)
    (earliest : earliestReady s = some (i, x)) : arbitrateN (n + 1) s = arbitrateN n (issueGrant i x k s) := by
  rw [arbitrateN, slot, earliest]

@[simp] theorem issueGrant_stage (i : Slot) (x : Session) (k : Nat) (s : State) : (issueGrant i x k s).pac.stage =
    s.pac.stage.set k (.reserved { slot := i, tag := x.tag, seq := x.nextSeq }) :=
  congrArg Core.stage (core_queueMsg _)

/-- Every grant takes a FREE slot: no more turns than there are FREE slots change anything (R120). -/
theorem arbitrateN_enough {n : Nat} :
    ∀ s : State, freeSlots s.pac.stage ≤ n → arbitrateN (n + 1) s = arbitrateN n s := by
  induction n with
  | zero =>
    intro s enough
    have taken : lowestFree s.pac.stage = none := by
      refine lowestFree_none fun slot member free => ?_
      have some : 0 < freeSlots s.pac.stage := List.countP_pos_iff.mpr ⟨slot, member, (isFree_iff slot).mpr free⟩
      omega
    rw [arbitrateN_none taken, arbitrateN_none taken]
  | succ n ih =>
    intro s enough
    cases slot : lowestFree s.pac.stage with
    | none => rw [arbitrateN_none slot, arbitrateN_none slot]
    | some k =>
      cases earliest : earliestReady s with
      | none => rw [arbitrateN, arbitrateN, slot, earliest]
      | some p =>
        obtain ⟨bound, free⟩ := lowestFree_some slot
        rw [arbitrateN_serves slot earliest, arbitrateN_serves slot earliest]
        have fewer := freeSlots_reserved { slot := p.1, tag := p.2.tag, seq := p.2.nextSeq } bound free
        exact ih _ (by rw [issueGrant_stage]; omega)

theorem arbitrate_full (taken : ∀ slot ∈ s.pac.stage, slot ≠ .free) : arbitrate s = s :=
  arbitrateN_none (lowestFree_none taken)

/-- The arbiter serves one session and goes on as if it had just begun (R120). -/
theorem arbitrate_serves {k : Nat} {i : Slot} {x : Session} (slot : lowestFree s.pac.stage = some k)
    (earliest : earliestReady s = some (i, x)) : arbitrate s = arbitrate (issueGrant i x k s) := by
  obtain ⟨bound, free⟩ := lowestFree_some slot
  obtain ⟨n, length⟩ := Nat.exists_eq_add_of_lt bound
  have fewer := freeSlots_reserved { slot := i, tag := x.tag, seq := x.nextSeq } bound free
  have most : freeSlots s.pac.stage ≤ s.pac.stage.length := List.countP_le_length
  have length' : s.pac.stage.length = (k + n) + 1 := by omega
  unfold arbitrate
  rw [issueGrant_stage, List.length_set, length', arbitrateN_serves slot earliest]
  exact (arbitrateN_enough _ (by rw [issueGrant_stage]; omega)).symm

/-! ## A grant issued -/

/-- What a grant records in its session; phase and rate are those of the grant step (R119, R152). -/
theorem granted_records (s : State) (k : Nat) (x : Session) : x.granted s k =
    { x with
      outstanding := x.outstanding ++
        [{ seq := x.nextSeq, stage := k, deadline := s.time.ms + BitVec.ofNat 32 x.profile.deadline }],
      nextSeq := x.nextSeq + 1, todo := x.todo - 1, stallAcc := 0, phase := (x.granted s k).phase,
      rate := (x.granted s k).rate, nextDue := s.time.us + BitVec.ofNat 64 (1000000 / (x.granted s k).rate) } := by
  obtain ⟨phase, rate, eq, -⟩ := grantStep_eq (mayRise s x) (ceilingOf s.share.active x) (x.issued s k)
  have granted : x.granted s k =
      { x.issued s k with
        phase := phase, rate := rate, nextDue := s.time.us + BitVec.ofNat 64 (1000000 / rate) } :=
    congrArg (fun y : Session => { y with nextDue := s.time.us + BitVec.ofNat 64 (interval y.rate) }) eq
  rw [granted]
  rfl

/-- With the LAN busy the GRANT of a ready session waits in the queue, which has room for it (R112, R119). -/
theorem issueGrant_busy {i : Slot} {x : Session} {k : Nat} (ready : sessionReady s x = true)
    (busy : s.lan.sending.isSome = true) : issueGrant i x k s =
      { s with
        pac.slots := vecMod s.pac.slots i fun slot => { slot with session := some (x.granted s k) },
        pac.stage := s.pac.stage.set k (.reserved { slot := i, tag := x.tag, seq := x.nextSeq }),
        pac.queue := s.pac.queue ++ [grantMsg x.peer x.tag x.nextSeq x.profile.deadline] } := by
  obtain ⟨-, -, -, -, room, -⟩ := (sessionReady_iff s x).mp ready
  rw [issueGrant, queueMsg_busy]
  · rfl
  · exact room
  · exact busy

end

/-- Settles O40: the search of the arbiter finds the first of the ready sessions, and a grant takes a FREE slot. -/
theorem theArbiterServesTheEarliestSession : Obligations.TheArbiterServesTheEarliestSession := by
  refine ⟨sessionReady_iff, fun s => ⟨rfl, ?_, fun k i x bound free lowest session ready first => ?_⟩,
    fun s i x k session ready busy => ?_⟩
  · rintro (taken | unready)
    · exact congrArg Host.Outcome.next (arbitrate_full taken)
    · exact congrArg Host.Outcome.next (arbitrate_none unready)
  · have served := arbitrate_serves (lowestFree_first bound free lowest) (earliestReady_of_first session ready first)
    exact ⟨_, congrArg Host.Outcome.next served, rfl⟩
  · refine ⟨vecMod s.pac.slots i fun slot => { slot with session := some (x.granted s k) }, x.granted s k,
      issueGrant_busy ready busy, by simp, fun j other => getElem_vecMod_ne _ _ _ _ other, rfl, granted_records s k x⟩

end Sys2Proof.Machine
end

section
/-! SUPPORT and proofs: the expiries of a grant, of the sequences and of the stall timer (O41). -/

namespace Sys2Proof.Machine

section
variable {s : State} {i : Slot} {x : Session}

/-! ## The deadline of a grant -/

theorem left_eq_zero_iff (g : Grant) (now : Word32) :
    g.left now = 0 ↔ g.deadline = now ∨ 2147483648 ≤ (g.deadline - now).toNat := by
  have same : (g.deadline - now).toNat = 0 ↔ g.deadline = now := by bv_omega
  rw [← same, Grant.left]
  split <;> omega

theorem left_of_ne_zero {g : Grant} {now : Word32} (left : g.left now ≠ 0) :
    g.left now = (g.deadline - now).toNat := by
  simp only [Grant.left] at left ⊢
  split
  · rfl
  · rename_i passed
    exact absurd (if_neg passed) left

/-! ## The expiry of a grant -/

/-- In a lawful session the grant of a sequence is found by it (R119). -/
theorem find_granted {g : Grant} (lawful : x.lawful) (granted : g ∈ x.outstanding) :
    (x.outstanding.find? fun y => decide (y.seq = g.seq)) = some g := by
  cases found : x.outstanding.find? fun y => decide (y.seq = g.seq) with
  | none => exact absurd (List.find?_eq_none.mp found g granted) (by simp)
  | some f =>
    have same : f.seq = g.seq := by simpa using List.find?_some found
    rw [grant_of_seq lawful (List.mem_of_find?_eq_some found) granted same]

theorem exec_grantExpiry {g : Grant} (session : s.pac.slots[i].session = some x) (running : x.draining = false)
    (lawful : x.lawful) (granted : g ∈ x.outstanding) : exec (.grantExpiry i g.seq) s =
      .next (if g.left s.time.ms = 0 then expireGrant i x g s else s) := by
  refine congrArg Host.Outcome.next ?_
  rw [session]
  dsimp only
  rw [find_granted lawful granted]
  simp only [running, true_and]

/-- With no grant of the sequence on a RUNNING session's list there is nothing to expire (R125). -/
theorem exec_grantExpiry_none {seq : Nat} (none : s.pac.slots[i].session = none ∨
    ∃ x, s.pac.slots[i].session = some x ∧ (x.draining = true ∨ ∀ g ∈ x.outstanding, g.seq ≠ seq)) :
    exec (.grantExpiry i seq) s = .next s := by
  refine congrArg Host.Outcome.next ?_
  obtain idle | ⟨x, session, other⟩ := none
  · rw [idle]
  · rw [session]
    dsimp only
    split
    · rename_i g found
      refine if_neg fun ⟨running, _⟩ => ?_
      obtain draining | unlisted := other
      · nomatch running.symm.trans draining
      · exact unlisted g (List.mem_of_find?_eq_some found) (by simpa using List.find?_some found)
    · rfl

/-! ## The halts -/

section
variable {cond : State → Session → Bool} {cause : HaltCause}

theorem haltIf_holds (session : s.pac.slots[i].session = some x) (holds : cond s x = true) :
    haltIf cond i cause s = arbitrate (haltSession i cause s) := by
  rw [haltIf, session]
  exact if_pos holds

theorem haltIf_fails (session : s.pac.slots[i].session = some x) (fails : cond s x = false) :
    haltIf cond i cause s = s := by
  rw [haltIf, session]
  exact if_neg (by rw [fails]; nofun)

end

theorem sequencesOut_iff (s : State) (x : Session) : sequencesOut s x = true ↔
    x.draining = false ∧ 0 < x.todo ∧ x.nextDue.toNat ≤ s.time.us.toNat ∧ 4294967295 < x.nextSeq := by
  simp [sequencesOut, and_assoc]

theorem stallOut_iff (s : State) (x : Session) : stallOut s x = true ↔
    sessionReady s x = true ∧ (∀ slot ∈ s.pac.stage, slot ≠ .free) ∧ x.profile.stallLimit * 1000 ≤ x.stallAcc := by
  rw [stallOut, Bool.and_eq_true, stallRuns_iff, and_assoc, decide_eq_true_iff]

end

/-- Settles O41: an expiry by its deadline, the two halts by their conditions. -/
theorem expiriesHaltOrGrantAgain : Obligations.ExpiriesHaltOrGrantAgain := by
  refine ⟨fun s i x g session running lawful granted => ?_, fun g now => ⟨left_eq_zero_iff g now, left_of_ne_zero⟩,
    fun s i seq none => exec_grantExpiry_none none,
    fun s i idle => ⟨congrArg Host.Outcome.next (haltIf_idle idle _ _),
      congrArg Host.Outcome.next (haltIf_idle idle _ _)⟩,
    fun s i x session => ⟨fun running todo due out => ?_, fun early => ?_, fun ready taken limit => ?_,
      fun early => ?_⟩⟩
  · rw [exec_grantExpiry session running lawful granted]
    refine ⟨fun early => congrArg Host.Outcome.next (if_neg early), fun due => ?_⟩
    rw [if_pos due]
    exact ⟨fun below => congrArg (fun t => Host.Outcome.next (arbitrate t)) (if_neg below),
      fun limit => congrArg (fun t => Host.Outcome.next (arbitrate t)) (if_pos limit)⟩
  · have exhausted : sequencesOut s x = true := (sequencesOut_iff s x).mpr ⟨running, todo, due, by omega⟩
    exact congrArg Host.Outcome.next (haltIf_holds session exhausted)
  · refine congrArg Host.Outcome.next (haltIf_fails session (Bool.eq_false_iff.mpr fun exhausted => ?_))
    obtain ⟨running, todo, due, out⟩ := (sequencesOut_iff s x).mp exhausted
    simp only [running, Bool.false_eq_true, false_or] at early
    omega
  · exact congrArg Host.Outcome.next (haltIf_holds session ((stallOut_iff s x).mpr ⟨ready, taken, limit⟩))
  · refine congrArg Host.Outcome.next (haltIf_fails session (Bool.eq_false_iff.mpr fun stalled => ?_))
    obtain ⟨ready, taken, limit⟩ := (stallOut_iff s x).mp stalled
    obtain unready | ⟨slot, member, free⟩ | below := early
    · nomatch ready.symm.trans unready
    · exact taken slot member free
    · omega

end Sys2Proof.Machine
end

section
/-! SUPPORT and proofs: what a halt leaves, and HALT_SESSION (O42). -/

namespace Sys2Proof.Machine

/-! ## Counters -/

theorem satAdd_zero {w : Nat} (c : BitVec w) : satAdd c 0 = c := by
  refine BitVec.eq_of_toNat_eq ?_
  have bound := c.isLt
  rw [satAdd_toNat]
  omega

/-- A saturating counter raised twice has been raised by the sum. -/
theorem satAdd_satAdd {w : Nat} (c : BitVec w) (m n : Nat) : satAdd (satAdd c m) n = satAdd c (m + n) := by
  refine BitVec.eq_of_toNat_eq ?_
  rw [satAdd_toNat, satAdd_toNat, satAdd_toNat]
  omega

/-! ## Messages on a busy LAN -/

/-- The pacing-message queue after a message has joined it where there is room (R112). -/
def posted (m : PacingMsg) (queue : List PacingMsg) : List PacingMsg :=
  if m.kind.room ≤ queue.length then queue else queue ++ [m]

/-- Whether a message finds no room in the queue, as a count. -/
def unposted (m : PacingMsg) (queue : List PacingMsg) : Nat :=
  (decide (m.kind.room ≤ queue.length)).toNat

section
variable {s : State} {i : Slot} {x : Session} {cause : HaltCause}

/-- On a busy LAN a message waits in the queue, or is counted as lost (R112). -/
theorem queueMsg_posts (m : PacingMsg) (busy : s.lan.sending.isSome = true) : queueMsg m s =
    { s with
      pac.queue := posted m s.pac.queue, pac.replyLost := satAdd s.pac.replyLost (unposted m s.pac.queue) } := by
  unfold posted unposted
  by_cases full : m.kind.room ≤ s.pac.queue.length
  · simp only [full, if_true, decide_true, Bool.toNat_true]
    exact queueMsg_full full
  · simp only [full, if_false, decide_false, Bool.toNat_false, satAdd_zero]
    exact queueMsg_busy (Nat.not_le.mp full) busy

/-- The DECLINE of the follow-on that a halt discards (R130). -/
def followOnDecline (x : Session) (f : FollowOn) : PacingMsg :=
  declineMsg x.peer f.tag .peerBusy

theorem declineFollowOn_posts (busy : s.lan.sending.isSome = true) :
    (declineFollowOn x s).pac.queue = x.followOn.elim s.pac.queue (fun f => posted (followOnDecline x f) s.pac.queue) ∧
      (declineFollowOn x s).pac.replyLost =
        satAdd s.pac.replyLost (x.followOn.elim 0 fun f => unposted (followOnDecline x f) s.pac.queue) := by
  unfold declineFollowOn
  cases x.followOn with
  | none => exact ⟨rfl, (satAdd_zero _).symm⟩
  | some f =>
    dsimp only
    rw [queueMsg_posts _ busy]
    exact ⟨rfl, rfl⟩

/-! ## What a halt leaves -/

/-- The part with the slot of a halting session IDLE and the stage slots of its grants FREE, before anything is told
(R130). -/
def slotVacated (i : Slot) (x : Session) (cause : HaltCause) (s : State) : State :=
  onSlot i
    (fun slot =>
      { session := none,
        leftBehind := if cause = .wakeFault then slot.leftBehind else slot.leftBehind + x.undelivered })
    { s with pac.stage := freeStages x.outstanding s.pac.stage }

/-- A halt under LINK_DOWN tells the peer nothing (R130, R131). -/
theorem haltSession_linkDown (session : s.pac.slots[i].session = some x) : haltSession i .linkDown s =
    changeNeeded x.bays 0 (addOutcome x.tag (.halted .linkDown) (slotVacated i x .linkDown s)) := by
  rw [haltSession, session]
  rfl

/-- Any other halt queues HALT, and the DECLINE of the follow-on behind it (R130). -/
theorem haltSession_told (session : s.pac.slots[i].session = some x) (up : cause ≠ .linkDown) : haltSession i cause s =
    changeNeeded x.bays 0
      (declineFollowOn x
        (addOutcome x.tag (.halted cause)
          (queueMsg (haltMsg x.peer x.tag x.received cause) (slotVacated i x cause s)))) := by
  rw [haltSession, session]
  dsimp only
  rw [if_neg up, if_neg up]
  rfl

theorem core_haltSession (session : s.pac.slots[i].session = some x) :
    (haltSession i cause s).core = (slotVacated i x cause s).core := by
  by_cases down : cause = .linkDown
  · subst down
    rw [haltSession_linkDown session, core_changeNeeded, core_addOutcome]
  · rw [haltSession_told session down, core_changeNeeded, core_declineFollowOn, core_addOutcome, core_queueMsg]

theorem haltSession_stage (session : s.pac.slots[i].session = some x) :
    (haltSession i cause s).pac.stage = freeStages x.outstanding s.pac.stage :=
  congrArg Core.stage (core_haltSession session)

theorem haltSession_fifo (session : s.pac.slots[i].session = some x) :
    (haltSession i cause s).pac.fifo = s.pac.fifo :=
  congrArg Core.fifo (core_haltSession session)

/-- The stage slots of the cancelled grants are FREE, the others as they were (R130). -/
theorem getD_freeStages (grants : List Grant) (stage : List StageSlot) {k : Nat} (bound : k < stage.length) :
    (freeStages grants stage).getD k .free = if ∃ g ∈ grants, g.stage = k then .free else stage.getD k .free := by
  rw [List.getD_eq_getElem?_getD, List.getD_eq_getElem?_getD, getElem?_freeStages]
  split <;> simp [bound]

/-- An outcome is recorded by what the notice unit holds alone (R179). -/
theorem addOutcome_note_of_note {t : State} (note : t.note = s.note) (tag : Word16) (outcome : SessionOutcome) :
    (addOutcome tag outcome t).note = (addOutcome tag outcome s).note := by
  unfold addOutcome raise
  rw [note]
  split <;> rfl

theorem haltSession_note (session : s.pac.slots[i].session = some x) :
    (haltSession i cause s).note = (addOutcome x.tag (.halted cause) s).note := by
  by_cases down : cause = .linkDown
  · subst down
    rw [haltSession_linkDown session, changeNeeded_note]
    exact addOutcome_note_of_note (t := slotVacated i x .linkDown s) (s := s) rfl _ _
  · rw [haltSession_told session down, changeNeeded_note, declineFollowOn_note]
    have untouched : (slotVacated i x cause s).note = s.note := rfl
    exact addOutcome_note_of_note ((queueMsg_note ..).trans untouched) _ _

theorem haltSession_needed (session : s.pac.slots[i].session = some x) (b : Bay) :
    (haltSession i cause s).bay.bays[b].needed = s.bay.bays[b].needed - (hasBay x.bays b).toNat := by
  have recounted : (haltSession i cause s).bay.bays[b] = s.bay.bays[b].recount (hasBay x.bays b) (hasBay 0 b) :=
    (congrArg (fun c : BayControl => c.bays[b]) (haltSession_bay session)).trans (Vector.getElem_ofFn ..)
  rw [recounted, hasBay_zero]
  rfl

/-- The pacing-message queue after a message of a halt: under LINK_DOWN none is built (R112, R130). -/
def haltPosted (cause : HaltCause) (m : PacingMsg) (queue : List PacingMsg) : List PacingMsg :=
  if cause = .linkDown ∨ m.kind.room ≤ queue.length then queue else queue ++ [m]

theorem haltPosted_linkDown (m : PacingMsg) (queue : List PacingMsg) : haltPosted .linkDown m queue = queue :=
  if_pos (.inl rfl)

theorem haltPosted_told (up : cause ≠ .linkDown) : haltPosted cause = posted := by
  funext m queue
  simp only [haltPosted, posted, up, false_or]

/-- HALT stands ahead of the follow-on's DECLINE, and what finds no room is counted as lost (R112, R130). -/
theorem haltSession_messages (session : s.pac.slots[i].session = some x) (busy : s.lan.sending.isSome = true)
    {halt : PacingMsg} {told : List PacingMsg} (isHalt : halt = haltMsg x.peer x.tag x.received cause)
    (isTold : told = haltPosted cause halt s.pac.queue) :
    (haltSession i cause s).pac.queue = x.followOn.elim told (fun f => haltPosted cause (followOnDecline x f) told) ∧
      (haltSession i cause s).pac.replyLost = satAdd s.pac.replyLost
        (if cause = .linkDown then 0
         else unposted halt s.pac.queue + x.followOn.elim 0 fun f => unposted (followOnDecline x f) told) := by
  by_cases down : cause = .linkDown
  · subst down isTold
    rw [haltSession_linkDown session, changeNeeded_pac, addOutcome_pac, if_pos rfl, satAdd_zero]
    simp only [haltPosted_linkDown]
    exact ⟨by cases x.followOn <;> rfl, rfl⟩
  · rw [haltPosted_told down] at isTold ⊢
    subst isHalt isTold
    rw [haltSession_told session down, changeNeeded_pac, if_neg down]
    have posts := queueMsg_posts (s := slotVacated i x cause s) (haltMsg x.peer x.tag x.received cause) busy
    generalize recorded : addOutcome x.tag (.halted cause) _ = t
    have pac : t.pac = (queueMsg (haltMsg x.peer x.tag x.received cause) (slotVacated i x cause s)).pac := by
      rw [← recorded, addOutcome_pac]
    have lan : t.lan = s.lan := by
      rw [← recorded, addOutcome_lan, posts]
      rfl
    obtain ⟨queue, lost⟩ := declineFollowOn_posts (x := x) (s := t) (lan ▸ busy)
    rw [queue, lost, pac, posts]
    exact ⟨rfl, satAdd_satAdd ..⟩

/-! ## HALT_SESSION -/

section
variable {p : List Byte}

theorem actHaltSession_index (index : 3 < natAt p 0 1) : actHaltSession p s = .refuse s .badArgument :=
  dif_neg (by omega)

section
variable (index : natAt p 0 1 = i.val)
include index

theorem actHaltSession_idle (idle : s.pac.slots[i].session = none) : actHaltSession p s = .refuse s .notFound := by
  obtain ⟨i, bound⟩ := i
  obtain rfl : natAt p 0 1 = i := index
  rw [actHaltSession, dif_pos bound]
  dsimp only
  rw [idle]

theorem actHaltSession_otherTag (session : s.pac.slots[i].session = some x) (other : x.tag.toNat ≠ natAt p 1 2) :
    actHaltSession p s = .refuse s .notFound := by
  obtain ⟨i, bound⟩ := i
  obtain rfl : natAt p 0 1 = i := index
  rw [actHaltSession, dif_pos bound]
  dsimp only
  rw [session]
  exact if_neg other

theorem actHaltSession_session (session : s.pac.slots[i].session = some x) (tag : x.tag.toNat = natAt p 1 2) :
    actHaltSession p s =
      .ok (arbitrate (haltSession i .hostHalt s)) (num 4 x.received ++ num 4 x.undelivered) := by
  obtain ⟨i, bound⟩ := i
  obtain rfl : natAt p 0 1 = i := index
  rw [actHaltSession, dif_pos bound]
  dsimp only
  rw [session]
  exact if_pos tag

end

end

end

/-- An outcome joins the list, at 8 records in the place of the oldest (R179). -/
theorem addOutcome_eq (tag : Word16) (outcome : SessionOutcome) (s : State) : addOutcome tag outcome s =
    raise .sessionEnd .sessionEnd
      { s with
        note.outcomes :=
          (if s.note.outcomes.length < 8 then s.note.outcomes else s.note.outcomes.drop 1) ++ [(tag, outcome)],
        note.lost := if s.note.outcomes.length < 8 then s.note.lost else satAdd s.note.lost 1 } := by
  unfold addOutcome
  split <;> rfl

/-- Settles O42: a halt part by part, its messages by whether the link is down, and the request by its checks. -/
theorem aHaltEndsTheSession : Obligations.AHaltEndsTheSession := by
  refine ⟨fun s i x cause session busy => ?_, by decide, addOutcome_eq, fun s r p rest taken =>
    ⟨fun index => ?_, fun i index => ⟨fun idle => ?_, fun x session => ⟨fun other => ?_, fun tag => ?_⟩⟩⟩⟩
  · refine ⟨_, _, rfl, ?_, fun j other => ?_, fun k bound => ?_, rfl, fun f followOn => ?_, fun alone => ?_, ?_,
      haltSession_note session, haltSession_needed session, haltSession_fifo session, haltSession_cells ..,
      haltSession_hold .., haltSession_pow ..⟩
    · rw [haltSession_slots session]
      simp
    · rw [haltSession_slots session]
      exact getElem_vecMod_ne _ _ _ _ other
    · rw [haltSession_stage session]
      exact getD_freeStages _ _ bound
    all_goals obtain ⟨queue, lost⟩ := haltSession_messages session busy (cause := cause) rfl rfl
    · rw [queue, followOn]
      rfl
    · rw [queue, alone]
      rfl
    · rw [lost]
      cases x.followOn <;> rfl
  · exact congrArg Host.Outcome.next (takePlain_refuse taken nofun (actHaltSession_index index))
  · exact congrArg Host.Outcome.next (takePlain_refuse taken nofun (actHaltSession_idle index idle))
  · exact congrArg Host.Outcome.next (takePlain_refuse taken nofun (actHaltSession_otherTag index session other))
  · exact congrArg Host.Outcome.next (takePlain_ok taken (actHaltSession_session index session tag))

end Sys2Proof.Machine
end

section
/-! SUPPORT and proofs: SET_PROFILE, SET_SHARE and the end of the share window (O43). -/

namespace Sys2Proof.Machine

/-! ## The profile that SET_PROFILE carries -/

theorem taperModeOf_eq (b : Byte) :
    taperModeOf b = if b.toNat ≤ 1 then some (if b.toNat = 0 then .auto else .manual) else none := by
  revert b
  decide

theorem strictFlag_eq (b : Byte) : strictFlag b = if b.toNat ≤ 1 then some (decide (b.toNat = 1)) else none := by
  revert b
  decide

section
variable {p : List Byte} {s : State}

/-- The profile that SET_PROFILE carries behind its index, before it is clamped (R134). -/
def profileCarried (p : List Byte) : Profile :=
  { floor := natAt p 1 2, peak := natAt p 3 2, rise := natAt p 5 2, fall := natAt p 7 2, margin := natAt p 9 1,
    taper := if natAt p 10 1 = 0 then .auto else .manual, revision := decide (natAt p 11 1 = 1),
    manualPoint := natAt p 12 2, ceiling := natAt p 14 2, window := natAt p 16 1, deadline := natAt p 17 2,
    expiryLimit := natAt p 19 1, stallLimit := natAt p 20 2, followOn := decide (natAt p 22 1 = 1) }

/-- The three choices of two values are each read alone, and each other value refused (R134). -/
theorem parseProfile_eq (p : List Byte) : parseProfile (p.drop 1) =
    if natAt p 10 1 ≤ 1 ∧ natAt p 11 1 ≤ 1 ∧ natAt p 22 1 ≤ 1 then some (profileCarried p) else none := by
  simp only [parseProfile, taperModeOf_eq, strictFlag_eq, ← natAt_one, natAt_drop]
  by_cases taper : natAt p 10 1 ≤ 1
  · by_cases revision : natAt p 11 1 ≤ 1
    · by_cases followOn : natAt p 22 1 ≤ 1
      · simp only [taper, revision, followOn, if_true, true_and]
        rfl
      · simp only [taper, revision, followOn, if_true, if_false, and_false]
    · simp only [taper, revision, if_true, if_false, and_false, false_and]
  · simp only [taper, if_false, false_and]

theorem actSetProfile_refuses
    (other : 3 < natAt p 0 1 ∨ 1 < natAt p 10 1 ∨ 1 < natAt p 11 1 ∨ 1 < natAt p 22 1) :
    actSetProfile p s = .refuse s .badArgument := by
  by_cases index : natAt p 0 1 < 4
  · have refused : ¬ (natAt p 10 1 ≤ 1 ∧ natAt p 11 1 ≤ 1 ∧ natAt p 22 1 ≤ 1) := by omega
    rw [actSetProfile, dif_pos index, parseProfile_eq, if_neg refused]
  · exact dif_neg index

theorem actSetProfile_stores (index : natAt p 0 1 < 4)
    (choices : natAt p 10 1 ≤ 1 ∧ natAt p 11 1 ≤ 1 ∧ natAt p 22 1 ≤ 1) :
    actSetProfile p s =
      .ok { s with pac.profiles := s.pac.profiles.set (natAt p 0 1) (profileCarried p).clamped }
        (profileCarried p).clamped.carried := by
  rw [actSetProfile, dif_pos index, parseProfile_eq, if_pos choices]

/-- Margin and manual taper point fill their fields, and are stored as they are (Table 7.3). -/
theorem profileCarried_clamped (p : List Byte) {floor : Nat} (eq : floor = max 16 (min 16000 (natAt p 1 2))) :
    (profileCarried p).clamped =
      { floor := floor, peak := max floor (min 16000 (natAt p 3 2)), rise := max 1 (min 4095 (natAt p 5 2)),
        fall := max 1 (min 4095 (natAt p 7 2)), margin := natAt p 9 1,
        taper := if natAt p 10 1 = 0 then .auto else .manual, revision := decide (natAt p 11 1 = 1),
        manualPoint := natAt p 12 2, ceiling := max floor (min 16000 (natAt p 14 2)),
        window := max 1 (min 16 (natAt p 16 1)), deadline := max 2 (min 2000 (natAt p 17 2)),
        expiryLimit := max 1 (min 15 (natAt p 19 1)), stallLimit := max 1 (min 600 (natAt p 20 2)),
        followOn := decide (natAt p 22 1 = 1) } := by
  have whole {most n : Nat} (fits : n < most + 1) : clamp 0 most n = n := by
    rw [clamp]
    omega
  have margin : clamp 0 255 (profileCarried p).margin = natAt p 9 1 := whole (natAt_lt p 9 1)
  have manualPoint : clamp 0 65535 (profileCarried p).manualPoint = natAt p 12 2 := whole (natAt_lt p 12 2)
  subst eq
  rw [Profile.clamped, margin, manualPoint]
  rfl

end

/-- Settles O43: the profile is parsed and clamped, the share window clamped, and its expiry a case split. -/
theorem profileAndShareSettings : Obligations.ProfileAndShareSettings := by
  refine ⟨fun s r p rest taken => ⟨fun other => ?_, fun i index taper revision followOn => ?_⟩,
    fun s r p rest taken => ?_, fun s => ⟨fun ended => ?_, fun running => ?_⟩⟩
  · exact congrArg Host.Outcome.next (takePlain_refuse taken nofun (actSetProfile_refuses other))
  · obtain ⟨i, bound⟩ := i
    obtain rfl : natAt p 0 1 = i := index
    have stored := actSetProfile_stores (s := dequeue r rest s) bound ⟨taper, revision, followOn⟩
    refine ⟨s.pac.profiles.set (natAt p 0 1) (profileCarried p).clamped, _, ?_, rfl, ?_, fun j other => ?_⟩
    · simp only [Fin.getElem_fin, Vector.getElem_set_self]
      exact congrArg Host.Outcome.next (takePlain_ok taken stored)
    · exact (Vector.getElem_set_self ..).trans (profileCarried_clamped p rfl)
    · exact Vector.getElem_set_ne _ _ fun same => other (Fin.ext same.symm)
  · have active : flag s.share.active = if s.share.active then [1] else [0] := by
      cases s.share.active <;> rfl
    rw [← active]
    exact congrArg Host.Outcome.next (takePlain_ok taken rfl)
  · exact congrArg Host.Outcome.next (if_pos ended)
  · exact congrArg Host.Outcome.next (if_neg running)

end Sys2Proof.Machine
end

section
/-! SUPPORT and proofs: the LAN link DOWN and UP, and the frames it sends (O46). -/

namespace Sys2Proof.Machine

/-! ## The next frame of the LAN -/

section
variable {s : State}

section
variable (up : s.lan.up = true) (free : s.lan.sending = none)
include up free

/-- A pacing message goes ahead of an answer and of a frame of the host (R171). -/
theorem lanKick_sends_message {m : PacingMsg} {ms : List PacingMsg} (queue : s.pac.queue = m :: ms) : lanKick s =
    { s with pac.queue := ms, lan.sending := some (.pacing (withFcs (pacingFrame s.cfg m))) } := by
  rw [lanKick, if_pos (by simp [up, free]), queue]

theorem lanKick_sends_answer {a : BuiltAnswer} {as : List BuiltAnswer} (queue : s.pac.queue = [])
    (answers : s.ans.answers = a :: as) : lanKick s =
      { s with ans.answers := as, ans.sending := some a, lan.sending := some (.answer (withFcs a.data)) } := by
  rw [lanKick, if_pos (by simp [up, free]), queue, answers]

theorem lanKick_sends_host {f : List Byte} {fs : List (List Byte)} (queue : s.pac.queue = [])
    (answers : s.ans.answers = []) (frames : s.lan.hostFrames = f :: fs) : lanKick s =
      { s with lan.hostFrames := fs, lan.sending := some (.host (withFcs f)) } := by
  rw [lanKick, if_pos (by simp [up, free]), queue, answers, frames]

end

/-- The part with its LAN link free again, the frame sent gone from where it was kept (R87, R171). -/
theorem exec_lanFrameSent {f : LanSending} {u : State} (sending : s.lan.sending = some f)
    (freed : ((∃ w, f = .answer w) ∧ u = { s with lan.sending := none, ans.sending := none }) ∨
      ((∀ w, f ≠ .answer w) ∧ u = { s with lan.sending := none })) :
    exec .lanFrameSent s = .next (lanKick u) := by
  refine congrArg Host.Outcome.next ?_
  rw [sending]
  obtain ⟨⟨w, rfl⟩, rfl⟩ | ⟨other, rfl⟩ := freed
  · rfl
  · cases f with
    | answer w => exact absurd rfl (other w)
    | pacing w | host w => rfl

/-- A pacing message in the layout of Table 12.1: 26 bytes of header and fields, padded to 60. -/
theorem pacingFrame_eq (cfg : InForce) (m : PacingMsg) : pacingFrame cfg m =
    num 6 m.peer.toNat ++ num 6 cfg.boxAddr.toNat ++ num 2 cfg.pacingType.toNat ++ num 1 m.kind.code ++ [0] ++
      num 2 m.tag.toNat ++ num 4 m.seq.toNat ++ num 4 m.value.toNat ++ List.replicate 34 0 := by
  have zero : num 1 0 = [0] := rfl
  simp [pacingFrame, etherFrame, pad60, zero]

/-! ## The halts under LINK_DOWN -/

/-- What the halts under LINK_DOWN leave: the LAN port, the answers, and what waits for the LAN or the host (R131). -/
def LanSpared (s t : State) : Prop :=
  t.lan = s.lan ∧ t.ans = s.ans ∧ t.pac.queue = s.pac.queue ∧ t.pac.fifo = s.pac.fifo

theorem haltSession_linkDown_spares (i : Slot) {t : State} (h : LanSpared s t) :
    LanSpared s (haltSession i .linkDown t) := by
  cases session : t.pac.slots[i].session with
  | none => rwa [haltSession_idle session]
  | some x =>
    have spared : LanSpared s (slotVacated i x .linkDown t) := h
    rw [haltSession_linkDown session]
    unfold LanSpared at spared ⊢
    rwa [changeNeeded_lan, changeNeeded_ans, changeNeeded_pac, addOutcome_lan, addOutcome_ans, addOutcome_pac]

theorem haltWhere_linkDown_spares (p : Session → Bool) : LanSpared s (haltWhere p .linkDown s) :=
  haltWhere_keeps (P := LanSpared s) (fun i _ => haltSession_linkDown_spares i) p ⟨rfl, rfl, rfl, rfl⟩

/-- Every session halted under LINK_DOWN leaves its undelivered blocks behind (R130, R131). -/
theorem haltedWhere_linkDown (slot : SessionSlot) : slot.haltedWhere (fun _ => true) .linkDown =
    { session := none, leftBehind := slot.leftBehind + (slot.session.elim 0 Session.undelivered) } := by
  obtain ⟨session, left⟩ := slot
  cases session <;> rfl

/-! ## The link DOWN and UP -/

/-- The part with nothing waiting for the LAN or being sent, and the link DOWN (R131, R170). -/
def lanDiscarded (s : State) : State :=
  { s with
    lan.up := false, lan.sending := none, lan.hostFrames := [], pac.queue := [], ans.answers := [],
    ans.sending := none }

theorem exec_lanLinkDown (up : s.lan.up = true) : exec .lanLinkDown s =
    .next (raise .linkChange (.linkChange .lan false) (haltWhere (fun _ => true) .linkDown (lanDiscarded s))) :=
  congrArg Host.Outcome.next (if_pos up)

theorem raise_linkChange_kind (detail : Detail) (s : State) :
    (raise .linkChange detail s).note.kinds[(8 : Fin 9)] =
      { s.note.kinds[(8 : Fin 9)] with
        pending := true, count := satAdd s.note.kinds[(8 : Fin 9)].count 1, detail := some detail } := by
  rw [raise_note_kinds]
  exact getElem_vecMod_self s.note.kinds 8 _

theorem exec_lanLinkUp_none (same : s.lan.up = true ∨ s.pow.held ≠ none) : exec .lanLinkUp s = .next s := by
  refine congrArg Host.Outcome.next (if_pos ?_)
  rw [Bool.or_eq_true, Option.isSome_iff_ne_none]
  exact same

theorem exec_lanLinkUp (down : s.lan.up = false) (released : s.pow.held = none) : exec .lanLinkUp s =
    .next (lanKick (raise .linkChange (.linkChange .lan true) { s with lan.up := true })) :=
  congrArg Host.Outcome.next (if_neg (by simp [down, released]))

end

/-- Settles O46: the link DOWN by what its halts leave, the link UP with nothing waiting, and the frame sent by what
waits behind it. -/
theorem lanLinkEvents : Obligations.LanLinkEvents := by
  refine ⟨fun s down => congrArg Host.Outcome.next (if_neg (by simp [down])), fun s up => ?_,
    fun s same => exec_lanLinkUp_none same, fun s down released free queue answers frames => ?_, fun s free => ?_,
    pacingFrame_eq, by decide, fun s u f up sending freed => ?_⟩
  · obtain ⟨lan, ans, queue, fifo⟩ := haltWhere_linkDown_spares (s := lanDiscarded s) fun _ => true
    have kind := raise_linkChange_kind (.linkChange .lan false) (haltWhere (fun _ => true) .linkDown (lanDiscarded s))
    refine ⟨_, exec_lanLinkDown up, ?_⟩
    rw [kind, raise_lan, raise_pac, raise_ans, raise_hold, raise_cells, raise_pow, raise_host, lan, ans, queue, fifo]
    refine ⟨rfl, rfl, rfl, rfl, rfl, rfl, fun i => ?_, rfl, rfl, rfl, haltWhere_hold .., haltWhere_cells ..,
      haltWhere_pow .., haltWhere_host ..⟩
    rw [haltWhere_slots, haltedWhere_linkDown]
    rfl
  · exact (exec_lanLinkUp down released).trans (congrArg Host.Outcome.next (lanKick_empty queue answers frames))
  · refine congrArg Host.Outcome.next ?_
    rw [free]
  · rw [exec_lanFrameSent sending freed]
    have kept : u.lan.up = true ∧ u.lan.sending = none ∧ u.pac = s.pac ∧ u.ans.answers = s.ans.answers ∧
        u.lan.hostFrames = s.lan.hostFrames ∧ u.cfg = s.cfg := by
      obtain ⟨-, rfl⟩ | ⟨-, rfl⟩ := freed <;> exact ⟨up, rfl, rfl, rfl, rfl, rfl⟩
    obtain ⟨up, free, pac, answers, frames, cfg⟩ := kept
    rw [← pac, ← answers, ← frames, ← cfg]
    exact ⟨fun m ms queue => congrArg Host.Outcome.next (lanKick_sends_message up free queue),
      fun queue => ⟨fun a as answers => congrArg Host.Outcome.next (lanKick_sends_answer up free queue answers),
        fun answers => ⟨fun g gs frames => congrArg Host.Outcome.next (lanKick_sends_host up free queue answers frames),
          fun frames => congrArg Host.Outcome.next (lanKick_empty queue answers frames)⟩⟩⟩

end Sys2Proof.Machine
end

section
/-! SUPPORT and proofs: the revised peak of a profile (O44). -/

namespace Sys2Proof.Machine

/-! ## The cost of a climb -/

section
variable {p : Profile} {most m : Nat}

theorem ceilDiv_mono {a b : Nat} (le : a ≤ b) (d : Nat) : ceilDiv a d ≤ ceilDiv b d :=
  Nat.div_le_div_right (by omega)

theorem ceilDiv_zero {d : Nat} (pos : 1 ≤ d) : ceilDiv 0 d = 0 :=
  Nat.div_eq_of_lt (by omega)

theorem climbCost_mono (p : Profile) {x y : Nat} (le : x ≤ y) : p.climbCost x ≤ p.climbCost y :=
  Nat.add_le_add (ceilDiv_mono le _) (ceilDiv_mono le _)

theorem climbCost_zero (rise : 1 ≤ p.rise) (fall : 1 ≤ p.fall) : p.climbCost 0 = 0 := by
  rw [Profile.climbCost, ceilDiv_zero rise, ceilDiv_zero fall]

/-! ## The search bit by bit -/

theorem climbSearch_cost (bits : Nat) : ∀ base, p.climbCost base ≤ m →
    p.climbCost (p.climbSearch most m bits base) ≤ m := by
  induction bits with
  | zero => exact fun _ h => h
  | succ bits ih =>
    intro base h
    unfold Profile.climbSearch
    split
    · next fits =>
      obtain ⟨-, cheap⟩ := fits
      exact ih _ cheap
    · exact ih _ h

/-- Where the next bit does not fit, nothing from it on does, for the cost of a climb grows with it; so the search
misses no number in its reach that fits. -/
theorem le_climbSearch {x : Nat} (small : x ≤ most) (cheap : p.climbCost x ≤ m) (bits : Nat) :
    ∀ base, x < base + 2 ^ bits → x ≤ p.climbSearch most m bits base := by
  induction bits with
  | zero => exact fun _ reach => Nat.le_of_lt_succ reach
  | succ bits ih =>
    intro base reach
    rw [Nat.pow_succ] at reach
    unfold Profile.climbSearch
    split
    · exact ih _ (by omega)
    · next misfit =>
      refine ih _ (Nat.lt_of_not_le fun above => misfit ⟨above.trans small, ?_⟩)
      exact (climbCost_mono p above).trans cheap

end

/-! ## Peak and taper point -/

section
variable {p : Profile} {nb : Nat}

theorem revisedClimb_le (p : Profile) (nb : Nat) : p.revisedClimb nb ≤ p.peak - p.floor :=
  climbSearch_le _ _ _ _ _ (Nat.zero_le _)

theorem revisedClimb_cost (rise : 1 ≤ p.rise) (fall : 1 ≤ p.fall) (nb : Nat) :
    p.climbCost (p.revisedClimb nb) ≤ nb - 1 - p.margin :=
  climbSearch_cost _ _ ((climbCost_zero rise fall).le.trans (Nat.zero_le _))

/-- The 14 bits of the search reach every climb of a profile in its ranges (R136, R140). -/
theorem le_revisedClimb (peak : p.peak ≤ 16000) {x : Nat} (small : x ≤ p.peak - p.floor)
    (cheap : p.climbCost x ≤ nb - 1 - p.margin) : x ≤ p.revisedClimb nb :=
  le_climbSearch small cheap _ _ (by omega)

theorem taperFor_auto (auto : p.taper = .auto) : p.taperFor nb = p.stepsDown (p.peakFor nb) + p.margin := by
  rw [Profile.taperFor, auto]

theorem peakFor_revised (auto : p.taper = .auto) (revision : p.revision = true) (fails : p.trapezoid nb = false) :
    p.peakFor nb = p.floor + p.revisedClimb nb := by
  simp [Profile.peakFor, auto, revision, fails]

theorem peakFor_unrevised (auto : p.taper = .auto) (keeps : p.trapezoid nb = true ∨ p.revision = false) :
    p.peakFor nb = p.peak := by
  rw [Profile.peakFor, auto]
  exact if_pos (by simpa using keeps)

/-- From the revised peak a session falls by x (R139, R140). -/
theorem stepsDown_floor_add (p : Profile) (x : Nat) : p.stepsDown (p.floor + x) = ceilDiv x p.fall := by
  rw [Profile.stepsDown, Nat.add_sub_cancel_left]

end

/-- Settles O44: the search finds the largest climb that fits, and the taper mode picks between it and PEAK. -/
theorem theRevisedPeakIsTheHighestThatFits : Obligations.TheRevisedPeakIsTheHighestThatFits := by
  intro p nb rise fall peak
  refine ⟨revisedClimb_le p nb, revisedClimb_cost rise fall nb, fun x => le_revisedClimb peak,
    fun auto revision fails => ?_, decide_eq_true_iff, fun auto keeps => ?_, fun manual => ?_⟩
  · have revised := peakFor_revised auto revision fails
    rw [taperFor_auto auto, revised, stepsDown_floor_add]
    exact ⟨rfl, rfl⟩
  · rw [taperFor_auto auto, peakFor_unrevised auto keeps]
    exact ⟨rfl, rfl⟩
  · rw [Profile.peakFor, Profile.taperFor, manual]
    exact ⟨rfl, rfl⟩

end Sys2Proof.Machine
end

section
/-! SUPPORT and proofs: the grant step and the READY set (O45). -/

namespace Sys2Proof.Machine

section
variable {x : Session} {free : Bool} {e : Nat}

/-! ## The tracking step -/

theorem track_below (below : x.rate < e) : x.track e =
    { x with
      rate := min (x.rate + x.profile.rise) e,
      phase := if min (x.rate + x.profile.rise) e = e then .cruise else .rise } :=
  if_pos below

theorem track_at (reached : x.rate = e) : x.track e = { x with phase := .cruise } :=
  (if_neg (by omega)).trans (if_pos reached)

theorem track_above (above : e < x.rate) : x.track e =
    { x with
      rate := max (x.rate - x.profile.fall) e,
      phase := if max (x.rate - x.profile.fall) e = e then .cruise else .yield } :=
  (if_neg (by omega)).trans (if_neg (by omega))

/-! ## The step of the phase -/

theorem phaseStep_held (floor : x.phase = .floor) : x.phaseStep false e = { x with rate := x.profile.floor } := by
  rw [Session.phaseStep, floor]
  rfl

theorem phaseStep_tracks
    (tracks : (x.phase = .floor ∧ free = true) ∨ x.phase = .rise ∨ x.phase = .cruise ∨ x.phase = .yield) :
    x.phaseStep free e = x.track e := by
  rw [Session.phaseStep]
  obtain ⟨phase, rfl⟩ | phase | phase | phase := tracks
  · rw [phase]
    rfl
  all_goals rw [phase]

theorem phaseStep_taper (taper : x.phase = .taper) : x.phaseStep free e = x.taperStep := by
  rw [Session.phaseStep, taper]

theorem phaseStep_tail (tail : x.phase = .tail) : x.phaseStep free e = { x with rate := x.profile.floor } := by
  rw [Session.phaseStep, tail]

/-! ## The grant step -/

/-- The TAPER test sends a session straight into its first falling step (R143). -/
theorem grantStep_starts_taper (outside : x.phase ≠ .taper) (unended : x.phase ≠ .tail) (late : x.todo ≤ x.taperPoint) :
    x.grantStep free e = x.taperStep :=
  if_pos ⟨outside, unended, late⟩

theorem grantStep_no_test (fails : ¬ (x.phase ≠ .taper ∧ x.phase ≠ .tail ∧ x.todo ≤ x.taperPoint)) :
    x.grantStep free e = x.phaseStep free e :=
  if_neg fails

theorem grantStep_taper (taper : x.phase = .taper) : x.grantStep free e = x.taperStep :=
  (grantStep_no_test fun ⟨outside, _, _⟩ => outside taper).trans (phaseStep_taper taper)

theorem grantStep_tail (tail : x.phase = .tail) : x.grantStep free e = { x with rate := x.profile.floor } :=
  (grantStep_no_test fun ⟨_, unended, _⟩ => unended tail).trans (phaseStep_tail tail)

theorem grantStep_early (early : x.taperPoint < x.todo) : x.grantStep free e = x.phaseStep free e :=
  grantStep_no_test fun ⟨_, _, late⟩ => early.not_ge late

/-! ## The records that a grant step does not read -/

/-- The session with other records of its grants: the outstanding list, the next sequence, the stall time. -/
def Session.booked (x : Session) (outstanding : List Grant) (nextSeq stallAcc : Nat) : Session :=
  { x with outstanding := outstanding, nextSeq := nextSeq, stallAcc := stallAcc }

theorem issued_eq_booked (s : State) (k : Nat) (x : Session) : x.issued s k =
    ({ x with todo := x.todo - 1 } : Session).booked (x.issued s k).outstanding (x.nextSeq + 1) 0 :=
  rfl

variable (grants : List Grant) (seq stalled : Nat)

theorem track_booked : (x.booked grants seq stalled).track e = (x.track e).booked grants seq stalled := by
  obtain below | reached | above := lt_trichotomy x.rate e
  · rw [track_below below]
    exact track_below (x := x.booked grants seq stalled) below
  · rw [track_at reached]
    exact track_at (x := x.booked grants seq stalled) reached
  · rw [track_above above]
    exact track_above (x := x.booked grants seq stalled) above

theorem phaseStep_booked :
    (x.booked grants seq stalled).phaseStep free e = (x.phaseStep free e).booked grants seq stalled := by
  have tracks (moves : (x.phase = .floor ∧ free = true) ∨ x.phase = .rise ∨ x.phase = .cruise ∨ x.phase = .yield) :
      (x.booked grants seq stalled).phaseStep free e = (x.phaseStep free e).booked grants seq stalled := by
    rw [phaseStep_tracks moves, ← track_booked]
    exact phaseStep_tracks (x := x.booked grants seq stalled) moves
  cases phase : x.phase with
  | floor =>
    cases free with
    | true => exact tracks (.inl ⟨phase, rfl⟩)
    | false =>
      rw [phaseStep_held phase]
      exact phaseStep_held (x := x.booked grants seq stalled) phase
  | rise => exact tracks (.inr (.inl phase))
  | cruise => exact tracks (.inr (.inr (.inl phase)))
  | yield => exact tracks (.inr (.inr (.inr phase)))
  | taper =>
    rw [phaseStep_taper phase]
    exact phaseStep_taper (x := x.booked grants seq stalled) phase
  | tail =>
    rw [phaseStep_tail phase]
    exact phaseStep_tail (x := x.booked grants seq stalled) phase

theorem grantStep_booked :
    (x.booked grants seq stalled).grantStep free e = (x.grantStep free e).booked grants seq stalled := by
  by_cases test : x.phase ≠ .taper ∧ x.phase ≠ .tail ∧ x.todo ≤ x.taperPoint
  · obtain ⟨outside, unended, late⟩ := test
    rw [grantStep_starts_taper outside unended late]
    exact grantStep_starts_taper (x := x.booked grants seq stalled) outside unended late
  · rw [grantStep_no_test test, ← phaseStep_booked]
    exact grantStep_no_test (x := x.booked grants seq stalled) test

end

section
variable {s : State}

/-- A session may rise where the box is in RUN and each of its bays is in the READY set (R144). -/
theorem mayRise_iff (s : State) (x : Session) : mayRise s x = true ↔
    s.pow.box = .run ∧ ∀ b : Bay, hasBay x.bays b = true → hasBay s.pac.readySet b = true := by
  rw [mayRise, Bool.and_eq_true, decide_eq_true_iff, decide_eq_true_iff, baySubset_iff]

/-- The rate and the phase after an issued grant are those of the grant step with T already fallen by 1 (R119, R143). -/
theorem granted_step (s : State) (k : Nat) (x y : Session)
    (eq : y = ({ x with todo := x.todo - 1 } : Session).grantStep (mayRise s x) (ceilingOf s.share.active x)) :
    (x.granted s k).rate = y.rate ∧ (x.granted s k).phase = y.phase := by
  have step : (x.issued s k).grantStep (mayRise s x) (ceilingOf s.share.active x) =
      y.booked (x.issued s k).outstanding (x.nextSeq + 1) 0 := by
    rw [eq, issued_eq_booked]
    exact grantStep_booked _ _ _
  have granted : x.granted s k =
      { y.booked (x.issued s k).outstanding (x.nextSeq + 1) 0 with
        nextDue := s.time.us + BitVec.ofNat 64 (interval y.rate) } :=
    congrArg (fun z : Session => { z with nextDue := s.time.us + BitVec.ofNat 64 (interval z.rate) }) step
  rw [granted]
  exact ⟨rfl, rfl⟩

/-! ## The READY set -/

theorem reportReady_joins {b : Bay} {joined : BaySet}
    (joins : ∀ i : Bay, hasBay joined i = (decide (i = b) || hasBay s.pac.readySet i)) :
    reportReady b s = { s with pac.readySet := joined } := by
  have set : joined = s.pac.readySet ||| oneBay b := baySet_eq fun i => by
    rw [joins, hasBay_or, hasBay_oneBay, Bool.or_comm]
  rw [set]
  rfl

/-- Of the sessions of the bay that leaves READY, those in RISE, CRUISE or YIELD that are not DRAINING fall (R149). -/
theorem fallen_of_bay (b : Bay) (x : Session) : (if hasBay x.bays b then x.fallen else x) =
    if hasBay x.bays b = true ∧ x.draining = false ∧ (x.phase = .rise ∨ x.phase = .cruise ∨ x.phase = .yield) then
      { x with phase := .floor, rate := x.profile.floor }
    else x := by
  rw [Session.fallen, ← ite_and]
  exact if_congr (by simp [or_assoc]) rfl rfl

theorem reportUnready_leaves {b : Bay} {left : BaySet} {slots : Vector SessionSlot 4}
    (leaves : ∀ i : Bay, hasBay left i = (decide (i ≠ b) && hasBay s.pac.readySet i))
    (fallen : ∀ j : Slot, slots[j] =
      { s.pac.slots[j] with
        session := s.pac.slots[j].session.map fun x => if hasBay x.bays b then x.fallen else x }) :
    reportUnready b s = { s with pac.readySet := left, pac.slots := slots } := by
  have set : left = s.pac.readySet &&& ~~~ oneBay b := baySet_eq fun i => by
    rw [leaves, hasBay_without, Bool.and_comm]
  rw [set, fallen_slots fallen]
  rfl

end

/-- Settles O45: the step of an issued grant, the READY set by its reports, and the grant step by the phase. -/
theorem theGrantStepFollowsTheProfile : Obligations.TheGrantStepFollowsTheProfile := by
  refine ⟨fun s k x y free e rises ceiling eq => ?_, fun presence activity held s => ⟨_, _, rfl, rfl, rfl, rfl⟩,
    fun b s joined left slots joins leaves fallen => ⟨reportReady_joins joins, reportUnready_leaves leaves ?_⟩,
    fun free e x => ⟨fun outside unended late => ⟨_, rfl, grantStep_starts_taper outside unended late⟩,
      fun taper => ⟨_, rfl, grantStep_taper taper⟩, grantStep_tail, fun early => ?_⟩⟩
  · obtain rfl : free = mayRise s x := Bool.eq_iff_iff.mpr (rises.trans (mayRise_iff s x).symm)
    obtain rfl : e = ceilingOf s.share.active x := ceiling
    exact granted_step s k x y eq
  · simpa only [fallen_of_bay] using fallen
  · rw [grantStep_early early]
    refine ⟨fun floor held => held ▸ phaseStep_held floor, fun tracks => ?_⟩
    rw [phaseStep_tracks tracks]
    exact ⟨fun below => ⟨_, rfl, track_below below⟩, track_at, fun above => ⟨_, rfl, track_above above⟩⟩

end Sys2Proof.Machine
end

section
/-! SUPPORT and proofs: the envelope and the queueing of a response, and the frame check sequence (O15). -/

namespace Sys2Proof.Machine

/-! ## The frame check sequence -/

theorem fcs_length (data : List Byte) : (fcs data).length = 4 := by simp [fcs]

theorem withFcs_length (data : List Byte) : (withFcs data).length = data.length + 4 := by simp [withFcs, fcs_length]

/-- The frame data of a frame the part sends is what it was built from (R1, R165). -/
theorem frameData_withFcs (data : List Byte) : frameData (withFcs data) = data := by
  rw [frameData, withFcs_length, Nat.add_sub_cancel, withFcs, List.take_left]

theorem drop_withFcs (data : List Byte) : (withFcs data).drop ((withFcs data).length - 4) = fcs data := by
  rw [withFcs_length, Nat.add_sub_cancel, withFcs, List.drop_left]

/-- A receiver accepts the frames of 64 to 9,216 bytes that end in the check sequence of their data (R1, R166). -/
theorem frameGood_iff (frame : List Byte) : frameGood frame = true ↔
    64 ≤ frame.length ∧ frame.length ≤ 9216 ∧ frame = withFcs (frameData frame) := by
  refine ⟨fun good => ?_, fun ⟨long, short, ends⟩ => ?_⟩
  · have whole := withFcs_frameData good
    simp only [frameGood, Bool.and_eq_true, decide_eq_true_eq] at good
    obtain ⟨⟨long, short⟩, -⟩ := good
    exact ⟨long, short, whole.symm⟩
  · have check : frame.drop (frame.length - 4) = fcs (frameData frame) := by
      rw [← drop_withFcs, ← ends]
    simp [frameGood, long, short, check]

theorem frameGood_withFcs {data : List Byte} (long : 60 ≤ data.length) (short : data.length ≤ 9212) :
    frameGood (withFcs data) = true := by
  rw [frameGood_iff, withFcs_length, frameData_withFcs]
  exact ⟨by omega, by omega, rfl⟩

/-! ## The envelope -/

section
variable (cfg : InForce) (dst : MacAddr) (tag : Word16) (kind : Nat) (result : ResultCode) (data : List Byte)

/-- The fields of a management frame, in the order of Table 12.2, with the padding of R189 behind them. -/
def envelopeFields : List (List Byte) :=
  [num 6 dst.toNat, num 6 cfg.linkAddr.toNat, num 2 cfg.mgmtType.toNat, num 2 tag.toNat, num 2 kind,
    [BitVec.ofNat 8 result.code, 0], num 2 data.length, data, List.replicate (38 - data.length) 0]

theorem mgmtFrame_eq_fields :
    mgmtFrame cfg dst tag kind result data = (envelopeFields cfg dst tag kind result data).flatten := by
  have zero : num 1 0 = [0] := rfl
  simp only [mgmtFrame, etherFrame, pad60, envelopeFields, zero, num_one, num_length, List.append_assoc,
    List.length_append, List.length_cons, List.flatten_cons, List.flatten_nil, List.append_nil,
    List.cons_append, List.nil_append, List.append_cancel_left_eq, List.cons.injEq, List.replicate_inj, true_and,
    and_true, or_true]
  omega

theorem mgmtFrame_length : (mgmtFrame cfg dst tag kind result data).length = 22 + data.length + (38 - data.length) := by
  simp only [mgmtFrame_eq_fields, envelopeFields, List.flatten_cons, List.flatten_nil, List.length_append, num_length,
    List.length_cons, List.length_nil, List.length_replicate]
  omega

/-- Field `k` of the envelope stands behind those before it. -/
theorem mgmtFrame_field (k : Nat) {offset : Nat} {f : List Byte}
    (field : (envelopeFields cfg dst tag kind result data)[k]? = some f)
    (before : (((envelopeFields cfg dst tag kind result data).take k).map List.length).sum = offset) :
    slice (mgmtFrame cfg dst tag kind result data) offset f.length = f := by
  rw [mgmtFrame_eq_fields]
  exact slice_flatten field before rfl

/-- The same of a field that is carried as a number of its width. -/
theorem mgmtFrame_number (k : Nat) {offset width n : Nat} (fits : n < 256 ^ width)
    (number : (envelopeFields cfg dst tag kind result data)[k]? = some (num width n))
    (before : (((envelopeFields cfg dst tag kind result data).take k).map List.length).sum = offset) :
    natAt (mgmtFrame cfg dst tag kind result data) offset width = n := by
  have field := mgmtFrame_field cfg dst tag kind result data k number before
  rw [num_length] at field
  rw [natAt, field, beNat_num, Nat.mod_eq_of_lt fits]

variable {kind data}

/-- What the part builds reads back by the layout in which it reads requests (Table 12.2, R190). -/
theorem parseRequest_mgmtFrame (kindFits : kind < 65536) (dataFits : data.length < 65536) :
    parseRequest (mgmtFrame cfg dst tag kind result data) =
      some { src := cfg.linkAddr, tag := tag, kind := kind, params := some data } := by
  have long := mgmtFrame_length cfg dst tag kind result data
  have source := mgmtFrame_number cfg dst tag kind result data 1 (offset := 6) cfg.linkAddr.isLt rfl rfl
  have tagged := mgmtFrame_number cfg dst tag kind result data 3 (offset := 14) tag.isLt rfl rfl
  have named := mgmtFrame_number cfg dst tag kind result data 4 (offset := 16) kindFits rfl rfl
  have counted := mgmtFrame_number cfg dst tag kind result data 6 (offset := 20) dataFits rfl rfl
  have carried := mgmtFrame_field cfg dst tag kind result data 7 (offset := 22) rfl rfl
  rw [parseRequest, if_neg (by omega), source, tagged, named, counted, carried, if_neg (by omega)]
  simp

end

/-! ## The queueing of a response -/

/-- A response on a free link with nothing to send starts at once (R167, R172). -/
theorem queueResponse_starts {s : State} (frame : List Byte) (up : s.host.up = true) (free : s.host.sending = none)
    (responses : s.host.responses = []) :
    queueResponse frame s = { s with host.sending := some (.response (withFcs frame)) } := by
  rw [queueResponse, if_pos up, responses]
  exact (hostKick_response (s := { s with host.responses := [frame] }) up free rfl).trans (by rw [← responses])

/-- Settles O15: the envelope field by field, the queueing, and the check sequence of a frame sent. -/
theorem responseEnvelopeReadsBack : Obligations.ResponseEnvelopeReadsBack := by
  refine ⟨fun cfg dst tag kind result data kindFits dataFits => ⟨parseRequest_mgmtFrame _ _ _ _ kindFits dataFits, ?_⟩,
    rfl, rfl, fun s r rest result data => ⟨rfl, rfl⟩,
    fun s frame => ⟨queueResponse_down frame, queueResponse_busy frame, queueResponse_starts frame⟩,
    fun data frame => ⟨fun long short => ⟨withFcs_length data, frameData_withFcs data, frameGood_withFcs long short⟩,
      frameGood_iff frame⟩⟩
  simp [mgmtFrame_eq_fields, envelopeFields]

end Sys2Proof.Machine
end

section
/-! SUPPORT and proofs: requests that are refused, discarded or not answered (O14). -/

namespace Sys2Proof.Machine

/-! ## The head of the request queue -/

section
variable {s : State} {f : List Byte} {rest : List (List Byte)}

theorem requestHead_head (unowned : s.mgmt.inHand = none) (undeferred : s.mgmt.deferred = [])
    (room : s.host.responses.length < 16) (head : s.host.requests = f :: rest) : requestHead s = some (f, rest) := by
  simp [requestHead, unowned, undeferred, room, head]

/-- While a completed programming's response waits, no request is taken (R176). -/
theorem requestHead_deferred (deferred : s.mgmt.deferred ≠ []) : requestHead s = none := by
  unfold requestHead
  split
  · contradiction
  · rfl

theorem takeRequest_untaken (head : requestHead s = none) (kind : ReqKind) (act : Request → List Byte → State → Reply)
    (after : State → State) : takeRequest kind act after s = s := by
  rw [takeRequest, head]

theorem takeUnknown_untaken (head : requestHead s = none) : takeUnknown s = s := by
  rw [takeUnknown, head]

theorem discardShort_untaken (head : requestHead s = none) : discardShort s = s := by
  rw [discardShort, head]

/-- Frame data without a tag and a kind is no request (R174). -/
theorem parseRequest_short (short : f.length < 18) : parseRequest f = none := if_pos short

theorem discardShort_short (head : requestHead s = some (f, rest)) (short : f.length < 18) :
    discardShort s = { s with host.requests := rest } := by
  rw [discardShort, head]
  simp only [parseRequest_short short]

end

/-! ## A request of a known kind -/

/-- The command of every kind takes a request of that kind, by some rule of its own. -/
theorem exec_command (kind : ReqKind) :
    ∃ act after, ∀ s, exec kind.command s = .next (takeRequest kind act after s) := by
  cases kind <;> exact ⟨_, _, fun _ => rfl⟩

section
variable {s : State} {kind : ReqKind} {r : Request} {act : Request → List Byte → State → Reply} {after : State → State}

theorem decideRequest_refused (refused : admission s.pow.box kind = .refused) :
    decideRequest kind act after r s = respond r .refusedState [] s := by
  rw [decideRequest, refused]

theorem decideRequest_notAnswered (unanswered : admission s.pow.box kind = .notAnswered) :
    decideRequest kind act after r s = s := by
  rw [decideRequest, unanswered]

/-- Parameters that the frame does not hold, or fewer than the fixed ones of the kind (R174 case 3, R190). -/
theorem decideRequest_short (taken : admission s.pow.box kind = .taken)
    (short : r.params = none ∨ ∃ p, r.params = some p ∧ p.length < kind.fixedLength) :
    decideRequest kind act after r s = respond r .badArgument [] s := by
  rw [decideRequest, taken]
  obtain absent | ⟨p, params, few⟩ := short
  · simp only [absent]
  · simp only [params, if_pos few]

/-- A request whose kind's rule refuses, whatever follows an OK of its kind. -/
theorem takeRequest_refuse {p : List Byte} {rest : List (List Byte)} (h : Taken s kind r p rest) {t : State}
    {code : ResultCode} (other : code ≠ .ok) (refuses : act r p (dequeue r rest s) = .refuse t code) :
    takeRequest kind act after s = respond r code [] t := by
  rw [takeRequest_taken h, refuses]
  cases code with
  | ok => contradiction
  | busy | refusedState | badArgument | notFound | worn | unknownRequest => rfl

end

/-! ## A request of no known kind -/

theorem reqKindOf_none {code : Nat} (unknown : ∀ kind : ReqKind, code ≠ kind.code) : reqKindOf code = none :=
  List.find?_eq_none.mpr fun kind _ => by simpa using (unknown kind).symm

theorem answersUnknown_iff (box : BoxState) :
    answersUnknown box = true ↔ box = .run ∨ box = .sleepEntry ∨ box = .waking .hostBoot := by
  cases box with
  | run | sleepEntry | sleep => simp [answersUnknown]
  | waking sub => cases sub <;> simp [answersUnknown]

theorem takeUnknown_unknown {s : State} {f : List Byte} {r : Request} {rest : List (List Byte)}
    (head : requestHead s = some (f, rest)) (parsed : parseRequest f = some r)
    (unknown : ∀ kind : ReqKind, r.kind ≠ kind.code) : takeUnknown s =
      if s.pow.box = .run ∨ s.pow.box = .sleepEntry ∨ s.pow.box = .waking .hostBoot then
        respond r .unknownRequest [] (dequeue r rest s)
      else dequeue r rest s := by
  rw [takeUnknown, head]
  simp only [parsed, reqKindOf_none unknown, Option.isSome_none, Bool.false_eq_true, if_false, answersUnknown_iff]

/-! ## Table 10.3 -/

/-- The read requests (Table 10.3, note 1). -/
theorem isRead_iff (kind : ReqKind) : kind.isRead = true ↔
    kind ∈ ([.readFlow, .readFlowStatus, .readPartition, .readWake, .readHold, .readAnswer, .readBays, .readSession,
      .readNotices, .readRetained] : List ReqKind) := by
  cases kind <;> decide

/-- Settles O14: the checks of `decideRequest` in their order, and Table 10.3 by box state. -/
theorem refusedRequestsChangeNothing : Obligations.RefusedRequestsChangeNothing := by
  refine ⟨⟨fun kind s r rest waits => ?_, fun s f r rest unowned undeferred room head parsed unknown =>
      congrArg Host.Outcome.next (takeUnknown_unknown (requestHead_head unowned undeferred room head) parsed unknown),
    fun s f rest unowned undeferred room head short =>
      congrArg Host.Outcome.next (discardShort_short (requestHead_head unowned undeferred room head) short)⟩,
    fun kind => ⟨rfl, if_congr (isRead_iff kind) rfl rfl, rfl, rfl, rfl, rfl, by cases kind <;> rfl⟩⟩
  obtain ⟨act, after, takes⟩ := exec_command kind
  rw [takes, takeRequest_waits waits]
  exact ⟨fun refused => congrArg Host.Outcome.next (decideRequest_refused (s := dequeue r rest s) refused),
    fun unanswered => congrArg Host.Outcome.next (decideRequest_notAnswered (s := dequeue r rest s) unanswered),
    fun taken short => congrArg Host.Outcome.next (decideRequest_short (s := dequeue r rest s) taken short)⟩

end Sys2Proof.Machine
end

section
/-! SUPPORT and proofs: the frames that the host sends (O47). -/

namespace Sys2Proof.Machine

section
variable {frame data : List Byte} {s : State}

theorem hostFrame_discarded (discards : s.host.up = false ∨ frameGood frame = false) :
    exec (.hostFrameReceived frame) s = .next s := by
  have fails : (s.host.up && frameGood frame) = false := by
    rwa [Bool.and_eq_false_iff]
  simp only [exec, execHostFrameReceived, fails, Bool.false_eq_true, if_false]

/-- A good frame with the H-port UP is a request or goes to the LAN, by its EtherType (R166). -/
theorem hostFrame_good (up : s.host.up = true) (good : frameGood frame = true) :
    exec (.hostFrameReceived frame) s =
      .next
        (if etherTypeOf (frameData frame) = s.cfg.mgmtType then
           if s.host.requests.length < 8 then { s with host.requests := s.host.requests ++ [frameData frame] } else s
         else forwardToLan (frameData frame) s) := by
  simp only [exec, execHostFrameReceived, up, good, Bool.and_self, if_true]

theorem forwardToLan_discards (discards : s.lan.up = false ∨ 32 ≤ s.lan.hostFrames.length) :
    forwardToLan data s = s := by
  refine if_neg fun room => ?_
  simp only [Bool.and_eq_true, decide_eq_true_eq] at room
  obtain ⟨up, room⟩ := room
  obtain down | full := discards
  · simp [down] at up
  · omega

theorem forwardToLan_room (up : s.lan.up = true) (room : s.lan.hostFrames.length < 32) :
    forwardToLan data s = lanKick { s with lan.hostFrames := s.lan.hostFrames ++ [data] } :=
  if_pos (by simp [up, room])

/-- A forwarded frame on a free LAN with nothing to send starts at once (R171). -/
theorem forwardToLan_starts (up : s.lan.up = true) (free : s.lan.sending = none) (queue : s.pac.queue = [])
    (answers : s.ans.answers = []) (frames : s.lan.hostFrames = []) :
    forwardToLan data s = { s with lan.sending := some (.host (withFcs data)) } := by
  rw [forwardToLan_room up (by simp [frames]), frames]
  exact (lanKick_sends_host (s := { s with lan.hostFrames := [data] }) up free queue answers rfl).trans
    (by rw [← frames])

end

/-- Settles O47. -/
theorem hostFramesAreQueuedOrForwarded : Obligations.HostFramesAreQueuedOrForwarded := by
  refine fun frame s => ⟨hostFrame_discarded, fun up good => ?_⟩
  rw [hostFrame_good up good]
  refine ⟨fun request => ?_, fun other => ?_⟩
  · rw [if_pos request]
    exact ⟨fun room => by rw [if_pos room], fun full => by rw [if_neg (by omega)]⟩
  · rw [if_neg other]
    exact ⟨fun discards => congrArg Host.Outcome.next (forwardToLan_discards discards), fun lanUp room =>
      ⟨fun busy => congrArg Host.Outcome.next ((forwardToLan_room lanUp room).trans (lanKick_busy busy)),
        fun free queue answers frames =>
          congrArg Host.Outcome.next (forwardToLan_starts lanUp free queue answers frames)⟩⟩

end Sys2Proof.Machine
end

section
/-! SUPPORT and proofs: the programming of a retained record (O52). -/

namespace Sys2Proof.Machine

/-! ## PROGRAM_RETAINED -/

section
variable {s : State} {r : Request} {p : List Byte} {i : Fin 8}

theorem actProgramRetained_index (out : 7 < natAt p 0 1) : actProgramRetained r p s = .refuse s .badArgument :=
  dif_neg (by omega)

section
variable (index : natAt p 0 1 = i.val)
include index

/-- The checks of R183 behind that of the index, in their order. -/
theorem actProgramRetained_eq : actProgramRetained r p s =
    if p.length < 1 + contentsLength i.val then .refuse s .badArgument
    else if s.ret.inFlight.isSome then .refuse s .busy
    else if 3 ≤ s.ret.copies[i].length then .refuse s .worn
    else
      { state :=
          { s with
            ret.inFlight :=
              some { index := i, contents := slice p 1 (contentsLength i.val), dst := r.src, tag := r.tag } },
        answer := none } := by
  obtain ⟨i, bound⟩ := i
  obtain rfl : natAt p 0 1 = i := index
  exact dif_pos bound

theorem actProgramRetained_short (short : p.length < 1 + contentsLength i.val) :
    actProgramRetained r p s = .refuse s .badArgument :=
  (actProgramRetained_eq index).trans (if_pos short)

variable (whole : 1 + contentsLength i.val ≤ p.length)
include whole

theorem actProgramRetained_busy (busy : s.ret.inFlight.isSome = true) : actProgramRetained r p s = .refuse s .busy := by
  rw [actProgramRetained_eq index, if_neg (by omega), if_pos busy]

variable (free : s.ret.inFlight = none)
include free

theorem actProgramRetained_worn (worn : 3 ≤ s.ret.copies[i].length) : actProgramRetained r p s = .refuse s .worn := by
  rw [actProgramRetained_eq index, if_neg (by omega), if_neg (by simp [free]), if_pos worn]

theorem actProgramRetained_starts (unworn : s.ret.copies[i].length < 3) : actProgramRetained r p s =
    { state :=
        { s with
          ret.inFlight :=
            some { index := i, contents := slice p 1 (contentsLength i.val), dst := r.src, tag := r.tag } },
      answer := none } := by
  rw [actProgramRetained_eq index, if_neg (by omega), if_neg (by simp [free]), if_neg (by omega)]

end

end

/-! ## The end of a programming, and its response -/

section
variable {s : State}

/-- The part with the copy in its record and the programming no longer in flight (R183). -/
def programmed (p : Programming) (s : State) : State :=
  { s with ret.copies := vecMod s.ret.copies p.index fun c => c ++ [p.contents], ret.inFlight := none }

/-- The response to that programming (R183). -/
def programmedResponse (p : Programming) (s : State) : DeferredResponse :=
  { dst := p.dst, tag := p.tag, index := p.index, count := s.ret.copies[p.index].length + 1 }

theorem programmingComplete_idle (idle : s.ret.inFlight = none) : exec .programmingComplete s = .next s := by
  simp only [exec, execProgrammingComplete, idle]

/-- The completion builds the response, or has it wait behind one that waits already (R176, R183). -/
theorem programmingComplete_inFlight {p : Programming} (inFlight : s.ret.inFlight = some p) :
    exec .programmingComplete s =
      .next
        (if s.mgmt.deferred = [] ∧ s.host.responses.length < 16 then
           queueResponse (programResponse s.cfg (programmedResponse p s)) (programmed p s)
         else { programmed p s with mgmt.deferred := s.mgmt.deferred ++ [programmedResponse p s] }) := by
  have count : (vecMod s.ret.copies p.index fun c => c ++ [p.contents])[p.index].length =
      s.ret.copies[p.index].length + 1 := by simp
  simp only [exec, execProgrammingComplete, inFlight, count, programmed, programmedResponse]

theorem programResponseBuilt_waits (waits : s.mgmt.deferred = [] ∨ 16 ≤ s.host.responses.length) :
    exec .programResponseBuilt s = .next s := by
  refine congrArg Host.Outcome.next ?_
  split
  · rfl
  · rename_i d rest deferred
    obtain empty | full := waits
    · simp [empty] at deferred
    · exact if_neg (by omega)

theorem programResponseBuilt_room {d : DeferredResponse} {ds : List DeferredResponse}
    (deferred : s.mgmt.deferred = d :: ds) (room : s.host.responses.length < 16) :
    exec .programResponseBuilt s =
      .next (queueResponse (programResponse s.cfg d) { s with mgmt.deferred := ds }) := by
  simp only [exec, execProgramResponseBuilt, deferred, if_pos room]

end

/-- Settles O52: the checks of R183 in their order, the completion, and the response that waits. -/
theorem retainedRecordsAreProgrammed : Obligations.RetainedRecordsAreProgrammed := by
  refine ⟨rfl, fun s r p rest taken => ?_, fun s => programmingComplete_idle, fun s p inFlight =>
    ⟨(programmed p s).ret.copies, fun j => ?_, ?_⟩, fun s deferred => ?_,
    fun s => ⟨programResponseBuilt_waits, fun d ds => programResponseBuilt_room⟩⟩
  · have refuses {code : ResultCode} (other : code ≠ .ok)
        (refusal : actProgramRetained r p (dequeue r rest s) = .refuse (dequeue r rest s) code) :
        exec .programRetained s = .next (respond r code [] (dequeue r rest s)) :=
      congrArg Host.Outcome.next (takeRequest_refuse taken other refusal)
    refine ⟨fun out => refuses nofun (actProgramRetained_index out), fun i index =>
      ⟨fun short => refuses nofun (actProgramRetained_short index short), fun whole =>
        ⟨fun busy => refuses nofun (actProgramRetained_busy index whole busy),
          fun free worn => refuses nofun (actProgramRetained_worn index whole free worn), fun free unworn => ?_⟩⟩⟩
    have starts := actProgramRetained_starts (s := dequeue r rest s) (r := r) index whole free unworn
    refine congrArg Host.Outcome.next ((takeRequest_taken taken _ _).trans ?_)
    rw [starts]
  · by_cases changed : j = p.index
    · subst changed
      simp [programmed]
    · rw [if_neg changed]
      exact getElem_vecMod_ne _ _ _ _ changed
  · rw [programmingComplete_inFlight inFlight]
    refine ⟨fun empty room => by rw [if_pos ⟨empty, room⟩]; rfl, fun waits => ?_⟩
    rw [if_neg fun ⟨empty, room⟩ => waits.elim (· empty) (by omega)]
    rfl
  · have head := requestHead_deferred deferred
    refine ⟨fun kind => ?_, congrArg Host.Outcome.next (takeUnknown_untaken head),
      congrArg Host.Outcome.next (discardShort_untaken head)⟩
    obtain ⟨act, after, takes⟩ := exec_command kind
    rw [takes, takeRequest_untaken head]

end Sys2Proof.Machine
end

section
/-! SUPPORT and proofs: the notices built where they qualify, and SET_NOTICES (O51). -/

namespace Sys2Proof.Machine

/-! ## The kinds by their place in Table 11.1 -/

/-- The notice kind at a place of Table 11.1. -/
def kindAt (i : Fin 9) : NoticeKind := allNotices.getD i.val .button

@[simp] theorem kindAt_index (i : Fin 9) : (kindAt i).index = i := by
  revert i
  decide

theorem map_index_map_kindAt (l : List (Fin 9)) : (l.map kindAt).map NoticeKind.index = l := by
  simp [Function.comp_def]

theorem kindAt_eq_sessionEnd {i : Fin 9} : kindAt i = .sessionEnd ↔ i = 3 := by
  revert i
  decide

theorem map_index_allNotices : allNotices.map NoticeKind.index = List.finRange 9 := by decide

section
variable {s : State} {n m : Notices} {i j : Fin 9} {l : List (Fin 9)}

/-- The notices that qualify are built place by place. -/
theorem buildNotices_eq_places :
    buildNotices s = (List.finRange 9).foldl (fun t i => buildNotice (kindAt i) t) s := by
  have places : allNotices = (List.finRange 9).map kindAt := by decide
  rw [buildNotices, places, List.foldl_map]

/-! ## The outcome list -/

/-- The notice unit with the session outcome list emptied (R179). -/
def withoutOutcomes (n : Notices) : Notices := { n with outcomes := [], lost := 0 }

/-- A detail reads nothing of the notice unit but the session outcome list. -/
theorem detailBytes_congr (outcomes : n.outcomes = m.outcomes) (lost : n.lost = m.lost) :
    detailBytes n = detailBytes m := by
  funext d
  cases d with
  | sessionEnd => simp only [detailBytes, outcomeBytes, outcomes, lost]
  | _ => rfl

theorem clearKind_outcomeList (n : Notices) (i : Fin 9) :
    (clearKind (kindAt i) n).outcomes = (if i = 3 then [] else n.outcomes) ∧
      (clearKind (kindAt i) n).lost = if i = 3 then 0 else n.lost := by
  simp only [clearKind, kindAt_eq_sessionEnd]
  split <;> exact ⟨rfl, rfl⟩

/-- Clearing kind after kind empties the outcome list where SESSION_END is among them. -/
theorem foldl_clearKind_outcomeList (l : List (Fin 9)) (n : Notices) :
    (l.foldl (fun m i => clearKind (kindAt i) m) n).outcomes = (if 3 ∈ l then [] else n.outcomes) ∧
      (l.foldl (fun m i => clearKind (kindAt i) m) n).lost = if 3 ∈ l then 0 else n.lost := by
  induction l generalizing n with
  | nil => exact ⟨rfl, rfl⟩
  | cons i l ih =>
    obtain ⟨outcomes, lost⟩ := clearKind_outcomeList n i
    rw [List.foldl_cons, (ih _).1, (ih _).2, outcomes, lost]
    by_cases here : i = 3
    · simp [here]
    · simp [here, Ne.symm here]

theorem getElem_foldl_clearKind (l : List (Fin 9)) (n : Notices) (j : Fin 9) :
    (l.foldl (fun m i => clearKind (kindAt i) m) n).kinds[j] = if j ∈ l then n.kinds[j].cleared else n.kinds[j] := by
  rw [← List.foldl_map (f := kindAt) (g := fun m kind => clearKind kind m), getElem_kinds_foldl_clearKind,
    map_index_map_kindAt]

/-! ## The notices of several kinds -/

/-- The notice of the kind at a place, with a detail (R187, Table 12.3). -/
def noticeAt (s : State) (i : Fin 9) (detail : List Byte) : List Byte :=
  mgmtFrame s.cfg s.host.hostAddr 0 (0xFF01 + i.val) .ok
    (num 1 s.note.kinds[i].count.toNat ++ num 1 detail.length ++ detail)

theorem noticeFrame_kindAt (s : State) (i : Fin 9) :
    noticeFrame s (kindAt i) = noticeAt s i (keptDetail s.note s.note.kinds[i].detail) := by
  simp only [noticeFrame, kindAt_index, noticeAt]

/-- The detail that the notice at place `i` carries where the notices of `built` are built in ascending order: the
outcome list is empty behind SESSION_END's notice (R178, R179). -/
def detailAmong (built : List (Fin 9)) (n : Notices) (i : Fin 9) : List Byte :=
  keptDetail (if 3 < i ∧ 3 ∈ built then withoutOutcomes n else n) n.kinds[i].detail

/-- Behind the notice at place `i`, a later notice carries what it carries where `i` is counted among those built. -/
theorem detailAmong_clearKind (later : i < j) :
    detailAmong l (clearKind (kindAt i) n) j = detailAmong (i :: l) n j := by
  obtain ⟨outcomes, lost⟩ := clearKind_outcomeList n i
  have kept : (clearKind (kindAt i) n).kinds[j] = n.kinds[j] :=
    clearKind_other n (by simpa using later.ne')
  simp only [detailAmong, keptDetail, kept]
  refine congrArg (Option.elim _ []) (detailBytes_congr ?_ ?_)
  all_goals
    simp only [apply_ite Notices.outcomes, apply_ite Notices.lost, withoutOutcomes, outcomes, lost, List.mem_cons]
    by_cases here : i = 3
    · subst here
      simp [later]
    · simp [here, Ne.symm here]

/-- The notice at a place joined to the response queue of a busy link. -/
def withNotice (s : State) (i : Fin 9) : State :=
  { s with
    host.responses := s.host.responses ++ [noticeFrame s (kindAt i)], note := clearKind (kindAt i) s.note }

/-- The notices at ascending places, joined to the queue one after another. -/
theorem foldl_withNotice (ascending : l.Pairwise (· < ·)) (s : State) : l.foldl withNotice s =
    { s with
      host.responses := s.host.responses ++ l.map fun i => noticeAt s i (detailAmong l s.note i),
      note := l.foldl (fun m i => clearKind (kindAt i) m) s.note } := by
  induction l generalizing s with
  | nil => simp
  | cons i l ih =>
    obtain ⟨first, ascending⟩ := List.pairwise_cons.mp ascending
    have own : noticeFrame s (kindAt i) = noticeAt s i (detailAmong (i :: l) s.note i) := by
      have unsent : ¬(3 < i ∧ 3 ∈ i :: l) := by
        rintro ⟨above, among⟩
        obtain rfl | behind := List.mem_cons.mp among
        · exact absurd above (lt_irrefl _)
        · exact absurd (first 3 behind) above.asymm
      rw [noticeFrame_kindAt, detailAmong, if_neg unsent]
    have others : ∀ j ∈ l, noticeAt (withNotice s i) j (detailAmong l (withNotice s i).note j) =
        noticeAt s j (detailAmong (i :: l) s.note j) := by
      intro j among
      have later := first j among
      have kept : (clearKind (kindAt i) s.note).kinds[j] = s.note.kinds[j] :=
        clearKind_other s.note (by simpa using later.ne')
      simp only [withNotice, detailAmong_clearKind later, noticeAt, kept]
    rw [List.foldl_cons, ih ascending, List.map_congr_left others, List.map_cons, ← own]
    simp [withNotice]

/-! ## Which kinds qualify -/

/-- The kind at a place is pending and enabled. -/
def due (s : State) (i : Fin 9) : Bool := s.note.kinds[i].pending && s.note.kinds[i].enable

/-- RUN, with the H-port UP and the host link busy. -/
structure Notifying (s : State) : Prop where
  run : s.pow.box = .run
  up : s.host.up = true
  busy : s.host.sending.isSome = true

theorem buildNotice_unqualified {kind : NoticeKind} (unqualified : noticeQualifies s kind = false) :
    buildNotice kind s = s :=
  if_neg (by simp [unqualified])

/-- Where no kind qualifies nothing is built (R178). -/
theorem buildNotices_unqualified (unqualified : ∀ i, noticeQualifies s (kindAt i) = false) : buildNotices s = s :=
  buildNotices_eq_places.trans (List.foldl_fixed' (fun i => buildNotice_unqualified (unqualified i)) _)

theorem Notifying.buildNotice_eq (h : Notifying s) (i : Fin 9) : buildNotice (kindAt i) s =
    if due s i ∧ s.host.responses.length < 16 then withNotice s i else s := by
  have qualifies : noticeQualifies s (kindAt i) = true ↔ due s i ∧ s.host.responses.length < 16 := by
    simp [noticeQualifies, due, h.run, h.up]
  simp only [buildNotice, qualifies]
  congr 1
  exact queueResponse_busy (s := { s with note := clearKind (kindAt i) s.note }) _ h.up h.busy

theorem withNotice_notifying (h : Notifying s) (i : Fin 9) : Notifying (withNotice s i) := ⟨h.run, h.up, h.busy⟩

theorem due_withNotice (other : j ≠ i) : due (withNotice s i) j = due s j := by
  have kept : (clearKind (kindAt i) s.note).kinds[j] = s.note.kinds[j] := clearKind_other s.note (by simpa using other)
  simp only [due, withNotice, kept]

/-- Of the kinds tried in turn those are built that are due, in that order, as long as the queue has room (R178). -/
theorem Notifying.foldl_buildNotice (distinct : l.Nodup) {s : State} (h : Notifying s) :
    l.foldl (fun t i => buildNotice (kindAt i) t) s =
      ((l.filter (due s)).take (16 - s.host.responses.length)).foldl withNotice s := by
  induction l generalizing s with
  | nil => simp
  | cons i l ih =>
    obtain ⟨once, distinct⟩ := List.nodup_cons.mp distinct
    rw [List.foldl_cons, h.buildNotice_eq]
    by_cases isDue : due s i = true
    · obtain room | full := Nat.lt_or_ge s.host.responses.length 16
      · have same : l.filter (due (withNotice s i)) = l.filter (due s) :=
          List.filter_congr fun j among => due_withNotice (ne_of_mem_of_not_mem among once)
        have places : 16 - s.host.responses.length = 16 - (s.host.responses.length + 1) + 1 := by omega
        have length : (withNotice s i).host.responses.length = s.host.responses.length + 1 := by
          simp [withNotice]
        rw [if_pos ⟨isDue, room⟩, ih distinct (withNotice_notifying h i), same, length,
          List.filter_cons_of_pos isDue, places, List.take_succ_cons, List.foldl_cons]
      · rw [if_neg (by omega), ih distinct h, Nat.sub_eq_zero_of_le full, List.take_zero, List.take_zero]
    · rw [if_neg (by simp [isDue]), ih distinct h, List.filter_cons_of_neg isDue]

/-- The places whose notices are built: those due, in the order of Table 11.1, as far as the queue has room (R178). -/
def builtPlaces (s : State) : List (Fin 9) :=
  ((List.finRange 9).filter (due s)).take (16 - s.host.responses.length)

theorem builtPlaces_ascending (s : State) : (builtPlaces s).Pairwise (· < ·) :=
  ((List.pairwise_lt_finRange 9).filter _).take

/-- What the building of notices makes of the state (R178). -/
theorem Notifying.buildNotices_eq (h : Notifying s) : buildNotices s =
    { s with
      host.responses :=
        s.host.responses ++ (builtPlaces s).map fun i => noticeAt s i (detailAmong (builtPlaces s) s.note i),
      note := (builtPlaces s).foldl (fun m i => clearKind (kindAt i) m) s.note } := by
  rw [buildNotices_eq_places, h.foldl_buildNotice (List.nodup_finRange 9)]
  exact foldl_withNotice (builtPlaces_ascending s) s

end

/-! ## SET_NOTICES -/

section
variable {s : State} {r : Request} {p : List Byte}

/-- The kinds with the enables that SET_NOTICES carries (R180). -/
def enabledBy (p : List Byte) (kinds : Vector NoticeState 9) : Vector NoticeState 9 :=
  Vector.ofFn fun i => { kinds[i] with enable := decide (natAt p i.val 1 = 1) }

theorem strictFlag_byteAt (p : List Byte) (i : Nat) :
    strictFlag (byteAt p i) = if natAt p i 1 ≤ 1 then some (decide (natAt p i 1 = 1)) else none := by
  rw [strictFlag_eq, natAt_one]

theorem actSetNotices_refuses (bad : ∃ i : Fin 9, 1 < natAt p i.val 1) :
    actSetNotices r p s = .refuse s .badArgument := by
  obtain ⟨i, bad⟩ := bad
  refine if_neg fun good => ?_
  have flagged := List.all_eq_true.mp good i (List.mem_finRange i)
  rw [strictFlag_byteAt, if_neg (by omega)] at flagged
  exact nomatch flagged

theorem actSetNotices_ok (good : ∀ i : Fin 9, natAt p i.val 1 ≤ 1) :
    actSetNotices r p s =
      .ok { s with note.kinds := enabledBy p s.note.kinds }
        (enablesAndPending { s.note with kinds := enabledBy p s.note.kinds }) := by
  have carried (i : Fin 9) : strictFlag (byteAt p i.val) = some (decide (natAt p i.val 1 = 1)) :=
    (strictFlag_byteAt p i).trans (if_pos (good i))
  simp [actSetNotices, carried, enabledBy]

/-- A request whose kind's rule answers OK, with what follows the response. -/
theorem takeRequest_ok {kind : ReqKind} {rest : List (List Byte)} (h : Taken s kind r p rest)
    {act : Request → List Byte → State → Reply} {after : State → State} {t : State} {data : List Byte}
    (ok : act r p (dequeue r rest s) = .ok t data) :
    takeRequest kind act after s = after (respond r .ok data t) := by
  rw [takeRequest_taken h, ok]
  rfl

end

/-! ## Raising, and the forms of the details -/

/-- A raising changes the state of its own kind alone (R177). -/
theorem getElem_kinds_raise (kind : NoticeKind) (detail : Detail) (s : State) (j : Fin 9) :
    (raise kind detail s).note.kinds[j] =
      if j = kind.index then
        { s.note.kinds[j] with pending := true, count := satAdd s.note.kinds[j].count 1, detail := some detail }
      else s.note.kinds[j] := by
  by_cases raised : j = kind.index
  · subst raised
    simp
  · rw [if_neg raised]
    exact getElem_vecMod_ne _ _ _ _ raised

theorem entryCode_eq (place : Option (Fin 64)) : entryCode place = place.elim 255 fun i => i.val := by
  cases place <;> rfl

/-- Settles O51: the kinds that are due are built in ascending order of place, each clearing what it carries. -/
theorem noticesAreBuiltWhenTheyQualify : Obligations.NoticesAreBuiltWhenTheyQualify := by
  refine ⟨fun s => rfl, map_index_allNotices, fun kind detail s => ⟨_, rfl, fun j => ?_⟩, fun n => ?_,
    fun s unqualified => ?_, fun s built detail run up busy built_eq detail_eq => ?_, fun s r p rest taken => ?_⟩
  · exact getElem_kinds_raise kind detail s j
  · refine ⟨fun edge => ?_, fun i minute => rfl, fun bay edge state => ?_, rfl, rfl, fun cause => rfl,
      fun limit cls place length records used => ?_, fun cls place age => ?_, fun seconds => rfl,
      fun attempts => rfl, fun link up => ?_⟩
    · cases edge <;> rfl
    · cases edge <;> rfl
    · cases limit <;> simp only [detailBytes, entryCode_eq] <;> rfl
    · simp only [detailBytes, entryCode_eq, ageCode]
    · cases link <;> cases up <;> rfl
  · refine congrArg Host.Outcome.next (buildNotices_unqualified fun i => ?_)
    obtain undue | outside | down | full := unqualified
    · obtain quiet | disabled := undue i
      · simp [noticeQualifies, show s.note.kinds[i.val].pending = false from quiet]
      · simp [noticeQualifies, show s.note.kinds[i.val].enable = false from disabled]
    · simp [noticeQualifies, outside]
    · simp [noticeQualifies, down]
    · simp [noticeQualifies, full]
  · have built_eq : built = builtPlaces s := built_eq
    subst built_eq
    have detail_eq : detail = detailAmong (builtPlaces s) s.note := funext detail_eq
    subst detail_eq
    have built := Notifying.buildNotices_eq ⟨run, up, busy⟩
    have note := congrArg State.note built
    refine ⟨buildNotices s, rfl, ?_, ?_, ?_, fun j => ?_⟩
    · rw [note]
      exact built
    · rw [note]
      exact (foldl_clearKind_outcomeList _ _).1
    · rw [note]
      exact (foldl_clearKind_outcomeList _ _).2
    · rw [note]
      exact getElem_foldl_clearKind _ _ j
  · refine ⟨fun bad => congrArg Host.Outcome.next (takeRequest_refuse taken nofun (actSetNotices_refuses bad)),
      fun good => ⟨enabledBy p s.note.kinds,
        congrArg Host.Outcome.next (takeRequest_ok taken (actSetNotices_ok good)), fun i => ?_⟩⟩
    simp [enabledBy]

end Sys2Proof.Machine
end

section
/-! SUPPORT and proofs: the command at the front of the queue (O1), and the queue of waiting commands that every command
keeps (O3): requests and handed-over pacing frames. -/

namespace Sys2Proof.Machine

/-- Settles O1: by the step's own choice between a command and none. -/
theorem stepRunsTheFrontCommand : Obligations.StepRunsTheFrontCommand := by
  intro c rest s waiting
  unfold step
  rw [waiting]

section
variable {s : State}

/-! ## Taking a request or a pacing frame -/

theorem takeRequest_pending {kind : ReqKind} {act : Request → List Byte → State → Reply} {after : State → State}
    (acting : ∀ r p t, (act r p t).state.pending = t.pending) (following : ∀ t, (after t).pending = t.pending) :
    (takeRequest kind act after s).pending = s.pending :=
  takeRequest_keeps (P := fun t => t.pending = s.pending) (fun _ _ _ kept => kept)
    (fun r code data t kept => (respond_pending r code data t).trans kept)
    (fun r p t _ kept => (acting r p t).trans kept) (fun t kept => (following t).trans kept) rfl

theorem takePlain_pending {kind : ReqKind} {act : List Byte → State → Reply}
    (acting : ∀ p t, (act p t).state.pending = t.pending) : (takePlain kind act s).pending = s.pending :=
  takeRequest_pending (fun _ p t => acting p t) fun _ => rfl

theorem takeUnknown_pending : (takeUnknown s).pending = s.pending := by
  unfold takeUnknown
  split
  · rfl
  · split
    · rfl
    · split
      · rfl
      · split
        · exact respond_pending ..
        · rfl

theorem discardShort_pending : (discardShort s).pending = s.pending := by
  unfold discardShort
  repeat' split
  all_goals rfl

theorem takeHandover_pending (message : Option MsgKind) {act : Handover → State → State}
    (acting : ∀ h t, (act h t).pending = t.pending) : (takeHandover message act s).pending = s.pending := by
  unfold takeHandover
  split
  · rfl
  · split
    · exact acting ..
    · rfl

/-! ## The rules of the kinds

A rule that changes the state without a test keeps the queue by definition; here stand the others. -/

section
variable (p : List Byte)

theorem actLoadFlows_pending : (actLoadFlows p s).state.pending = s.pending := by
  unfold actLoadFlows
  dsimp only
  repeat' split
  all_goals rfl

theorem actContinueFlows_pending : (actContinueFlows p s).state.pending = s.pending := by
  unfold actContinueFlows
  split <;> rfl

theorem actReadFlow_pending : (actReadFlow p s).state.pending = s.pending := by
  unfold actReadFlow
  dsimp only
  repeat' split
  all_goals rfl

theorem actReadFlowStatus_pending : (actReadFlowStatus p s).state.pending = s.pending := by
  dsimp only [actReadFlowStatus, Reply.ok]
  split <;> rfl

theorem actSetDefaultAction_pending : (actSetDefaultAction p s).state.pending = s.pending := by
  unfold actSetDefaultAction
  split <;> rfl

theorem actSetPartition_pending : (actSetPartition p s).state.pending = s.pending := by
  unfold actSetPartition
  dsimp only
  repeat' split
  all_goals rfl

theorem actLoadAnswer_pending : (actLoadAnswer p s).state.pending = s.pending := by
  unfold actLoadAnswer
  dsimp only
  repeat' split
  all_goals rfl

theorem actClearAnswer_pending : (actClearAnswer p s).state.pending = s.pending := by
  unfold actClearAnswer
  split <;> rfl

theorem actReadAnswer_pending : (actReadAnswer p s).state.pending = s.pending := by
  unfold actReadAnswer
  split
  · dsimp only [Reply.ok]
    split <;> rfl
  · rfl

theorem actSleep_pending : (actSleep p s).state.pending = s.pending := by
  unfold actSleep
  split <;> rfl

theorem actHeartbeat_pending : (actHeartbeat p s).state.pending = s.pending := by
  dsimp only [actHeartbeat, Reply.ok]
  split <;> rfl

theorem actSetWake_pending : (actSetWake p s).state.pending = s.pending := by
  unfold actSetWake
  dsimp only
  repeat' split
  all_goals rfl

theorem actReadHold_pending : (actReadHold p s).state.pending = s.pending := by
  dsimp only [actReadHold, Reply.ok]
  split <;> rfl

theorem actSpinUp_pending : (actSpinUp p s).state.pending = s.pending := by
  unfold actSpinUp
  split
  · rfl
  · exact demand_pending ..

theorem actSpinDown_pending : (actSpinDown p s).state.pending = s.pending := by
  unfold actSpinDown
  dsimp only
  repeat' split
  · rfl
  · rfl
  · exact takeDown_pending ..
  · rfl

theorem actSetBays_pending : (actSetBays p s).state.pending = s.pending := by
  unfold actSetBays
  dsimp only
  repeat' split
  all_goals rfl

theorem actSetProfile_pending : (actSetProfile p s).state.pending = s.pending := by
  unfold actSetProfile
  repeat' split
  all_goals rfl

theorem actReadSession_pending : (actReadSession p s).state.pending = s.pending := by
  unfold actReadSession
  split
  · dsimp only [Reply.ok]
    split <;> rfl
  · rfl

theorem actHaltSession_pending : (actHaltSession p s).state.pending = s.pending := by
  unfold actHaltSession
  dsimp only
  repeat' split
  · rfl
  · exact (arbitrate_pending _).trans (haltSession_pending ..)
  · rfl
  · rfl

theorem actSetNotices_pending (r : Request) : (actSetNotices r p s).state.pending = s.pending := by
  unfold actSetNotices
  split <;> rfl

theorem actProgramRetained_pending (r : Request) : (actProgramRetained r p s).state.pending = s.pending := by
  unfold actProgramRetained
  repeat' split
  all_goals rfl

theorem actReadRetained_pending : (actReadRetained p s).state.pending = s.pending := by
  unfold actReadRetained
  split <;> rfl

end

end

end Sys2Proof.Machine
end

section
/-! SUPPORT and proofs: every command ends in a next state with the same commands waiting (O3): the commands. -/

namespace Sys2Proof.Machine

section
variable {s : State}

/-! ## Consequences in a free order -/

theorem inAnyOrder_pending {f g k : State → State} (first : ∀ t, (f t).pending = t.pending)
    (second : ∀ t, (g t).pending = t.pending) (third : ∀ t, (k t).pending = t.pending) :
    (inAnyOrder f g k s).pending = s.pending :=
  inAnyOrder_keeps (P := fun t => t.pending = s.pending) (fun _ _ kept => kept) (fun t kept => (first t).trans kept)
    (fun t kept => (second t).trans kept) (fun t kept => (third t).trans kept) rfl

theorem reported_pending (edge : PresenceEdge) {other : State → State} (needed : Nat)
    (following : ∀ t, (other t).pending = t.pending) : (reported edge other needed s).pending = s.pending :=
  reported_keeps (P := fun t => t.pending = s.pending) (fun _ _ kept => kept)
    (fun t kept => (presenceReport_pending edge t).trans kept) (fun t kept => (following t).trans kept) rfl

/-! ## The commands -/

/-- Every command ends in a next state and keeps the waiting commands. -/
theorem exec_pending (c : Instr) : ∃ t, exec c s = .next t ∧ t.pending = s.pending := by
  cases c with
  | powerOn | panelReset | recordStale => exact ⟨_, rfl, rfl⟩
  | offer => exact ⟨_, rfl, takeHandover_pending _ takeOffer_pending⟩
  | block => exact ⟨_, rfl, takeHandover_pending _ takeBlock_pending⟩
  | withdraw => exact ⟨_, rfl, takeHandover_pending _ takeWithdraw_pending⟩
  | pacingFrameMalformed => exact ⟨_, rfl, takeHandover_pending none fun _ => protocolError_pending⟩
  | grantIssue => exact ⟨_, rfl, arbitrate_pending s⟩
  | seqExhausted | stallExpiry => exact ⟨_, rfl, haltIf_pending ..⟩
  | hPortDown => exact ⟨_, rfl, portDown_pending s⟩
  | noticeBuild => exact ⟨_, rfl, buildNotices_pending s⟩
  | unknownRequest => exact ⟨_, rfl, takeUnknown_pending⟩
  | mgmtFrameTooShort => exact ⟨_, rfl, discardShort_pending⟩
  | holdoffExpiry | shareWindowExpiry | stabilizationExpiry | activityEdge =>
    refine ⟨_, rfl, ?_⟩
    split <;> rfl
  | lanFrameTaken | questionTaken | hostDownAsserted | entryDeadlineExpiry | bootDeadlineExpiry | heartbeatLapse
  | minuteEntered | spinExpiry | idleExpiry | lanLinkDown | lanLinkUp | lanFrameSent =>
    refine ⟨_, rfl, ?_⟩
    split <;> simp
  | grantExpiry | retryOffExpiry | buttonEvent | programmingComplete | programResponseBuilt =>
    refine ⟨_, rfl, ?_⟩
    repeat' split
    all_goals simp
  | hostFrameReceived frame =>
    refine ⟨_, rfl, ?_⟩
    dsimp only
    split
    · split
      · split <;> rfl
      · exact forwardToLan_pending ..
    · rfl
  | hostLinkFrameSent =>
    refine ⟨_, rfl, ?_⟩
    split
    · rfl
    · dsimp only
      split <;> simp
  | bayInsertion bay =>
    refine ⟨_, rfl, ?_⟩
    split
    · exact reported_pending .insert s.bay.bays[bay].needed (demand_pending _)
    · rfl
  | bayRemoval bay =>
    refine ⟨_, rfl, ?_⟩
    dsimp only
    split
    · rfl
    · exact (reported_pending .remove s.bay.bays[bay].needed (bayLost_pending bay)).trans (takeDown_pending ..)
  | hPortUp =>
    refine ⟨_, rfl, ?_⟩
    split
    · dsimp only
      split
      · exact (inAnyOrder_pending buildNotices_pending release_pending startDelivery_pending).trans
          (hostKick_pending _)
      · exact hostKick_pending _
    · rfl
  | loadFlows => exact ⟨_, rfl, takePlain_pending fun p _ => actLoadFlows_pending p⟩
  | continueFlows => exact ⟨_, rfl, takePlain_pending fun p _ => actContinueFlows_pending p⟩
  | readFlow => exact ⟨_, rfl, takePlain_pending fun p _ => actReadFlow_pending p⟩
  | readFlowStatus => exact ⟨_, rfl, takePlain_pending fun p _ => actReadFlowStatus_pending p⟩
  | setDefaultAction => exact ⟨_, rfl, takePlain_pending fun p _ => actSetDefaultAction_pending p⟩
  | setPartition => exact ⟨_, rfl, takePlain_pending fun p _ => actSetPartition_pending p⟩
  | loadAnswer => exact ⟨_, rfl, takePlain_pending fun p _ => actLoadAnswer_pending p⟩
  | clearAnswer => exact ⟨_, rfl, takePlain_pending fun p _ => actClearAnswer_pending p⟩
  | readAnswer => exact ⟨_, rfl, takePlain_pending fun p _ => actReadAnswer_pending p⟩
  | sleep => exact ⟨_, rfl, takePlain_pending fun p _ => actSleep_pending p⟩
  | heartbeat => exact ⟨_, rfl, takePlain_pending fun p _ => actHeartbeat_pending p⟩
  | setWake => exact ⟨_, rfl, takePlain_pending fun p _ => actSetWake_pending p⟩
  | readHold => exact ⟨_, rfl, takePlain_pending fun p _ => actReadHold_pending p⟩
  | spinUp => exact ⟨_, rfl, takePlain_pending fun p _ => actSpinUp_pending p⟩
  | spinDown => exact ⟨_, rfl, takePlain_pending fun p _ => actSpinDown_pending p⟩
  | setBays => exact ⟨_, rfl, takePlain_pending fun p _ => actSetBays_pending p⟩
  | setProfile => exact ⟨_, rfl, takePlain_pending fun p _ => actSetProfile_pending p⟩
  | readSession => exact ⟨_, rfl, takePlain_pending fun p _ => actReadSession_pending p⟩
  | haltSession => exact ⟨_, rfl, takePlain_pending fun p _ => actHaltSession_pending p⟩
  | readRetained => exact ⟨_, rfl, takePlain_pending fun p _ => actReadRetained_pending p⟩
  | settleFlows | unsettleFlows | readPartition | readWake | setClock | setAlarms | setTiming | clearHold | readBays
  | setShare | readNotices =>
    exact ⟨_, rfl, takePlain_pending fun _ _ => rfl⟩
  | ready => exact ⟨_, rfl, takeRequest_pending (fun _ _ _ => rfl) runReached_pending⟩
  | setNotices => exact ⟨_, rfl, takeRequest_pending (fun r p _ => actSetNotices_pending p r) buildNotices_pending⟩
  | programRetained => exact ⟨_, rfl, takeRequest_pending (fun r p _ => actProgramRetained_pending p r) fun _ => rfl⟩

end

/-- Settles O3: the state of every outcome keeps the queue through the operations it is made of. -/
theorem everyCommandKeepsTheWaitingQueue : Obligations.EveryCommandKeepsTheWaitingQueue :=
  fun c _ => exec_pending c

end Sys2Proof.Machine
end
